-- ==== Sys2Proof/Word.lean ====
section
/-! DEFINITION. The byte and the byte string of the OMT-4128's packets, records and buffers. -/

namespace Sys2Proof

/-- One byte of a packet, a record or a buffer (R33: every layout is little-endian in bytes). -/
abbrev Byte := BitVec 8

/-- A byte string, lowest offset first. -/
abbrev Bytes := List Byte

/-- The byte with the low eight bits of a natural number. -/
def byteOf (n : Nat) : Byte := BitVec.ofNat 8 n

end Sys2Proof
end

