-- ==== Sys2Proof/Syntax.lean ====
section
/-! DEFINITION. The commands and events the block takes: one constructor of `Instr` per row of the
table of operations and events. A host command packet is carried whole (`Cmd`); an event carries what
the world outside supplies with it (a received frame, a measured value, a DMA result). -/

namespace Sys2Proof

/-- A Novloth command packet (R33, R35) as one of the four ports sends it.
`payload` is the payload proper: without the 8 bytes of `at_stroke`, and for a `by_ref` packet the bytes
that the DMA read returned. -/
structure Cmd where
  /-- The port that sends it, 0-3 for H0-H3. -/
  port    : Fin 4
  /-- The ring pair that carries it. -/
  ring    : Fin 128
  /-- R33 `tag`. -/
  tag     : Nat
  /-- R33 `sequence`. -/
  seq     : Nat
  /-- R33 `compartment`: 0-7, or 0xFF. -/
  comp    : Nat
  /-- R35 `flags`: [0] by_ref, [1] fence, [2] at_stroke. -/
  flags   : Nat
  /-- R35: the target stroke, read only with `at_stroke`. -/
  atStroke : Nat
  /-- R34 `target_class`. -/
  cls     : Nat
  /-- R34 `target_index`. -/
  idx     : Nat
  /-- The payload bytes. -/
  payload : Bytes
  /-- R35: the host address that a `by_ref` payload names; 0 without `by_ref`. -/
  refAddr : Nat
  deriving DecidableEq, Repr

/-- A configuration write or an MSI-X table write of H0 or H1 (R419). -/
inductive MsixWrite where
  /-- MSI-X Enable, Bus Master Enable and the Function Mask. -/
  | config (enable master fmask : Bool)
  /-- The Mask bit of a vector. -/
  | mask (vec : Fin 64) (masked : Bool)
  deriving DecidableEq, Repr

/-- What ends park (R468). -/
inductive ParkExit where
  /-- `PMIC_PG` fell: the device starts again at power-on. -/
  | power
  /-- `RESET_N`. -/
  | pin
  /-- VMAIN has been good for 10 ms. -/
  | vmain
  deriving DecidableEq, Repr

/-- What a start meets outside the model (R484): the results of its checks and the measured times. -/
structure StartUp where
  /-- R479: the backup domain's CRC fits and its brownout detector has not tripped. -/
  bkpOk    : Bool
  /-- Seconds of the backup domain since the last start. -/
  elapsed  : Nat
  /-- R485: the CRCs of the option copies A and B and of the trim copies A and B. -/
  optAOk   : Bool
  optBOk   : Bool
  trimAOk  : Bool
  trimBOk  : Bool
  /-- R484 steps 4 and 5: the clocks are good and the memory tests pass. -/
  clocksOk : Bool
  /-- R484 step 6: the signatures of the images in slots 0 and 1. -/
  image0Ok : Bool
  image1Ok : Bool
  /-- R328: the safety self-test. -/
  selfTestOk : Bool
  /-- R472: the CRCs of the save sets in areas 0 and 1. -/
  set0Ok   : Bool
  set1Ok   : Bool
  /-- Milliseconds from `PMIC_PG` to ready. -/
  ms       : Nat
  deriving DecidableEq, Repr

inductive Instr where
  /-- STOP_CAT0 (R55): Urgent command that turns torque off at once on the target's axes and puts STO on its local stages from the next lift latch point. -/
  | stopCat0 (c : Cmd)
  /-- STOP_CAT1 (R55): Urgent command that starts a quick-stop ramp and turns torque off at standstill. -/
  | stopCat1 (c : Cmd)
  /-- STOP_CAT2 (R55): Urgent command that starts a quick-stop ramp and then holds position under control. -/
  | stopCat2 (c : Cmd)
  /-- FEED_HOLD (R55): Urgent command that decelerates along the unchanged path, keeping gearing and cam relations, and can be resumed. -/
  | feedHold (c : Cmd)
  /-- HALT (R55): Urgent command that freezes the setpoint generators; the axes decelerate at their halt ramps and hold. -/
  | halt (c : Cmd)
  /-- SESSION_OPEN (R62): Opens the port's session on its control ring pair and reports the undelivered completions. -/
  | sessionOpen (c : Cmd)
  /-- SESSION_CLOSE (R65): Stops fetching, waits for fetched commands to complete, and deletes the port's rings except the control pair. -/
  | sessionClose (c : Cmd)
  /-- RING_CREATE (R63): Creates a ring pair of a given class, location and size for the issuing port, or re-creates one that is in ERROR. -/
  | ringCreate (c : Cmd)
  /-- RING_DELETE (R66): Stops fetching from a ring and deletes it once every command fetched from it has completed. -/
  | ringDelete (c : Cmd)
  /-- RING_STATS_CLEAR (R53): Sets the starvation and completion-stall counters of a ring pair to zero. -/
  | ringStatsClear (c : Cmd)
  /-- DEVICE_IDENTIFY (R63): Returns part, silicon step, firmware version, active slot, serial number and options CRC. -/
  | deviceIdentify (c : Cmd)
  /-- NOP (R63): Completes with an empty reply and ignores its payload. -/
  | nop (c : Cmd)
  /-- CMD_ABORT (R67): Cancels a command of the same port that has not yet passed its latch point or planning point. -/
  | cmdAbort (c : Cmd)
  /-- TAG_LIMITS (R49): Sets the shared-tag cap of each port; cell owner only. -/
  | tagLimits (c : Cmd)
  /-- STOP_RELEASE (R58): Ends an urgent stop effect at the lift latch point; compartment owner only. -/
  | stopRelease (c : Cmd)
  /-- FEED_RESUME (R58): Planning command that ends a feed hold at the first stroke of its cell cycle, together with the master chains. -/
  | feedResume (c : Cmd)
  /-- CELL_OWNER_SET (R371): Passes the cell-owner role to a port, and optionally names a standby port, when the command completes. -/
  | cellOwnerSet (c : Cmd)
  /-- COMPARTMENT_CREATE (R372): Creates a compartment with its owner, orphan reaction, observer mask and stop mask at the latch point. -/
  | compartmentCreate (c : Cmd)
  /-- COMPARTMENT_DELETE (R372): Releases every resource of a compartment and returns it to NONE, or refuses the whole delete if any resource is not idle. -/
  | compartmentDelete (c : Cmd)
  /-- RESOURCE_ASSIGN (R374): Assigns a range of resource indices of one class to a compartment, as a whole or not at all. -/
  | resourceAssign (c : Cmd)
  /-- RESOURCE_RELEASE (R374): Releases a range of idle resources from a compartment and disables their event routes. -/
  | resourceRelease (c : Cmd)
  /-- RIGHTS_SET (R377): Changes a compartment's owner, orphan reaction and rights, and updates the hardware rights table at the latch point. -/
  | rightsSet (c : Cmd)
  /-- COMPARTMENT_QUERY (R392): Returns a compartment's state, rights and resource ownership bitmaps. -/
  | compartmentQuery (c : Cmd)
  /-- BLOCK_RESET (R381): Isolates a block, aborts its commands and holds it in reset until its clock is good. -/
  | blockReset (c : Cmd)
  /-- BLOCK_QUERY (R392): Returns the reset state of each of the 56 blocks. -/
  | blockQuery (c : Cmd)
  /-- COMPARTMENT_EVENT_ACK (R391): Serves the causes of a compartment's OL_CMP_EVENTS. -/
  | compartmentEventAck (c : Cmd)
  /-- STROKE_CONFIGURE (R32): Sets the stroke length, cell cycle and phase boundaries from the next stroke boundary while every segment and stage is stopped. -/
  | strokeConfigure (c : Cmd)
  /-- STROKE_QUERY (R32): Returns the stroke configuration, the lock mode and the pull limit. -/
  | strokeQuery (c : Cmd)
  /-- STROKE_LOCK (R27): Selects free or locked mode and the pull limit of the stroke sequencer. -/
  | strokeLock (c : Cmd)
  /-- BUDGET_QUERY (R32): Returns the used and available suction, discharge, lift, fast-loop, separation and planner budgets. -/
  | budgetQuery (c : Cmd)
  /-- BUDGET_TRIAL (R32): Checks an embedded command against the budgets without executing it. -/
  | budgetTrial (c : Cmd)
  /-- STROKE_COUNTERS_CLEAR (R32): Clears the overrun counters and OL_STK_LIFT_PEAK at the next lift latch point. -/
  | strokeCountersClear (c : Cmd)
  /-- HOOK_LOAD (R84): Checks a loop hook program and installs it at an axis hook point at the latch point. -/
  | hookLoad (c : Cmd)
  /-- HOOK_REMOVE (R85): Removes the hook installed at an axis hook point. -/
  | hookRemove (c : Cmd)
  /-- HOOK_QUERY (R83): Returns a hook and its sticky flags, and optionally clears the flags. -/
  | hookQuery (c : Cmd)
  /-- HOOK_USER_SET (R85): Writes the selected hook user variables of an axis. -/
  | hookUserSet (c : Cmd)
  /-- AXIS_CONFIGURE (R127): Sets a disabled axis's law, source, loop options, spans and power binding. -/
  | axisConfigure (c : Cmd)
  /-- AXIS_ENABLE (R127): Moves an axis between DISABLED and OFF after checking its binding and the budgets. -/
  | axisEnable (c : Cmd)
  /-- AXIS_LIMITS (R127): Sets an axis's current, velocity, ramp, fault and timeout limits and its fault reactions. -/
  | axisLimits (c : Cmd)
  /-- COEF_WRITE (R107): Writes the full coefficient set of the inactive bank of an axis. -/
  | coefWrite (c : Cmd)
  /-- COEF_READ (R126): Returns the coefficient set of a bank of an axis. -/
  | coefRead (c : Cmd)
  /-- BANK_SWAP (R108): Activates a coefficient bank at the lift latch point and carries the loop states over. -/
  | bankSwap (c : Cmd)
  /-- AXIS_MODE (R104): Moves an axis among OFF, the manual states and AUTO, with the bumpless presets of R105. -/
  | axisMode (c : Cmd)
  /-- AXIS_MANUAL_SET (R104): Sets the manual current or velocity references of an axis in a manual state. -/
  | axisManualSet (c : Cmd)
  /-- FAULT_CLEAR (R115): Returns a faulted axis to OFF if no ramp reaction runs and its cause has ended. -/
  | faultClear (c : Cmd)
  /-- INJECT_START (R122): Starts a test-signal injection at an axis point and sets capture channels to record it. -/
  | injectStart (c : Cmd)
  /-- INJECT_STOP (R123): Ends the running injection early. -/
  | injectStop (c : Cmd)
  /-- AXIS_FLAGS_CLEAR (R124): Clears the sticky flags of OL_AX_FLAGS at the next latch point. -/
  | axisFlagsClear (c : Cmd)
  /-- AXIS_EVENT_ACK (R125): Serves the causes of an axis's OL_AX_EVENTS. -/
  | axisEventAck (c : Cmd)
  /-- FB_CONFIGURE (R128): Assigns a disabled axis its feedback source, scaling and flags, and starts direction tracking. -/
  | fbConfigure (c : Cmd)
  /-- FB_LIMITS (R155): Sets an axis's soft position limits. -/
  | fbLimits (c : Cmd)
  /-- FB_POSITION_SET (R134): Sets p_act at the feedback instant, shifts the history values that depend on it, and sets referenced. -/
  | fbPositionSet (c : Cmd)
  /-- SC_CONFIGURE (R155): Sets a sine/cosine channel's calibration mode, amplitude checks and reference-mark use. -/
  | scConfigure (c : Cmd)
  /-- SC_CAL_WRITE (R137): Writes the offset, gain and phase coefficients of a sine/cosine channel. -/
  | scCalWrite (c : Cmd)
  /-- EO_CONFIGURE (R150): Sets an encoder output's mode, source, ratio and index, rebasing it if the output is enabled. -/
  | eoConfigure (c : Cmd)
  /-- EO_ENABLE (R150): Enables an encoder output with rebased counts, or disables it and holds its states. -/
  | eoEnable (c : Cmd)
  /-- FB_EVENT_ACK (R145): Serves the feedback or encoder-output causes of an axis or output. -/
  | fbEventAck (c : Cmd)
  /-- FB_FLAGS_CLEAR (R154): Clears the sticky bits and OL_EO_DROPPED of an axis, channel or encoder output. -/
  | fbFlagsClear (c : Cmd)
  /-- MOVE (R159): Planning command that starts, queues or retargets an absolute, relative or velocity profile move. -/
  | move (c : Cmd)
  /-- MOVE_MODIFY (R162): Planning command that replaces the limits of the running move. -/
  | moveModify (c : Cmd)
  /-- VM_CONFIGURE (R167): Planning command that sets a virtual master's source, enable, ramp and preset. -/
  | vmConfigure (c : Cmd)
  /-- GEAR_ENGAGE (R169): Planning command that engages a gear relation with a sync length, optionally at a master position. -/
  | gearEngage (c : Cmd)
  /-- GEAR_RATIO (R170): Planning command that rebases an engaged gear relation to a new ratio. -/
  | gearRatio (c : Cmd)
  /-- RELATION_PHASE (R171): Planning command that moves a relation's phase to a new target along a trapezoidal profile. -/
  | relationPhase (c : Cmd)
  /-- DISENGAGE (R186): Planning command that ends a relation and ramps the slave to rest. -/
  | disengage (c : Cmd)
  /-- CAM_CREATE (R173): Opens a cam table of a given size and format in the motion-table pool. -/
  | camCreate (c : Cmd)
  /-- CAM_WRITE (R173): Writes points into an open cam table. -/
  | camWrite (c : Cmd)
  /-- CAM_COMMIT (R174): Checks an open cam table and makes it VALID. -/
  | camCommit (c : Cmd)
  /-- CAM_DELETE (R173): Deletes a cam table that is not in use. -/
  | camDelete (c : Cmd)
  /-- CAM_ENGAGE (R176): Planning command that engages a cam relation without a position step. -/
  | camEngage (c : Cmd)
  /-- CAM_NEXT (R177): Planning command that names a periodic table to replace the running one at its next period boundary. -/
  | camNext (c : Cmd)
  /-- LATCH_ARM (R180): Arms a position latch on a trigger source, single-shot or continuous, with an optional window. -/
  | latchArm (c : Cmd)
  /-- LATCH_DISARM (R180): Disarms a position latch. -/
  | latchDisarm (c : Cmd)
  /-- STEP_CONFIGURE (R182): Makes a disabled law-1 local axis an open-loop or closed-loop stepper. -/
  | stepConfigure (c : Cmd)
  /-- STEPDIR_CONFIGURE (R183): Enables or disables the step/direction setpoint source of an axis. -/
  | stepdirConfigure (c : Cmd)
  /-- HOME_STALL (R181): Starts stall homing of a local axis toward a hard stop under a reduced current limit. -/
  | homeStall (c : Cmd)
  /-- PF_EVENT_ACK (R185): Serves the profile causes of an axis or virtual master. -/
  | pfEventAck (c : Cmd)
  /-- PF_FLAGS_CLEAR (R185): Clears the sticky profile bits at the next latch point. -/
  | pfFlagsClear (c : Cmd)
  /-- STAGE_CONFIGURE (R214): Sets a disabled stage's PWM division, shunt, trip, supply and half-bridge parameters. -/
  | stageConfigure (c : Cmd)
  /-- STAGE_ENABLE (R214): Moves a stage among DISABLED, LOOP and OPEN, measuring the shunt offsets when enabling. -/
  | stageEnable (c : Cmd)
  /-- PWM_SET (R196): Writes the period, compares and output modes of an OPEN stage into its shadows. -/
  | pwmSet (c : Cmd)
  /-- PWM_COMPARE_SET (R196): Writes the selected compares of an OPEN stage into its shadows. -/
  | pwmCompareSet (c : Cmd)
  /-- PWM_PERIOD_SET (R196): Writes the period of an OPEN stage into its shadow. -/
  | pwmPeriodSet (c : Cmd)
  /-- PWM_LOCK (R197): Suspends a stage's shadow transfers, or releases them to transfer together. -/
  | pwmLock (c : Cmd)
  /-- PWM_EVENT_CONFIGURE (R194): Configures a stage event point's edge, prescaler, trigger line and host event. -/
  | pwmEventConfigure (c : Cmd)
  /-- STAGE_FAULT_CLEAR (R205): Clears a stage's latched trip causes unless an enabled trip input is still asserted. -/
  | stageFaultClear (c : Cmd)
  /-- STAGE_EVENT_ACK (R212): Serves the causes of a stage's OL_STG_EVENTS. -/
  | stageEventAck (c : Cmd)
  /-- STAGE_FLAGS_CLEAR (R212): Clears a stage's sticky bits and its refresh and interlock counters. -/
  | stageFlagsClear (c : Cmd)
  /-- SEGMENT_CONFIGURE (R271): Sets a stopped segment's termination and bus-error threshold. -/
  | segmentConfigure (c : Cmd)
  /-- SEGMENT_START (R250): Starts a segment through LISTEN and STARTING to RUNNING, completing when the cruise has ended. -/
  | segmentStart (c : Cmd)
  /-- SEGMENT_STOP (R258): Sends seg_off for two strokes, then silences and stops the segment. -/
  | segmentStop (c : Cmd)
  /-- NODE_READ (R271): Reads a node space over slack services, or from the identity cache when cached is set. -/
  | nodeRead (c : Cmd)
  /-- NODE_WRITE (R271): Writes node parameter space 2 in exchanges that each fit a window. -/
  | nodeWrite (c : Cmd)
  /-- NODE_ACTION (R271): Sends a clear-faults, termination or reset action to a node. -/
  | nodeAction (c : Cmd)
  /-- NODE_ACCEPT (R262): Makes a valid MISMATCH node's record the new reference and puts the position in PRESENT. -/
  | nodeAccept (c : Cmd)
  /-- SEGMENT_EVENT_ACK (R270): Serves the causes of a segment's OL_SEG_EVENTS. -/
  | segmentEventAck (c : Cmd)
  /-- SCHEDULE_WRITE (R247): Writes a stopped segment's schedule table, explicit or automatic. -/
  | scheduleWrite (c : Cmd)
  /-- SCHEDULE_READ (R246): Returns a segment's schedule table in force. -/
  | scheduleRead (c : Cmd)
  /-- BUS_COUNTERS_READ (R246): Returns a position's bus counters, its delay in use and its candidate delay. -/
  | busCountersRead (c : Cmd)
  /-- BUS_COUNTERS_CLEAR (R246): Clears a segment's bus counters at the next lift latch point. -/
  | busCountersClear (c : Cmd)
  /-- ARM_CONFIGURE (R274): Sets a disabled arm's kinematics, joint limits and link data. -/
  | armConfigure (c : Cmd)
  /-- ARM_CAPSULES (R275): Replaces a disabled arm's collision and tool capsules. -/
  | armCapsules (c : Cmd)
  /-- ARM_TOOLS (R276): Replaces a disabled arm's tool set. -/
  | armTools (c : Cmd)
  /-- ARM_STOP_MODEL (R277): Sets a disabled arm's measured stopping model. -/
  | armStopModel (c : Cmd)
  /-- ARM_ENABLE (R278): Planning command that enables an arm on its joints, or disables it at standstill. -/
  | armEnable (c : Cmd)
  /-- YARD_CONFIGURE (R289): Selects host-ring or append filling of an arm's yard and its float levels. -/
  | yardConfigure (c : Cmd)
  /-- YARD_APPEND (R289): Appends up to 25 path segments to an arm's SRAM yard. -/
  | yardAppend (c : Cmd)
  /-- ARM_PATH_RESET (R292): Discards the SRAM yard, sets the yard idle and sets the host-ring head. -/
  | armPathReset (c : Cmd)
  /-- ARM_OVERRIDE (R288): Planning command that re-times the unplanned path at a new override. -/
  | armOverride (c : Cmd)
  /-- ARM_PAYLOAD (R276): Planning command that sets the mass of the load carried by the tool. -/
  | armPayload (c : Cmd)
  /-- ZONE_DEFINE (R295): Defines a zone as a bounded convex volume with a margin. -/
  | zoneDefine (c : Cmd)
  /-- ZONE_CLAIM (R299): Places a host run request for zones; completes at the grant. -/
  | zoneClaim (c : Cmd)
  /-- ZONE_RELEASE (R299): Releases zones held by the host at the next planning point. -/
  | zoneRelease (c : Cmd)
  /-- ZONE_FORCE_RELEASE (R300): Frees a zone whatever holds it and flushes the path of an arm that still touches it. -/
  | zoneForceRelease (c : Cmd)
  /-- ARM_FAULT_CLEAR (R294): Moves a faulted arm at standstill with healthy joints to IDLE. -/
  | armFaultClear (c : Cmd)
  /-- ARM_EVENT_ACK (R304): Serves the causes of an arm's OL_ARM_EVENTS. -/
  | armEventAck (c : Cmd)
  /-- ARM_FLAGS_CLEAR (R304): Clears an arm's sticky flags. -/
  | armFlagsClear (c : Cmd)
  /-- ARM_QUERY (R305): Returns an arm's sticky flags, spans ahead, yard fill and pending claim age. -/
  | armQuery (c : Cmd)
  /-- SAFETY_AXIS_CONFIGURE (R310): Sets an axis's secondary source, STO output, function activations and safety limits. -/
  | safetyAxisConfigure (c : Cmd)
  /-- SAFETY_ARM_CONFIGURE (R340): Sets an arm's safety function activations, SLS limit and separation parameters. -/
  | safetyArmConfigure (c : Cmd)
  /-- SAFETY_INPUT_CONFIGURE (R312): Sets a safety input's contact mode, kind, test demand, filter and discrepancy time. -/
  | safetyInputConfigure (c : Cmd)
  /-- SAFETY_OUTPUT_CONFIGURE (R313): Sets the activation source of a dual-channel safety output. -/
  | safetyOutputConfigure (c : Cmd)
  /-- SAFETY_COMPARTMENT_CONFIGURE (R340): Sets a compartment's track latency, minimum human speed and release cycles. -/
  | safetyCompartmentConfigure (c : Cmd)
  /-- SAFETY_COMMIT (R337): Commits the safety configuration when both channels' signatures equal the expected value. -/
  | safetyCommit (c : Cmd)
  /-- SAFETY_QUERY (R340): Returns the safety function states of every axis and arm of a compartment. -/
  | safetyQuery (c : Cmd)
  /-- SAFETY_MESSAGE (R333): Delivers a compartment's permits, reset bit and human tracks from H3, checked by CRC and alive counter. -/
  | safetyMessage (c : Cmd)
  /-- SAFETY_EVENT_ACK (R339): Serves the causes of a compartment's OL_SAF_EVENTS. -/
  | safetyEventAck (c : Cmd)
  /-- TRIG_CONFIGURE (R369): Configures a disabled trigger unit as a primitive or a combiner. -/
  | trigConfigure (c : Cmd)
  /-- TRIG_ENABLE (R346): Enables or disables a trigger unit at the latch point. -/
  | trigEnable (c : Cmd)
  /-- TRIG_QUERY (R369): Returns a trigger unit's fire count and last tag. -/
  | trigQuery (c : Cmd)
  /-- TRIGIO_CONFIGURE (R347): Sets a TRIGIO pin's direction, driver and pulse length. -/
  | trigioConfigure (c : Cmd)
  /-- CAP_CONFIGURE (R349): Sets an idle capture channel's source, storage, memory mode and parameters. -/
  | capConfigure (c : Cmd)
  /-- CAP_ARM (R348): Arms a capture channel in circular or flume mode at the latch point. -/
  | capArm (c : Cmd)
  /-- CAP_STOP (R356): Stops a capture channel and optionally releases its buffer. -/
  | capStop (c : Cmd)
  /-- CAP_READ (R357): Returns held circular records, oldest first, inline or into a host buffer. -/
  | capRead (c : Cmd)
  /-- LANDING_CONFIGURE (R358): Sets a capture engine's landing share and float levels. -/
  | landingConfigure (c : Cmd)
  /-- FLUME_RING_CONFIGURE (R358): Configures or disables a flume ring of a capture engine in host memory. -/
  | flumeRingConfigure (c : Cmd)
  /-- REG_CONFIGURE (R363): Gives a slave axis a registration function on a latch of its master axis. -/
  | regConfigure (c : Cmd)
  /-- REG_ENABLE (R363): Enables registration and takes over its latch as continuous, or disables it. -/
  | regEnable (c : Cmd)
  /-- CAP_EVENT_ACK (R368): Serves the causes of a capture channel or engine. -/
  | capEventAck (c : Cmd)
  /-- REG_EVENT_ACK (R368): Serves the registration causes of an axis. -/
  | regEventAck (c : Cmd)
  /-- CAP_COUNTERS_CLEAR (R369): Clears a capture engine's counters and peak. -/
  | capCountersClear (c : Cmd)
  /-- DI_CONFIGURE (R422): Sets a DI's type, edge events, counter length and debounce time. -/
  | diConfigure (c : Cmd)
  /-- DI_TEST (R424): Sets or clears a DI's test flag, which selects counter mode. -/
  | diTest (c : Cmd)
  /-- FIELD_SUPPLY_CONFIGURE (R424): Sets the field-supply recovery time. -/
  | fieldSupplyConfigure (c : Cmd)
  /-- DO_CONFIGURE (R427): Sets a DO's overload restart and off-state open-wire test. -/
  | doConfigure (c : Cmd)
  /-- DO_SET (R426): Writes the commanded levels of a compartment's DOs at the latch point. -/
  | doSet (c : Cmd)
  /-- DO_FAULT_CLEAR (R428): Ends a DO's latched overload unless overtemperature is live. -/
  | doFaultClear (c : Cmd)
  /-- IO_EVENT_ACK (R431): Serves the causes of a DI, a DO or the DO summary. -/
  | ioEventAck (c : Cmd)
  /-- IO_FLAGS_CLEAR (R442): Clears the sticky bits of a DI or DO and OL_DO_RETRIES. -/
  | ioFlagsClear (c : Cmd)
  /-- CAN_CONFIGURE (R433): Sets a stopped CAN channel's mode, bit timing, TDC, FIFOs and receive delay. -/
  | canConfigure (c : Cmd)
  /-- CAN_FILTER_SET (R436): Writes acceptance filters of a stopped CAN channel. -/
  | canFilterSet (c : Cmd)
  /-- CAN_START (R442): Starts a CAN channel. -/
  | canStart (c : Cmd)
  /-- CAN_STOP (R439): Finishes the frame in progress, stops the channel and aborts its pending buffers. -/
  | canStop (c : Cmd)
  /-- CAN_TX (R434): Loads a frame into a free transmit buffer and makes it pending. -/
  | canTx (c : Cmd)
  /-- CAN_TX_ABORT (R435): Aborts the masked transmit buffers, letting a frame on the bus finish. -/
  | canTxAbort (c : Cmd)
  /-- CAN_FIFO_READ (R438): Returns and removes frames from a receive FIFO, oldest first. -/
  | canFifoRead (c : Cmd)
  /-- CAN_RECOVER (R439): Starts the bus-off recovery sequence of a CAN channel. -/
  | canRecover (c : Cmd)
  /-- CAN_EVENT_ACK (R441): Serves the causes of a CAN channel. -/
  | canEventAck (c : Cmd)
  /-- CAN_COUNTERS_CLEAR (R442): Clears a CAN channel's counters, peaks and sticky bits. -/
  | canCountersClear (c : Cmd)
  /-- CLOCK_SET (R445): Sets cell time at the first stroke boundary after the latch point. -/
  | clockSet (c : Cmd)
  /-- CLOCK_STEP (R445): Steps cell time by a signed offset at the first stroke boundary after the latch point. -/
  | clockStep (c : Cmd)
  /-- CLOCK_RATE_SET (R444): Sets the cell-time rate target, reached in steps of at most 1,000 ppb per stroke. -/
  | clockRateSet (c : Cmd)
  /-- CLOCK_READ (R460): Returns cell time and the stroke number at decode. -/
  | clockRead (c : Cmd)
  /-- PTP_CONFIGURE (R460): Sets the PTP mode, transport, domain and servo parameters, restarting the port. -/
  | ptpConfigure (c : Cmd)
  /-- PTP_PHY_LATENCY (R452): Sets the transmit and receive PHY latencies per link speed. -/
  | ptpPhyLatency (c : Cmd)
  /-- CMP_ARM (R447): Arms a time compare unit with a target, an optional period and an output line. -/
  | cmpArm (c : Cmd)
  /-- CMP_DISARM (R450): Disarms a time compare unit. -/
  | cmpDisarm (c : Cmd)
  /-- CRC_CONFIGURE (R457): Sets a disabled check-value unit's CRC, stream, span, check and counter fields. -/
  | crcConfigure (c : Cmd)
  /-- CRC_ENABLE (R457): Enables or disables a check-value unit. -/
  | crcEnable (c : Cmd)
  /-- CRC_READ (R460): Returns the record bytes of a check-value unit. -/
  | crcRead (c : Cmd)
  /-- CRC_COUNTERS_CLEAR (R460): Clears a check-value unit's counters. -/
  | crcCountersClear (c : Cmd)
  /-- TIME_EVENT_ACK (R460): Serves compare-unit, PTP or check-value causes. -/
  | timeEventAck (c : Cmd)
  /-- SAVE_CONFIGURE (R490): Sets the capture tail, absolute-position window and tail mask of the save set. -/
  | saveConfigure (c : Cmd)
  /-- BACKUP_READ (R490): Returns bytes of the backup registers. -/
  | backupRead (c : Cmd)
  /-- BACKUP_WRITE (R490): Writes bytes of the backup registers whole. -/
  | backupWrite (c : Cmd)
  /-- OPTIONS_WRITE (R486): Writes an options item into copy A and then copy B. -/
  | optionsWrite (c : Cmd)
  /-- OPTIONS_READ (R486): Returns an options item, or key presence for the pre-shared keys. -/
  | optionsRead (c : Cmd)
  /-- JOURNAL_READ (R487): Returns entries of the fault journal from a sequence number. -/
  | journalRead (c : Cmd)
  /-- PWR_EVENT_ACK (R489): Serves the causes of OL_PWR_EVENTS. -/
  | pwrEventAck (c : Cmd)
  /-- RESET_COUNTERS_CLEAR (R477): Sets the power-on and pin reset counters to zero. -/
  | resetCountersClear (c : Cmd)
  /-- EV_ROUTE_SET (R415): Sets the route of a range of event sources, as a whole or not at all. -/
  | evRouteSet (c : Cmd)
  /-- EV_COALESCE_SET (R416): Sets a vector's count and time thresholds. -/
  | evCoalesceSet (c : Cmd)
  /-- EV_VECTOR_PARK (R418): Parks or unparks vectors of the issuing port. -/
  | evVectorPark (c : Cmd)
  /-- EV_QUERY (R420): Returns an event source's route, state and causes. -/
  | evQuery (c : Cmd)
  /-- EV_ACK (R413): Serves cause bits of an event source by command. -/
  | evAck (c : Cmd)
  /-- PORT_CONFIGURE (R420): Sets a port's link-loss or session timeout and the H2 retransmit and repeat times. -/
  | portConfigure (c : Cmd)
  /-- H2_CONFIGURE (R420): Sets H2 network parameters and ends any H2 session as a port loss. -/
  | h2Configure (c : Cmd)
  /-- OUTLOOK_STREAM_SET (R407): Sets the outlook ranges and period that H2 streams. -/
  | outlookStreamSet (c : Cmd)
  /-- FW_STAGE_OPEN (R385): Invalidates and opens the inactive firmware slot. -/
  | fwStageOpen (c : Cmd)
  /-- FW_STAGE_WRITE (R385): Writes image bytes into the open slot. -/
  | fwStageWrite (c : Cmd)
  /-- FW_STAGE_CLOSE (R385): Checks the staged image and marks the slot valid or invalid. -/
  | fwStageClose (c : Cmd)
  /-- FW_MIGRATE (R387): Moves a quiescent compartment onto the staged or boot image through snapshot, held cycle and commit or rollback. -/
  | fwMigrate (c : Cmd)
  /-- FW_ACTIVATE (R389): Switches device services to the staged image and writes the boot selector. -/
  | fwActivate (c : Cmd)
  /-- FW_DISCARD (R389): Invalidates the staged slot. -/
  | fwDiscard (c : Cmd)
  /-- FW_STATUS (R393): Returns boot slot, staged state, migration state and builds. -/
  | fwStatus (c : Cmd)
  /-- HC_CTL_CREATE (R397): Control-space operation that checks and creates the port's control ring pair. -/
  | hcCtlCreate (p : Fin 4)
  /-- HC_CTL_DELETE (R397): Control-space operation that deletes the control ring pair as RING_DELETE does. -/
  | hcCtlDelete (p : Fin 4)
  /-- HC_SQ_DB (R398): Doorbell write that advances a submission ring tail of an owned ring pair. -/
  | hcSqDb (p : Fin 4) (ring : Fin 128) (tail : Nat)
  /-- HC_CQ_DB (R398): Doorbell write that advances a completion ring head and frees slots. -/
  | hcCqDb (p : Fin 4) (ring : Fin 128) (head : Nat)
  /-- HC_YARD_DB (R289): Doorbell write that advances an arm's yard ring tail. -/
  | hcYardDb (p : Fin 4) (arm : Fin 8) (tail : Nat)
  /-- HC_FLUME_DB (R358): Doorbell write that returns flume ring space by writing its head. -/
  | hcFlumeDb (p : Fin 4) (eng : Fin 4) (ring : Fin 4) (head : Nat)
  /-- HC_EV_CLAIM (R417): Read-to-clear register that takes the highest-priority pending source of the port into service. -/
  | hcEvClaim (p : Fin 4)
  /-- HC_EV_COMPLETE (R417): Write that ends a source's service, making it pending again if still asserted. -/
  | hcEvComplete (p : Fin 4) (source : Fin 1024)
  /-- HC_EV_ACK (R413): Write-one-to-clear register that serves cause bits of a source. -/
  | hcEvAck (p : Fin 4) (source : Fin 1024) (mask : Nat)
  /-- HC_IRQ_VEC_CLEAR (R411): Write-one-to-clear of H3 vector bits, which may release IRQ_N. -/
  | hcIrqVecClear (hi : Bool) (mask : Nat)
  /-- REGISTER_WRITE (R397): Write to a control-space register without behaviour of its own, such as ring bases, sizes, window and masks. -/
  | registerWrite (p : Fin 4) (addr : Nat) (value : Nat)
  /-- MSIX_GATE_OPEN (R419): A configuration or table write that opens the MSI-X gates and issues held messages or clears pending bits. -/
  | msixGateOpen (p : Fin 2) (w : MsixWrite)
  /-- H2_SETUP (R404): Authenticated SETUP datagram that derives a session key, creates the control ring and answers ACCEPT or REJECT. -/
  | h2Setup (source : Nat) (dgram : Bytes)
  /-- H2_COMMAND (R406): COMMAND datagram whose packets are placed into a submission ring together, or refused with NAK. -/
  | h2Command (source : Nat) (dgram : Bytes)
  /-- H2_CQ_ACK (R406): CQ_ACK datagram that acts as the completion head doorbell. -/
  | h2CqAck (source : Nat) (dgram : Bytes)
  /-- H2_KEEPALIVE (R406): KEEPALIVE datagram answered with ALIVE. -/
  | h2Keepalive (source : Nat) (dgram : Bytes)
  /-- H2_RETRANSMIT_TIMEOUT (R406): Expiry of retx_us that resends unacknowledged completion entries. -/
  | h2RetransmitTimeout (ring : Fin 128)
  /-- H2_EVENT_REPEAT (R408): Expiry of ev_repeat_ms that resends the EVENT datagram of a vector with pending sources. -/
  | h2EventRepeat (vec : Fin 64)
  /-- H2_SESSION_TIMEOUT (R408): Expiry of the H2 session timeout, a port loss. -/
  | h2SessionTimeout
  /-- H3_WRITE (R410): SPI write transaction applied whole only with a good CRC and framing. -/
  | h3Write (bytes : Bytes) (whole : Bool)
  /-- H3_READ (R410): SPI read transaction with header CRC check and side effects of read-to-clear registers. -/
  | h3Read (bytes : Bytes) (sent : Bool)
  /-- H3_STATUS (R410): SPI status transaction returning the last write result, IRQ and session state. -/
  | h3Status (bytes : Bytes)
  /-- H3_SESSION_TIMEOUT (R410): Expiry of the H3 session timeout, a port loss. -/
  | h3SessionTimeout
  /-- PERST (R396): PERST# on H0 or H1 loses the port at once and resets that endpoint. -/
  | perst (p : Fin 2)
  /-- FUNCTION_LEVEL_RESET (R396): Function Level Reset loses the port at once and resets that endpoint. -/
  | functionLevelReset (p : Fin 2)
  /-- LINK_DOWN (R396): The PCIe link leaves L0 and Recovery; fetches and completion writes wait. -/
  | linkDown (p : Fin 2)
  /-- LINK_RETURN (R396): The PCIe link returns before link_loss_ms and the port resumes. -/
  | linkReturn (p : Fin 2)
  /-- LINK_LOSS_TIMEOUT (R396): Expiry of link_loss_ms with the link still down, a port loss. -/
  | linkLossTimeout (p : Fin 2)
  /-- POWER_STATE_CHANGE (R396): D3hot stops fetching and DMA; return to D0 resumes it. -/
  | powerStateChange (p : Fin 2) (d3 : Bool)
  /-- RING_SCAN (R52): The ring scanner takes the head packet of a ring with a tag, or leaves the ring STALLED until a tag is free. -/
  | ringScan (dma : Option Bytes)
  /-- BY_REF_PAYLOAD_READ (R39): Completion of the DMA read of a by-reference payload, after which steps 6 to 9 run. -/
  | byRefPayloadRead (ring : Fin 128) (data : Option Bytes)
  /-- FENCE_CLEAR (R35): Decoding of a fenced command once every earlier command of its ring has completed. -/
  | fenceClear (ring : Fin 128)
  /-- COMPLETION_POST (R51): Writing of a completion entry once the completion ring has room, freeing the tag. -/
  | completionPost (ring : Fin 128)
  /-- STROKE_BOUNDARY (R10): Start of a stroke: stroke number increments, the beacon is sent and stroke pull is applied. -/
  | strokeBoundary
  /-- LIFT_LATCH_POINT (R12): Snapshot of host inputs: pending commands, swaps and urgent effects take effect, and lift begins. -/
  | liftLatchPoint
  /-- LIFT_COMPLETE (R26): Completion of a segment's lift results before discharge start. -/
  | liftComplete (seg : Fin 16)
  /-- DISCHARGE_START (R23): Discharge begins: each segment's frame is sent, with previous values and raised ages where lift overran. -/
  | dischargeStart
  /-- SLACK_START (R10): Slack begins: echo exchanges, slack services and the outlook refresh. -/
  | slackStart
  /-- SUCTION_FRAME (R231): Reception of a node's SUCTION frame, judged by the acceptance checks and converted for its axes. -/
  | suctionFrame (seg : Fin 16) (dt : Int) (symOk : Bool) (frame : Bytes)
  /-- SUCTION_SLOT_CLOSE (R233): Closing of a suction acceptance window without an accepted frame: absent or failed slot, ages rise. -/
  | suctionSlotClose (seg : Fin 16) (pos : Fin 8)
  /-- STALE_AGE_FAULT (R118): An axis's uplink age reaches 3 and it faults with code 0x03. -/
  | staleAgeFault (axis : Fin 128)
  /-- ECHO_RSP (R240): Reception of ECHO_RSP and computation of the node's delay compensation. -/
  | echoRsp (seg : Fin 16) (trip : Nat) (symOk : Bool) (frame : Bytes)
  /-- ECHO_TIMEOUT (R240): Close of the echo answer window without an accepted answer; echo_miss counts. -/
  | echoTimeout (seg : Fin 16)
  /-- REPLY_FRAME (R264): Reception of a node REPLY to a service POLL. -/
  | replyFrame (seg : Fin 16) (symOk : Bool) (frame : Bytes)
  /-- POLL_NO_REPLY (R265): A POLL draws no accepted REPLY; it is repeated, and after three repeats the service fails. -/
  | pollNoReply (seg : Fin 16)
  /-- LISTEN_END (R251): End of a segment's LISTEN window without traffic; STARTING begins. -/
  | listenEnd (seg : Fin 16)
  /-- LISTEN_TRAFFIC (R252): Traffic seen during LISTEN puts the segment in BACKOFF and completes SEGMENT_START as contended. -/
  | listenTraffic (seg : Fin 16)
  /-- BACKOFF_END (R252): Expiry of the back-off time returns the segment to STOPPED. -/
  | backoffEnd (seg : Fin 16)
  /-- STARTING_END (R254): End of STARTING after 16 accepted slots per position or 512 strokes; the segment enters RUNNING. -/
  | startingEnd (seg : Fin 16)
  /-- NODE_LOST (R257): A position's slot unaccepted for 16 consecutive strokes returns it to ABSENT. -/
  | nodeLost (seg : Fin 16) (pos : Fin 8)
  /-- CRUISE_END (R262): End of a position's ident-record read and comparison with the reference. -/
  | cruiseEnd (seg : Fin 16) (pos : Fin 8)
  /-- NODE_JOIN_TIMEOUT (R474): A node not joined within 2 s of segment start counts its axes as failing the position check. -/
  | nodeJoinTimeout (seg : Fin 16) (pos : Fin 8)
  /-- SEGMENT_BUS_ERRORS (R270): Bus error counts of a 256-stroke span reach the threshold and EV_SEGMENT_BUS asserts. -/
  | segmentBusErrors (seg : Fin 16)
  /-- FE_COUNT_EXPIRY (R112): The following-error count reaches fe_time and the axis faults with code 0x01. -/
  | feCountExpiry (axis : Fin 128)
  /-- STANDSTILL_REACHED (R111): Velocity stays within standstill_vel for standstill_time strokes; standstill is set and CAT1 torque goes off. -/
  | standstillReached (axis : Fin 128)
  /-- QS_TIMEOUT (R111): qs_timeout strokes pass without standstill; torque goes off. -/
  | qsTimeout (axis : Fin 128)
  /-- MANUAL_TIMEOUT (R106): No manual reference within manual_timeout strokes; the axis faults with code 0x09. -/
  | manualTimeout (axis : Fin 128)
  /-- INJECT_END (R123): An injection ends after its last stroke; channels return to idle. -/
  | injectEnd (axis : Fin 128)
  /-- RAMP_END (R163): The ramp generator reaches zero velocity and the axis holds with source 0. -/
  | rampEnd (axis : Fin 128)
  /-- SC_SAMPLE (R136): A 2 MS/s sine/cosine sample is corrected, converted, checked and may latch the reference mark. -/
  | scSample (ch : Fin 8) (sine : Int) (cosine : Int) (mark : Bool) (ns : Nat)
  /-- QUAD_EDGE (R140): An accepted filtered quadrature state change counts or makes quad_error live. -/
  | quadEdge (axis : Fin 128) (a : Bool) (b : Bool) (second : Bool) (ns : Nat)
  /-- QUAD_INDEX (R140): A rising Z latches the reference position and checks the index distance. -/
  | quadIndex (axis : Fin 128) (ns : Nat)
  /-- HALL_EDGE (R141): An accepted hall state change counts sector steps or makes a hall cause live. -/
  | hallEdge (axis : Fin 128) (state : Fin 8) (ns : Nat)
  /-- HALL_INTERP_TIMEOUT (R142): No hall edge for 20 ms suspends the angle interpolation. -/
  | hallInterpTimeout (axis : Fin 128)
  /-- STEP_EDGE (R183): A rising STEP edge counts the step/direction input. -/
  | stepEdge (pin : Fin 32) (up : Bool) (ns : Nat)
  /-- PWM_PERIOD_BOUNDARY (R195): A stage period boundary: shadows transfer, duties load and refreshes are inserted. -/
  | pwmPeriodBoundary (stage : Fin 8) (ns : Nat)
  /-- PWM_CENTER (R199): Simultaneous sampling of a stage's shunts and bus voltage at the period centre. -/
  | pwmCenter (stage : Fin 8) (codes : List Int) (volts : Nat)
  /-- BOOTSTRAP_REFRESH (R206): The count of periods without low-side time reaches refresh_n and a refresh pulse is inserted. -/
  | bootstrapRefresh (stage : Fin 8) (hb : Fin 4)
  /-- TRIP_INPUT (R202): A filtered stage or global trip input forces the stage outputs off and to their safe levels. -/
  | tripInput (global : Bool) (stage : Fin 8) (asserted : Bool)
  /-- VDS_DETECTION (R203): V_DS stays above vds_mv for vds_filt_ns and trips the stage. -/
  | vdsDetection (stage : Fin 8) (hb : Fin 4) (high : Bool)
  /-- HS_SUPPLY_UV (R207): A floating supply falls below 8.0 V and its high side turns off. -/
  | hsSupplyUv (stage : Fin 8) (hb : Fin 4)
  /-- HS_SUPPLY_RECOVER (R207): A floating supply rises above 9.0 V and the high side resumes at the next boundary. -/
  | hsSupplyRecover (stage : Fin 8) (hb : Fin 4)
  /-- PRECHARGE_END (R208): The precharge time ends and PWM begins at the next boundary. -/
  | prechargeEnd (stage : Fin 8)
  /-- STAGE_OFFSET_DONE (R200): The 64-sample offset measurement ends; the stage sets ready and STAGE_ENABLE completes. -/
  | stageOffsetDone (stage : Fin 8) (offsets : List Int)
  /-- STO_INPUT_LOW (R210): A permit input low for 1 µs or more opens its STO switch. -/
  | stoInputLow (sideB : Bool)
  /-- STO_SWITCH_CLOSE (R210): Both STO switches close and the gate supply becomes good, followed by precharge. -/
  | stoSwitchClose (stage : Fin 8)
  /-- VGATE_UV (R495): VGATE falls below 8.5 V and every gate output is held off. -/
  | vgateUv
  /-- VGATE_RECOVER (R495): VGATE rises above 9.5 V and driven half-bridges are precharged. -/
  | vgateRecover
  /-- TRIGGER_INPUT (R344): A trigger unit's input transition or sample meets its condition and the unit fires. -/
  | triggerInput (unit : Fin 128) (value : Int) (ns : Nat)
  /-- TRIGGER_TIMEOUT (R344): No transition for t_max and a timeout unit fires. -/
  | triggerTimeout (unit : Fin 128) (ns : Nat)
  /-- TRIGIO_PULSE_END (R347): A TRIGIO output pulse ends after pulse_ns. -/
  | trigioPulseEnd (pin : Fin 4) (ns : Nat)
  /-- CAP_POST_DONE (R355): The post count is written and the circular channel enters DONE. -/
  | capPostDone (ch : Fin 64)
  /-- MEAS_WINDOW_END (R350): A measurement window ends and its record is written. -/
  | measWindowEnd (ch : Fin 64)
  /-- FLUME_BLOCK_FLUSH (R359): A block closes after its first record has waited flush_us. -/
  | flumeBlockFlush (ch : Fin 64) (ns : Nat)
  /-- FLUME_BLOCK_COPY (R359): A closed block is copied once its ring has room, and the block is freed. -/
  | flumeBlockCopy (eng : Fin 4) (ring : Fin 4)
  /-- FLUME_RING_ERROR (R358): A failed host write puts a flume ring and its channels in error. -/
  | flumeRingError (eng : Fin 4) (ring : Fin 4)
  /-- DI_EDGE_ACCEPTED (R422): A DI's filter accepts a new level and tags the edge. -/
  | diEdgeAccepted (di : Fin 32) (level : Bool) (ns : Nat)
  /-- FIELD_DIP_BEGIN (R424): VFIELD_SENSE below 18.0 V for 100 µs begins a dip and DIs hold their levels. -/
  | fieldDipBegin (mv : Nat)
  /-- FIELD_DIP_END (R424): The field supply reaches 19.2 V, ending the dip and starting recovery in counter mode. -/
  | fieldDipEnd (mv : Nat)
  /-- FIELD_SUPPLY_GOOD (R424): The supply stays good for recover_ms and DIs return to debounce mode. -/
  | fieldSupplyGood (mv : Nat)
  /-- DO_OVERLOAD (R427): Current limit for 100 µs or a short turns a DO off. -/
  | doOverload (n : Fin 16)
  /-- DO_OVERLOAD_RETRY (R427): After 100 ms an overloaded DO with ol_restart is switched on again. -/
  | doOverloadRetry (n : Fin 16)
  /-- DO_OPEN_WIRE (R427): An open-wire condition lasting 20 ms becomes live, or clears after 20 ms absent. -/
  | doOpenWire (n : Fin 16) (present : Bool) (vdo : Nat)
  /-- DO_OVERTEMP (R427): A DO switch above 175 °C turns off, and recovers below 160 °C. -/
  | doOvertemp (n : Fin 16) (hot : Bool)
  /-- CAN_RX_FRAME (R436): A valid received CAN frame is filtered into a buffer or FIFO, or rejected. -/
  | canRxFrame (ch : Fin 4) (id : Nat) (flags : Nat) (dlc : Nat) (data : Bytes) (ns : Nat)
  /-- CAN_TX_DONE (R434): A transmit attempt ends in success, or is retried after lost arbitration or an error. -/
  | canTxDone (ch : Fin 4) (res : Nat) (dataPhase : Bool) (ns : Nat) (delay : Option Nat)
  /-- CAN_BUS_OFF (R439): The channel enters bus-off and starts recovery if auto_recover is set. -/
  | canBusOff (ch : Fin 4)
  /-- CAN_RECOVERY_DONE (R439): The bus-off recovery sequence completes and the channel is error-active again. -/
  | canRecoveryDone (ch : Fin 4)
  /-- CMP_FIRE (R447): A compare unit reaches its target, fires and advances a periodic target. -/
  | cmpFire (unit : Fin 16) (ns : Nat)
  /-- PTP_MESSAGE_RX (R451): Reception of a timestamped PTP message and update of the port state machine and servo. -/
  | ptpMessageRx (kind : Nat) (twoStep : Bool) (seq : Nat) (ns : Nat)
  /-- PTP_MESSAGE_TX (R451): Timed sending of Sync, Follow_Up, Delay_Req, Delay_Resp or Announce. -/
  | ptpMessageTx (kind : Nat)
  /-- PTP_TX_TIMESTAMP (R453): A transmit timestamp enters the queue, or is dropped when it is full. -/
  | ptpTxTimestamp (kind : Nat) (seq : Nat) (ns : Nat)
  /-- PTP_MASTER_LOSS (R454): Announce or Sync timeout enters HOLDOVER. -/
  | ptpMasterLoss
  /-- CRC_DATA_UNIT (R457): A snooped unit of data is checked for CRC, repeat and skip. -/
  | crcDataUnit (unit : Fin 8) (data : Bytes)
  /-- CRC_TIMEOUT (R458): No unit of data for timeout_us; EV_CRC_TIMEOUT asserts. -/
  | crcTimeout (unit : Fin 8)
  /-- SAFETY_INPUT_CHANGE (R312): A filtered safety-input contact changes and the input's permit state is evaluated. -/
  | safetyInputChange (input : Fin 16) (c1 : Bool) (c2 : Bool)
  /-- SAFETY_INPUT_DISCREPANCY (R312): Contacts disagree longer than disc_ms and the input takes a latched input fault. -/
  | safetyInputDiscrepancy (input : Fin 16)
  /-- RESET_PULSE_END (R330): The trailing edge of a reset input pulse is judged and a reset may be accepted. -/
  | resetPulseEnd (input : Fin 16) (ms : Nat)
  /-- RESET_STUCK (R330): A reset pulse reaches 5 s and EV_RESET_STUCK asserts. -/
  | resetStuck (input : Fin 16)
  /-- POSITION_DISCREPANCY (R311): The channel comparison count reaches disc_strokes and the axis takes a safety fault. -/
  | positionDiscrepancy (axis : Fin 128)
  /-- SAFETY_OUTPUT_READBACK_FAULT (R309): A safety output's readback differs from its command for 1 ms. -/
  | safetyOutputReadbackFault (out : Fin 4)
  /-- STO_SWITCH_READBACK_FAULT (R309): An STO switch readback differs from its command for 100 µs. -/
  | stoSwitchReadbackFault (stage : Fin 8)
  /-- UNANSWERED_DEMAND (R308): Channel A does not show a reaction within one cycle plus two strokes; channel B opens STO. -/
  | unansweredDemand (axis : Fin 128)
  /-- SS1_EXPIRY (R317): ss1_ms expires during SS1 and STO follows. -/
  | ss1Expiry (isArm : Bool) (n : Fin 128)
  /-- SAFETY_WATCHDOG_EXPIRY (R334): No accepted safety message for two cell cycles: permits read 0 and protective stops follow. -/
  | safetyWatchdogExpiry (comp : Fin 8)
  /-- PROTECTIVE_STOP_RELEASE (R327): release_cycles clear cycles end a protective stop. -/
  | protectiveStopRelease (arm : Fin 8)
  /-- YARD_FETCH (R289): Completion of the yarder's read of path segments from the host yard ring. -/
  | yardFetch (arm : Fin 8) (data : Option Bytes)
  /-- EV_COALESCE_TIMER (R416): A vector's timer reaches ev_time_us and a message issues or is held. -/
  | evCoalesceTimer (p : Fin 4) (vec : Fin 64)
  /-- EVENT_PENDING (R416): A source becomes pending and counts on its vector, possibly issuing a message. -/
  | eventPending (source : Fin 1024)
  /-- BLOCK_RELEASE (R381): The block's clock domain is good; the wrapper opens and BLOCK_RESET completes. -/
  | blockRelease (block : Fin 56)
  /-- BLOCK_RESET_TIMEOUT (R382): No release within 100 ms; BLOCK_RESET completes with ST_TIMEOUT. -/
  | blockResetTimeout (block : Fin 56)
  /-- MIGRATION_QUIESCE_TIMEOUT (R386): The rest condition is not met within quiesce_ms and the migration is refused. -/
  | migrationQuiesceTimeout
  /-- SAG_DECLARED (R465): A sag condition holds 20 µs and drawdown makes drives safe, quiesces and writes the save set. -/
  | sagDeclared (vmain : Nat) (vcist : Nat)
  /-- SAVE_COMMIT (R467): The save-set write completes and the commit record and pointer are written. -/
  | saveCommit (us : Nat) (mv : Nat)
  /-- SAVE_ABANDON (R467): VCIST falls below 6.7 V before the commit and the save is abandoned. -/
  | saveAbandon
  /-- SAVE_ARM (R464): CIST_SENSE stays above 11.0 V for 10 ms and saving is armed. -/
  | saveArm (mv : Nat)
  /-- PARK_EXIT (R468): VMAIN good for 10 ms, PMIC_PG fall or RESET_N ends park and restarts the device. -/
  | parkExit (cause : ParkExit) (start : StartUp)
  /-- POWER_ON_RESET (R480): Root-die power-on reset released after PMIC_PG is high for 1 ms; start-up begins. -/
  | powerOnReset (start : StartUp)
  /-- RESET_PIN (R480): RESET_N held low for 5 µs resets every die except the backup domain. -/
  | resetPin (start : StartUp)
  /-- FIRMWARE_WATCHDOG_EXPIRY (R481): A firmware core is not served within 10 ms and the device enters fault halt. -/
  | firmwareWatchdogExpiry
  /-- ECC_ERROR_FIRMWARE (R482): An uncorrectable ECC error in firmware state puts the device in fault halt. -/
  | eccErrorFirmware
  /-- VBAT_LOW (R478): VBAT falls below 2.2 V and EV_PWR_VBAT_LOW asserts. -/
  | vbatLow (mv : Nat)
  /-- PCIE_LINK_UP (R414): The PCIe link of H0 or H1 trains to L0 for the first time after power-on, PERST# release or a port loss, setting link_up and asserting EV_PORT_LINK. -/
  | pcieLinkUp (p : Fin 2) (speed : Fin 16) (width : Fin 16)
  /-- H2_PCS_LINK_CHANGE (R414): The Ethernet PCS link of H2 comes up or goes down, changing link_up and asserting EV_PORT_LINK. -/
  | h2PcsLinkChange (up : Bool) (speed : Fin 4)
  /-- CAN_ERROR_DETECTED (R441): A CAN channel detects a bus error outside its own transmission, raising REC and possibly moving between error-active and error-passive with EV_CAN_STATE. -/
  | canErrorDetected (ch : Fin 4) (kind : Fin 8) (dataPhase : Bool) (dominant : Bool)
  /-- CISTERN_DIP (R464): CIST_SENSE falls below 11.0 V without a sag being declared, which breaks the 10 ms count and disarms saving with EV_PWR_CISTERN. -/
  | cisternDip (mv : Nat)
  /-- STAGE_IDENT_READ_DONE (R260): The I2C read of a local stage's motor ident record at 100 kHz completes and its entry is written to the identity cache. -/
  | stageIdentReadDone (stage : Fin 8) (data : Option Bytes)
  /-- TRIGIO_INPUT_EDGE (R178): An edge on a TRIGIO input pin that feeds a position latch of source 3 or a capture channel as an edge record. -/
  | trigioInputEdge (pin : Fin 4) (level : Bool) (ns : Nat)
  /-- MARK_INPUT_SAMPLE (R349): A 10 MS/s mark-input conversion that a capture channel stores as a sample, counts toward a burst or uses in a measurement window. -/
  | markInputSample (input : Fin 16) (code : Nat) (ns : Nat)
  /-- DO_OVERLOAD_CLEARED (R427): After a retry, a DO stays on without a new overload for 100 ms, so its overload cause stops being live and do_fault_any may fall. -/
  | doOverloadCleared (n : Fin 16)
  deriving DecidableEq, Repr

end Sys2Proof
end

