-- ==== Sys2Proof/Decode.lean ====
section
/-! DEFINITION. The command that a word of the table spells. No row of the table of operations and events
carries bits (a packet is 32 bytes and more, an event has no encoding), so no word spells one. -/

namespace Sys2Proof

/-- The command that `w` spells in `nbits` bits of the table: none, since no row gives bits. -/
def decodeTableWord (_nbits _w : Nat) : Option Instr := none

end Sys2Proof
end

