-- ==== Sys2Proof/Config.lean ====
section
/-! DEFINITION. The free values: what the spec leaves open, as constants without a body. Each is applied to
a plain counter of the state (`Dev.free`) that the step reads and advances, or to the operands it depends on,
so nothing can be proved of its value. -/

namespace Sys2Proof.Config

/-- R137: the calibration estimate of a sine/cosine channel: off_s, off_c, gain, phase. -/
opaque calEstimate : Nat → Int × Int × Int × Int
/-- R136: the angle step of a sample whose corrected sine and cosine are both 0 (atan2 of 0 and 0). -/
opaque atanZero : Nat → Nat

/-- R23: whether the results for a local stage, or a fast run of it, come late. -/
opaque localLate : Nat → Bool

/-- R160: which of the knots within ±1 of the exact profile the planner produces. -/
opaque knotPick : Nat → Nat
/-- R173: the contents of a cam point that has not been written: x, y, s. -/
opaque camPoint : Nat → Nat → Int × Int × Int
/-- R181: whether every stroke of the cell cycle evaluated counts as stalled. -/
opaque stallCycle : Nat → Bool

/-- R273: the error of a value, and the outcome of a near comparison, that the FP64 arithmetic of the planner and the
fixed-point arithmetic of the separation channels leave open, by counter and place. -/
opaque fp64Err : Nat → Nat → Nat
opaque fp64Tie : Nat → Nat → Bool
/-- R273, R280: knot of a joint in a planned span: p1 and V1, by counter and joint, within the limits of the joint. -/
opaque armKnot : Nat → Nat → Int × Int
/-- R280, R285: how many yard segments end in a planned span. -/
opaque armSegsDone : Nat → Nat
/-- R287: whether a Cartesian segment fails one of the kinematic checks of the planner. -/
opaque armSegInvalid : Nat → Bool
/-- R291: whether the lookahead limits the speed. -/
opaque armYardLimited : Nat → Bool
/-- R295, R296: the zones that the run ahead on a planned path touches, as a mask. -/
opaque armMeets : Nat → Nat
/-- R296: whether the end of the run lies within the yard; the segment in which the path first touches a zone. -/
opaque armRunEnds : Nat → Bool
opaque armMeetsAt : Nat → Nat
/-- R300: the zones an arm touches again on the rest of its run, as a mask. -/
opaque armTouches : Nat → Nat
/-- R277: stop time and distance beyond the last speed point or payload level of the measured model. -/
opaque stopBeyond : Nat → Nat → Nat × Nat
/-- R277: the TCP path length that a quick ramp covers on the planned path. -/
opaque armRampPath : Nat → Nat → Nat
/-- R323: the largest speed of a capsule end point on the part of the planned path within reach. -/
opaque armFullSpeed : Nat → Nat
/-- R303: the separation margin of an arm without a constraint, as FP64. -/
opaque noMargin : Nat → Nat
/-- R318: by how much channel B lets the mean TCP speed of an arm, for which no `vel_tol` is given, exceed its limit. -/
opaque tcpTolB : Nat
/-- R337: the signature of a compartment's safety configuration, of the bytes that hold it. -/
opaque safetySignature : Bytes → Nat

/-- R387: whether the knots of a migrated image are in place at the commit. -/
opaque imagePlans : Nat → Bool

/-- R63: the serial number of the part. -/
opaque serial : Nat
/-- R63: the CRC of the options area, which the spec does not define by bytes. -/
opaque optionsCrc : Nat → Nat

/-- R354: the `unit` field of the trigger record that opens an injection recording. -/
opaque injUnit : Nat → Nat
/-- R350: whether a duty that is no whole number of ppm is given one up. -/
opaque dutyUp : Nat → Nat → Bool

/-- R434: whether a start of frame has come since the buffers last changed: the bus decides. -/
opaque canSof : Nat → Bool
/-- R440, R442: the `frames stored` and `lost` fields of a FIFO frame, which has no mirror of its own. -/
opaque fifoField : Nat → Nat × Nat

/-- R432, ISO 11898-1: where between 119 and 127 the receive error counter goes at a good frame. -/
opaque canRec : Nat → Nat
/-- R451: which of the port states open to it the firmware takes. -/
opaque ptpPort : Nat → Nat
/-- R451, R459: the grandmaster and the parent of the master selected. -/
opaque ptpParent : Nat → Nat × Nat
/-- R454: the offset the servo computes, the rate target it sets, and the mean path delay. -/
opaque ptpOffset : Nat → Int
opaque ptpRate : Nat → Int
opaque ptpDelay : Nat → Nat
/-- R451: whether an uncalibrated port becomes a slave. -/
opaque ptpSelected : Nat → Bool

/-- R460: where in its phase a command is decoded, and the fraction of the nanosecond there. -/
opaque decodeNs : Nat → Nat
opaque decodeFrac : Nat → Nat

/-- R487, R490: the oldest and newest sequence numbers of a journal without entries. -/
opaque noEntry : Nat → Nat × Nat

/-- R404: the session identifier and the device's nonce of an `ACCEPT`. -/
opaque sessionId : Nat → Nat
opaque devNonce : Nat → Bytes

/-- R483, R484: the results of the checks that start-up makes when recovery mode ends. -/
opaque startCheck : Nat → Nat → Bool

/-- R488: the present size of the save set, which R470 does not give by bytes. -/
opaque saveBytes : Nat → Nat

end Sys2Proof.Config
end

