-- ==== Sys2Proof/Machine/Operands.lean ====
section
/-! DEFINITION. The operand forms: reading the little-endian fields of a payload or a frame, writing
them, the two's complement readings, and the exact value of an FP64 field (R33, R274). -/

namespace Sys2Proof.Machine

/-- Byte `o` of a byte string; 0 past its end. -/
def u8 (p : Bytes) (o : Nat) : Nat := (p.getD o 0).toNat

/-- The unsigned little-endian number of `n` bytes at offset `o`. -/
def uLE (p : Bytes) (o : Nat) : Nat → Nat
  | 0 => 0
  | n + 1 => u8 p o + 256 * uLE p (o + 1) n

/-- u16 at offset `o`. -/
def u16 (p : Bytes) (o : Nat) : Nat := uLE p o 2
/-- u32 at offset `o`. -/
def u32 (p : Bytes) (o : Nat) : Nat := uLE p o 4
/-- u48 at offset `o`. -/
def u48 (p : Bytes) (o : Nat) : Nat := uLE p o 6
/-- u64 at offset `o`. -/
def u64 (p : Bytes) (o : Nat) : Nat := uLE p o 8

/-- The two's complement value of the low `w` bits of `n`. -/
def toS (w n : Nat) : Int :=
  let m := n % 2 ^ w
  if m < 2 ^ (w - 1) then (m : Int) else (m : Int) - (2 ^ w : Nat)

/-- The low `w` bits of an integer, as an unsigned number. -/
def toU (w : Nat) (x : Int) : Nat := (x % ((2 ^ w : Nat) : Int)).toNat

/-- An integer wrapped to `w` bits two's complement. -/
def wrapS (w : Nat) (x : Int) : Int := toS w (toU w x)

/-- i8 at offset `o`. -/
def i8 (p : Bytes) (o : Nat) : Int := toS 8 (u8 p o)
/-- i16 at offset `o`. -/
def i16 (p : Bytes) (o : Nat) : Int := toS 16 (u16 p o)
/-- i32 at offset `o`. -/
def i32 (p : Bytes) (o : Nat) : Int := toS 32 (u32 p o)
/-- i64 at offset `o`. -/
def i64 (p : Bytes) (o : Nat) : Int := toS 64 (u64 p o)

/-- `n` little-endian bytes of an unsigned number. -/
def enc : Nat → Nat → Bytes
  | 0, _ => []
  | n + 1, v => byteOf v :: enc n (v / 256)

/-- One byte. -/
def e8 (v : Nat) : Bytes := enc 1 v
/-- Two bytes. -/
def e16 (v : Nat) : Bytes := enc 2 v
/-- Four bytes. -/
def e32 (v : Nat) : Bytes := enc 4 v
/-- Eight bytes. -/
def e64 (v : Nat) : Bytes := enc 8 v
/-- A signed number in two bytes. -/
def eS16 (x : Int) : Bytes := enc 2 (toU 16 x)
/-- A signed number in four bytes. -/
def eS32 (x : Int) : Bytes := enc 4 (toU 32 x)
/-- A signed number in eight bytes. -/
def eS64 (x : Int) : Bytes := enc 8 (toU 64 x)
/-- `n` zero bytes. -/
def zeros (n : Nat) : Bytes := List.replicate n 0

/-- `n` bytes from offset `o`, padded with zeros past the end. -/
def slice (p : Bytes) (o n : Nat) : Bytes :=
  let q := (p.drop o).take n
  q ++ zeros (n - q.length)

/-- Whether `n` bytes from offset `o` are all zero. -/
def allZero (p : Bytes) (o n : Nat) : Bool := ((p.drop o).take n).all (· == 0)

/-- Bit `i` of a number. -/
def bit (n i : Nat) : Bool := n.testBit i
/-- Bits `i` to `i + w - 1` of a number. -/
def bits (n i w : Nat) : Nat := n / 2 ^ i % 2 ^ w
/-- A number with bit `i` set. -/
def setBit (n i : Nat) : Nat := n ||| 2 ^ i
/-- A number with bit `i` written. -/
def putBit (n i : Nat) (b : Bool) : Nat := if b then n ||| 2 ^ i else n - (n &&& 2 ^ i)
/-- A number without the bits of a mask. -/
def clearMask (n m : Nat) : Nat := n - (n &&& m)
/-- A flag as a number. -/
def b2n (b : Bool) : Nat := if b then 1 else 0
/-- The mask of a list of flags, the first in bit 0. -/
def maskOf : List Bool → Nat
  | [] => 0
  | b :: r => b2n b + 2 * maskOf r
/-- The indices below `n` whose bit is set. -/
def bitsSet (m n : Nat) : List Nat := (List.range n).filter (fun i => m.testBit i)

/-- The 64-bit form of a number in FP64: `none` for an infinity or a NaN, else its value times 2^1074,
which is an integer for every finite FP64 value. -/
def fpScaled (w : Nat) : Option Int :=
  let s := bits w 63 1
  let e := bits w 52 11
  let m := bits w 0 52
  if e = 2047 then none
  else
    let mag : Nat := if e = 0 then m else (m + 2 ^ 52) * 2 ^ (e - 1)
    some (if s = 1 then -(mag : Int) else (mag : Int))

/-- 2^1074, the scale of `fpScaled`. -/
def fpOne : Int := ((2 ^ 1074 : Nat) : Int)

/-- Whether an FP64 word is finite. -/
def fpFinite (w : Nat) : Bool := (fpScaled w).isSome
/-- Whether an FP64 word is finite and at least 0. -/
def fpNonneg (w : Nat) : Bool := match fpScaled w with | some x => decide (0 ≤ x) | none => false
/-- Whether an FP64 word is finite and above 0. -/
def fpPos (w : Nat) : Bool := match fpScaled w with | some x => decide (0 < x) | none => false
/-- Whether an FP64 word is finite and at most the fraction `n / k`. -/
def fpLe (w : Nat) (n : Int) (k : Nat) : Bool :=
  match fpScaled w with | some x => decide (x * k ≤ n * fpOne) | none => false
/-- Whether an FP64 word is finite and at least the fraction `n / k`. -/
def fpGe (w : Nat) (n : Int) (k : Nat) : Bool :=
  match fpScaled w with | some x => decide (n * fpOne ≤ x * k) | none => false
/-- Whether two finite FP64 words stand in the order `a ≤ b`. -/
def fpLeq (a b : Nat) : Bool :=
  match fpScaled a, fpScaled b with | some x, some y => decide (x ≤ y) | _, _ => false

/-- Floor of `a / b` for `b > 0`. -/
def fdiv (a : Int) (b : Nat) : Int := Int.fdiv a b
/-- Ceiling of `a / b`. -/
def cdivN (a b : Nat) : Nat := if b = 0 then 0 else (a + b - 1) / b
/-- `a / b` rounded to the nearest integer, halves away from zero. -/
def rdivAway (a : Int) (b : Nat) : Int :=
  if a < 0 then -(Int.fdiv (2 * (-a) + b) (2 * b)) else Int.fdiv (2 * a + b) (2 * b)
/-- `a / b` rounded to the nearest integer, halves up. -/
def rdivUp (a : Int) (b : Nat) : Int := Int.fdiv (2 * a + b) (2 * b)
/-- `x` limited to `[lo, hi]`. -/
def clampI (lo hi x : Int) : Int := if x < lo then lo else if hi < x then hi else x
/-- Saturation to a signed width. -/
def satS (w : Nat) (x : Int) : Int := clampI (-((2 ^ (w - 1) : Nat) : Int)) (((2 ^ (w - 1) : Nat) : Int) - 1) x
/-- A 32-bit counter that saturates. -/
def sat32 (n : Nat) : Nat := min n 0xFFFFFFFF
/-- A 16-bit counter that saturates. -/
def sat16 (n : Nat) : Nat := min n 0xFFFF

/-- Integer square root, floor, by bits from `k` down. -/
def isqrtGo (n : Nat) : Nat → Nat → Nat
  | 0, r => r
  | k + 1, r =>
    let c := r + 2 ^ k
    isqrtGo n k (if c * c ≤ n then c else r)
/-- The floor of the square root of a number below 2^256. -/
def isqrt (n : Nat) : Nat := isqrtGo n 128 0

/-- `f` applied to entry `i` of a table; the table itself where it has no entry `i`. -/
def upd {α : Type} (l : List α) (i : Nat) (f : α → α) : List α := l.modify i f

end Sys2Proof.Machine
end

