-- ==== Sys2Proof/Machine/StateAxis.lean ====
section
/-! DEFINITION. The state of an axis: its configuration, limits, coefficient banks, hooks, loop states,
mode, faults and injection (R75-R127). -/

namespace Sys2Proof.Machine

/-- R127: the fields of `AXIS_CONFIGURE`. -/
structure AxCfg where
  configured : Bool
  law        : Nat
  /-- 0 remote, 1 local. -/
  source     : Nat
  posLoop    : Nat
  nBiquads   : Nat
  observer   : Nat
  fastK      : Nat
  errSpan    : Nat
  velSpan    : Nat
  powerObject : Nat
  nodeAxis   : Nat
  accSpan    : Nat
  curSpan    : Int
  voltSpan   : Int
  deriving DecidableEq, Repr

def AxCfg.reset : AxCfg := ⟨false, 0, 0, 0, 0, 0, 1, 0, 0, 0, 0, 0, 0, 0⟩

/-- R127: the fields of `AXIS_LIMITS`. -/
structure AxLim where
  iLimit     : Int
  iTrip      : Int
  velLimit   : Int
  qsDecel    : Int
  haltDecel  : Int
  feLimit    : Nat
  feTime     : Nat
  ssTime     : Nat
  qsTimeout  : Nat
  manTimeout : Nat
  ssVel      : Int
  vbusMin    : Int
  vbusMax    : Int
  idAuto     : Int
  reactFe    : Nat
  reactVbus  : Nat
  reactManual : Nat
  deriving DecidableEq, Repr

def AxLim.reset : AxLim := ⟨0, 0, 0, 0, 0, 0, 0, 0, 0, 0, 0, 0, 0, 0, 0, 0, 0⟩

/-- R89: a gain of k x 2^s / 32,768. -/
structure Gain where
  k : Int
  s : Nat
  deriving DecidableEq, Repr

/-- R90: the coefficients of a biquad, in Q14. -/
structure Biquad where
  b0 : Int
  b1 : Int
  b2 : Int
  a1 : Int
  a2 : Int
  deriving DecidableEq, Repr

/-- R90: the state of a biquad. -/
structure BqState where
  x1 : Int
  x2 : Int
  y1 : Int
  y2 : Int
  deriving DecidableEq, Repr

/-- R127: the `COEF_WRITE` payload without its bank. -/
structure Coefs where
  kpD : Gain
  kiD : Gain
  kpQ : Gain
  kiQ : Gain
  kdecD : Gain
  kdecQ : Gain
  kbemf : Gain
  kvp : Gain
  kvi : Gain
  kpp : Gain
  kpi : Gain
  kvff : Gain
  kaff : Gain
  kobsJ : Gain
  vModMax : Int
  gObs : Int
  biquads : List Biquad
  deriving DecidableEq, Repr

/-- R107: zero gains, pass-through biquads, `v_mod_max` 0. -/
def Coefs.reset : Coefs :=
  let z : Gain := ⟨0, 0⟩
  ⟨z, z, z, z, z, z, z, z, z, z, z, z, z, z, 0, 0, List.replicate 4 ⟨16384, 0, 0, 0, 0⟩⟩

/-- R83: an installed hook. -/
structure Hook where
  consts : List Int
  ops    : List Nat
  deriving DecidableEq, Repr

/-- The loop states of R92-R99 and the values a hook may read (R79). -/
structure AxLoop where
  ip     : Int
  iv     : Int
  idI    : Int
  iqI    : Int
  bq     : List BqState
  obsDist : Int
  /-- R94: the position controller output of the last run, before the feedforward. -/
  posOut : Int
  posErr : Int
  velFf  : Int
  accFf  : Int
  velRef : Int
  velFb  : Int
  velErr : Int
  iqRef  : Int
  idRef  : Int
  iqFb   : Int
  idFb   : Int
  /-- R119: the currents of the last transform, before hook point 4. -/
  iqRaw  : Int
  idRaw  : Int
  vqCmd  : Int
  vdCmd  : Int
  vbus   : Int
  theta  : Int
  vSet   : Int
  aSet   : Int
  pCmd   : Int
  follow : Int
  deriving DecidableEq, Repr

def AxLoop.reset : AxLoop :=
  { ip := 0, iv := 0, idI := 0, iqI := 0, bq := List.replicate 4 ⟨0, 0, 0, 0⟩, obsDist := 0, posOut := 0, posErr := 0
    velFf := 0, accFf := 0, velRef := 0, velFb := 0, velErr := 0, iqRef := 0, idRef := 0, iqFb := 0, idFb := 0, iqRaw := 0, idRaw := 0
    vqCmd := 0, vdCmd := 0, vbus := 0, theta := 0, vSet := 0, aSet := 0, pCmd := 0, follow := 0 }

/-- R120-R123: a running injection. -/
structure Inj where
  point    : Nat
  signal   : Nat
  order    : Nat
  nTones   : Nat
  amp      : Int
  hold     : Nat
  duration : Nat
  w0       : Nat
  w1       : Nat
  /-- Strokes already produced. -/
  k        : Nat
  phases   : List Nat
  prbs     : Nat
  prbsOut  : Bool
  /-- The value of the current stroke. -/
  g        : Int
  /-- Capture channel and variable of each recorder (R122). -/
  chans    : List (Nat × Nat)
  deriving DecidableEq, Repr

/-- The measured inputs of an axis for the lift in progress: currents and vbus in Q15 (R100). -/
structure AxIn where
  ia   : Int
  ib   : Int
  vbus : Int
  deriving DecidableEq, Repr

/-- An axis (R103-R119, R124). -/
structure Axis where
  cfg   : AxCfg
  lim   : AxLim
  bank0 : Coefs
  bank1 : Coefs
  /-- The active bank, 0 or 1. -/
  bank  : Nat
  hooks : List (Option Hook)
  users : List Int
  hookFlags : Nat
  /-- R83: `HOOK_QUERY` clears the flags at the next latch point. -/
  hookClear : Bool
  /-- Loop states committed by the last complete lift; `prev` those from before it (R116). -/
  loop  : AxLoop
  prev  : AxLoop
  prevUsers : List Int
  prevFe : Nat
  /-- 0 DISABLED, 1 OFF, 2 MANUAL_CURRENT, 3 MANUAL_VELOCITY, 4 AUTO, 5 FAULT. -/
  state : Nat
  /-- 0 none, 1 HALT, 2 FEED_HOLD, 3 STOP_CAT2, 4 STOP_CAT1, 5 STOP_CAT0. -/
  stop  : Nat
  standstill : Bool
  /-- Counts of R111, R112, R106 and the fault of R113. -/
  ssCount : Nat
  qsCount : Nat
  feCount : Nat
  manCount : Nat
  faultCode : Nat
  /-- R113: a ramp reaction runs. -/
  ramping : Bool
  /-- Torque is off although the state is a running one (stop category done, STO). -/
  torqueOff : Bool
  /-- R110: a manual axis that a stop ramp has taken over runs the law of `AUTO` on its setpoint. -/
  overlay : Bool
  /-- R105: presets that the law of the next stroke makes. -/
  preVel : Bool
  preIp  : Bool
  manIq  : Int
  manId  : Int
  manVel : Int
  age    : Nat
  /-- R119: last fresh position and its per-stroke change; strokes since it was fresh. -/
  pFresh : Int
  delta  : Int
  pPrev  : Int
  /-- R95, R134: the position change from which vel_fb is formed in this stroke. -/
  dVel   : Int
  meas   : AxIn
  /-- Q15 duties a, b, c and d of the last law run (R97, R98, R99). -/
  duties : List Int
  inj    : Option Inj
  iLimited : Bool
  vLimited : Bool
  errSat   : Bool
  flags  : Nat
  events : Nat
  /-- R243: the age of the values sent downstream. -/
  sentAge : Nat
  deriving DecidableEq, Repr

def Axis.reset : Axis :=
  { cfg := AxCfg.reset, lim := AxLim.reset, bank0 := Coefs.reset, bank1 := Coefs.reset, bank := 0
    hooks := List.replicate 6 none, users := List.replicate 8 0, hookFlags := 0, hookClear := false
    loop := AxLoop.reset, prev := AxLoop.reset, prevUsers := List.replicate 8 0, prevFe := 0, state := 0, stop := 0, standstill := false
    ssCount := 0, qsCount := 0, feCount := 0, manCount := 0, faultCode := 0, ramping := false, torqueOff := false, overlay := false, preVel := false, preIp := false
    manIq := 0, manId := 0, manVel := 0, age := 0, pFresh := 0, delta := 0, pPrev := 0, dVel := 0, meas := ⟨0, 0, 0⟩
    duties := List.replicate 4 0, inj := none, iLimited := false, vLimited := false, errSat := false
    flags := 0, events := 0, sentAge := 0 }

/-- The coefficients of the active bank. -/
def Axis.coefs (a : Axis) : Coefs := if a.bank = 0 then a.bank0 else a.bank1

end Sys2Proof.Machine
end

