-- ==== Sys2Proof/Machine/Flags.lean ====
section
/-! DEFINITION. The loop engine's arithmetic, each operation with the flag it may set: extraction,
saturation and wrap, division, position reduction, gains, integrators, biquads and the sine table
(R68-R74, R89-R91). -/

namespace Sys2Proof.Machine

/-- A result with whether a clamp changed it. -/
abbrev Flagged := Int × Bool

/-- R71: a Q15 result: clamped (and flagged) when `sat`, else wrapped to 16 bits. -/
def q15 (v : Int) (sat : Bool) : Flagged :=
  if sat then (satS 16 v, satS 16 v != v) else (wrapS 16 v, false)

/-- R71: a 40-bit accumulator result. -/
def acc40 (v : Int) (sat : Bool) : Flagged :=
  if sat then (satS 40 v, satS 40 v != v) else (wrapS 40 v, false)

/-- R70: extraction from Q30 or accumulator scale to Q15. -/
def extF (v : Int) (sat : Bool) : Flagged := q15 (Int.fdiv (v + 0x4000) 32768) sat

/-- R70 with saturation: the extraction of the laws (R89: every extraction saturates). -/
def ext (v : Int) : Int := satS 16 (Int.fdiv (v + 0x4000) 32768)

/-- R89: a saturating Q15 result. -/
def sat (v : Int) : Int := satS 16 v

/-- The result of DIVS: quotient, remainder, and the flags div_zero and div_overflow (R72). -/
structure DivRes where
  q : Int
  r : Int
  zero : Bool
  ovr : Bool
  deriving DecidableEq, Repr

/-- R72: exact division truncated toward zero, the remainder with the sign of the numerator. -/
def divs (n d : Int) : DivRes :=
  if d = 0 then ⟨if 0 ≤ n then 32767 else -32768, n, true, false⟩
  else if d.natAbs ≤ n.natAbs then
    ⟨if (decide (0 ≤ n)) = (decide (0 ≤ d)) then 32767 else -32768, 0, false, true⟩
  else
    let qm : Int := ((n.natAbs * 32768 / d.natAbs : Nat) : Int)
    let p : Int := ((n.natAbs * 32768 % d.natAbs : Nat) : Int)
    ⟨if (decide (0 ≤ n)) = (decide (0 ≤ d)) then qm else -qm, if n < 0 then -p else p, false, false⟩

/-- The steps of R72 from the second on: the running remainder and the quotient digits so far. -/
def divsLoop (pd : Int) : Nat → Int → Nat → Int × Nat
  | 0, p, q => (p, q)
  | k + 1, p, q =>
    let p' := if 0 ≤ p then 2 * p - pd else 2 * p + pd
    divsLoop pd k p' (2 * q + (if 0 ≤ p' then 1 else 0))

/-- R72's non-restoring steps on magnitudes `pn < pd`: quotient and corrected remainder. -/
def divsSteps (pn pd : Nat) : Nat × Int :=
  let (p, q) := divsLoop pd 15 ((pn : Int) - pd) 0
  (q, if p < 0 then p + pd else p)

/-- R73: reduction of a position difference to Q15 with span 2^m, and whether it clamped. -/
def reduceF (e : Int) (m : Nat) : Flagged :=
  let t := if 16 ≤ m then Int.fdiv (e + ((2 ^ (m - 16) : Nat) : Int)) ((2 ^ (m - 15) : Nat) : Int)
           else e * ((2 ^ (15 - m) : Nat) : Int)
  (satS 16 t, satS 16 t != t)

/-- R73 without the flag. -/
def reduce (e : Int) (m : Nat) : Int := (reduceF e m).1

/-- R89: `gmul`. -/
def gmul (g : Gain) (x : Int) : Int :=
  clampI (-32768) 32767 (Int.fdiv (g.k * x * ((2 ^ g.s : Nat) : Int) + 0x4000) 32768)

/-- R89: `pi`. -/
def piLaw (g : Gain) (i e : Int) : Int :=
  clampI (-32768) 32767 (Int.fdiv (g.k * e * ((2 ^ g.s : Nat) : Int) + i + 0x4000) 32768)

/-- R89: `integrate`. -/
def integrate (i : Int) (g : Gain) (e lim : Int) (hold : Bool) : Int :=
  if hold then i
  else clampI (-(lim * 32768)) (lim * 32768) (i + g.k * e * ((2 ^ g.s : Nat) : Int))

/-- R90: one run of a biquad: the output and the new state. -/
def bqRun (c : Biquad) (st : BqState) (x : Int) : Int × BqState :=
  let acc := c.b0 * x + c.b1 * st.x1 + c.b2 * st.x2 - c.a1 * st.y1 - c.a2 * st.y2
  let y := clampI (-32768) 32767 (Int.fdiv (acc + 0x2000) 16384)
  (y, ⟨x, st.x1, y, st.y1⟩)

/-- R95 step 4: `n` biquads in order. -/
def bqChain : Nat → List Biquad → List BqState → Int → Int × List BqState
  | n + 1, c :: cs, st :: sts, x =>
    let (y, st') := bqRun c st x
    let (z, r) := bqChain n cs sts y
    (z, st' :: r)
  | _, _, sts, x => (x, sts)

/-- pi times 2^96, rounded down. -/
def piScaled : Nat := 248902613312231085230521944622

/-- The terms of the sine series at scale 2^96: `t` the term in hand, `k` its odd degree, `x2` the squared
angle at scale 2^96. -/
def sinSeries (x2 : Int) : Nat → Int → Nat → Int → Int
  | 0, _, _, acc => acc
  | n + 1, t, k, acc =>
    let t' := -(Int.tdiv (Int.tdiv (t * x2) ((2 ^ 96 : Nat) : Int)) (((k + 1) * (k + 2) : Nat) : Int))
    sinSeries x2 n t' (k + 2) (acc + t')

/-- Sine at scale 2^96 of the angle pi n / 32,768, for n from 0 to 16,384. -/
def sinScaled (n : Nat) : Int :=
  let x : Int := ((piScaled * n / 32768 : Nat) : Int)
  sinSeries (Int.fdiv (x * x) ((2 ^ 96 : Nat) : Int)) 14 x 1 x

/-- R91 for n from 0 to 16,384: 32,767 sin(pi n / 32,768) rounded half up. -/
def sinQuarter (n : Nat) : Int :=
  Int.fdiv (2 * 32767 * sinScaled n + ((2 ^ 96 : Nat) : Int)) ((2 ^ 97 : Nat) : Int)

/-- R91: sin_q15 of a signed 16-bit angle. -/
def sinQ15 (th : Int) : Int :=
  let n := toU 16 th
  if n ≤ 16384 then sinQuarter n
  else if n ≤ 32768 then sinQuarter (32768 - n)
  else if n ≤ 49152 then -(sinQuarter (n - 32768))
  else -(sinQuarter (65536 - n))

/-- R91: cos_q15. -/
def cosQ15 (th : Int) : Int := sinQ15 (wrapS 16 (th + 16384))

/-- R88: a command-level value in Q15: round half up of `x * 32768 * num / den`, clamped to ±32,767. -/
def toQ15 (x : Int) (den : Nat) : Int :=
  if den = 0 then 0 else clampI (-32767) 32767 (rdivUp (x * 32768) den)

/-- R88: back from Q15 to command units with round half up. -/
def fromQ15 (q : Int) (span : Int) : Int := rdivUp (q * span) 32768

end Sys2Proof.Machine
end

