-- ==== Sys2Proof/Machine/StatePf.lean ====
section
/-! DEFINITION. The state of profiles, relations, virtual masters, cam tables, stepping and latches
(R156-R186, R504, R505). -/

namespace Sys2Proof.Machine

/-- R92: a knot pair of a cell cycle, positions in pu and velocities in pu per cell cycle. -/
structure Knots where
  p0 : Int
  v0 : Int
  p1 : Int
  v1 : Int
  deriving DecidableEq, Repr

/-- R92, R156: knots that hold a position. -/
def Knots.hold (p : Int) : Knots := ⟨p, 0, p, 0⟩

/-- R159: the fields of a `MOVE`. -/
structure MoveReq where
  /-- 0 absolute, 1 relative, 2 velocity. -/
  kind   : Nat
  target : Int
  vMax   : Int
  accel  : Int
  decel  : Int
  jerk   : Int
  deriving DecidableEq, Repr

/-- A running move: the request, its absolute goal, the state its exact profile starts from (R160), and the
cell cycles planned since. -/
structure Prof where
  req  : MoveReq
  goal : Int
  /-- Position, velocity and acceleration at the start, in cell cycles, times 2^96. -/
  p0   : Int
  v0   : Int
  a0   : Int
  /-- R157, R165: the start state stands; otherwise it is taken at the next planning point. -/
  begun : Bool
  k    : Nat
  /-- R160: a velocity move has reached its target. -/
  reached : Bool
  deriving DecidableEq, Repr

/-- A profile generator: the running move and the queue behind it (R161). -/
structure Gen where
  run   : Option Prof
  queue : List MoveReq
  deriving DecidableEq, Repr

/-- R163: the ramp generator, P and V in pu x 2^32, and D. -/
structure Ramp where
  p : Int
  v : Int
  d : Int
  deriving DecidableEq, Repr

/-- R171: a trapezoidal phase profile: from `p0` at velocity `v0` (pu per cycle) toward `goal`. -/
structure Phase1 where
  goal : Int
  p0   : Int
  v0   : Int
  vel  : Int
  acc  : Int
  k    : Nat
  /-- The phase and its velocity at the last knot planned. -/
  now  : Int
  nowV : Int
  deriving DecidableEq, Repr

/-- A gear or cam relation (R169-R177). -/
structure Rel where
  isCam  : Bool
  /-- Object class (0x01 axis, 0x12 virtual master) and index of the master, and `master_value`. -/
  mCls   : Nat
  mIdx   : Nat
  mVal   : Nat
  /-- R169: the ratios before and after the change, as exact fractions. -/
  no     : Int
  do_    : Nat
  nn     : Int
  dn     : Nat
  len    : Int
  b      : Int
  mc     : Int
  /-- R176: cam table and offset; R177: the table that follows. -/
  table  : Nat
  xOff   : Int
  nextTable : Option Nat
  phi    : Phase1
  trimStep : Int
  /-- Whether the relation acts; before that it waits, at `engageAt` when set (R176). -/
  engaged : Bool
  waitAt : Option Int
  /-- R170: a ratio change taken by the planner: numerator, denominator and sync length. -/
  ratio  : Option (Int × Nat × Int)
  /-- The master's first position seen while waiting. -/
  firstM : Option Int
  /-- R505: the master's knots of the last planned cycle. -/
  mKnots : Option Knots
  deriving DecidableEq, Repr

/-- R181: stall homing. -/
structure Home where
  vel    : Int
  accel  : Int
  current : Int
  blank  : Nat
  count  : Nat
  bemf   : Int
  angle  : Int
  position : Int
  maxTravel : Int
  /-- Cell cycles since the motion started, consecutive stalled cycles, start position. -/
  cycles : Nat
  stalled : Nat
  start  : Int
  prof   : Prof
  deriving DecidableEq, Repr

/-- A position latch (R178-R180). -/
structure Latch where
  armed  : Bool
  valid  : Bool
  stale  : Bool
  count  : Nat
  continuous : Bool
  window : Bool
  src    : Nat
  edge   : Nat
  object : Nat
  lo     : Int
  hi     : Int
  pos    : Int
  ns     : Nat
  sec    : Nat
  /-- R180: the latch point that armed it. -/
  since  : Nat
  /-- The tags of the triggers that wait for a lift latch point. -/
  hits   : List Nat
  deriving DecidableEq, Repr

def Latch.reset : Latch := ⟨false, false, false, 0, false, false, 0, 0, 0, 0, 0, 0, 0, 0, 0, []⟩

/-- R182: the fields of `STEP_CONFIGURE`, and the microstep count. -/
structure StepCfg where
  openLoop : Bool
  fb      : Bool
  holdDelay : Nat
  runMa   : Int
  holdMa  : Int
  num     : Nat
  den     : Nat
  mu      : Int
  /-- Strokes for which p_cmd has not changed. -/
  still   : Nat
  deriving DecidableEq, Repr

/-- R183: the step/direction source. -/
structure StepDir where
  enabled : Bool
  pin     : Nat
  invert  : Bool
  num     : Nat
  den     : Nat
  filt    : Nat
  timeoutMs : Nat
  /-- The edge count E, the base position, and the instants of the last two edges in device ns. -/
  e       : Int
  x0      : Int
  dirLast : Int
  tE      : Nat
  tE1     : Nat
  deriving DecidableEq, Repr

/-- R60, R157: what stood before the planning commands that wait for the first stroke of the next cell cycle. -/
structure PfPlan where
  source : Nat
  gen    : Gen
  rel    : Option Rel
  gearSynced : Bool
  resuming : Bool
  soft   : Bool
  leave  : Option Int
  home   : Option Home
  homeState : Nat
  deriving DecidableEq, Repr

/-- The profile part of an axis (R184). -/
structure Pf where
  source : Nat
  cur    : Knots
  next   : Knots
  /-- Whether the knots of the next cycle are in place (R92 `knot_late`). -/
  inPlace : Bool
  gen    : Gen
  hold   : Bool
  ramp   : Option Ramp
  /-- R105: the ramp is that of an entry into `AUTO`, which a move takes over. -/
  soft   : Bool
  /-- R25, R116: the ramp, p_cmd and v_set before this stroke, which an overrun brings back. -/
  rampWas : Option (Ramp × Int × Int)
  rel    : Option Rel
  gearSynced : Bool
  lost   : Bool
  camRange : Bool
  stepLag : Bool
  trimSat : Bool
  homeState : Nat
  home   : Option Home
  pendTrim : Int
  appTrim : Int
  events : Nat
  step   : StepCfg
  stepDir : StepDir
  latches : List Latch
  /-- R166: a feed hold began in this cell cycle: the follower's increments are scaled. -/
  holdCycle : Bool
  /-- R165: `FEED_RESUME` is planned; the hold ends at the first stroke of the next cell cycle. -/
  resuming : Bool
  /-- The setpoint of the stroke in hand: p_cmd and v_set. -/
  cmd    : Int
  vel    : Int
  /-- R186: a `DISENGAGE` taken by the planner: the deceleration of its ramp. -/
  leave  : Option Int
  /-- R60, R157: what is in force until the planning commands taken in this cell cycle take effect. -/
  prior  : Option PfPlan
  deriving DecidableEq, Repr

def Pf.reset : Pf :=
  { source := 0, cur := Knots.hold 0, next := Knots.hold 0, inPlace := true, gen := ⟨none, []⟩, hold := false
    ramp := none, soft := false, rampWas := none, rel := none, gearSynced := false, lost := false, camRange := false, stepLag := false
    trimSat := false, homeState := 0, home := none, pendTrim := 0, appTrim := 0, events := 0
    step := ⟨false, false, 0, 0, 0, 1, 1, 0, 0⟩, stepDir := ⟨false, 0, false, 1, 1, 1, 1, 0, 0, 0, 0, 0⟩
    latches := List.replicate 4 Latch.reset, holdCycle := false, resuming := false
    cmd := 0, vel := 0, leave := none, prior := none }

/-- R60, R157: a planning command is taken: what was in force stays known until it takes effect. -/
def Pf.note (p : Pf) : Pf :=
  { p with prior := some (p.prior.getD ⟨p.source, p.gen, p.rel, p.gearSynced, p.resuming, p.soft, p.leave, p.home, p.homeState⟩) }

/-- R60: planning commands that have not taken effect have none. -/
def Pf.unplan (p : Pf) : Pf :=
  match p.prior with
  | none => p
  | some k =>
    { p with
      source := k.source, gen := k.gen, rel := k.rel, gearSynced := k.gearSynced, resuming := k.resuming, soft := k.soft
      leave := k.leave, home := k.home, homeState := k.homeState, next := Knots.hold p.cur.p1, prior := none }

/-- R60, R157: what stood before the planning commands of a virtual master. -/
structure VmPlan where
  source  : Nat
  enabled : Bool
  object  : Nat
  decel   : Int
  preset  : Int
  primed  : Bool
  gen     : Gen
  resuming : Bool
  startAt : Option Int
  deriving DecidableEq, Repr

/-- A virtual master (R167, R184). -/
structure Vm where
  source  : Nat
  enabled : Bool
  object  : Nat
  decel   : Int
  preset  : Int
  cur     : Knots
  next    : Knots
  /-- R505: whether knots have been extrapolated since the source last changed. -/
  primed  : Bool
  gen     : Gen
  /-- Stop code as in `OL_AX_STATE`. -/
  stop    : Nat
  ramp    : Option Ramp
  /-- The per-stroke position and its change, planned and given (R166). -/
  pos     : Int
  dPos    : Int
  /-- R184: its velocity, in pu per stroke. -/
  vel     : Int
  resuming : Bool
  /-- R167: the position at which a generator starts when it is enabled. -/
  startAt : Option Int
  events  : Nat
  /-- R60, R157: what is in force until the planning commands taken in this cell cycle take effect. -/
  prior   : Option VmPlan
  deriving DecidableEq, Repr

def Vm.reset : Vm :=
  { source := 0, enabled := false, object := 0, decel := 0, preset := 0, cur := Knots.hold 0, next := Knots.hold 0
    primed := false, gen := ⟨none, []⟩, stop := 0, ramp := none, pos := 0, dPos := 0, vel := 0, resuming := false, startAt := none, events := 0
    prior := none }

/-- R60, R157: a planning command is taken: what was in force stays known until it takes effect. -/
def Vm.note (m : Vm) : Vm :=
  { m with prior := some (m.prior.getD ⟨m.source, m.enabled, m.object, m.decel, m.preset, m.primed, m.gen, m.resuming, m.startAt⟩) }

/-- R60: planning commands that have not taken effect have none. -/
def Vm.unplan (m : Vm) : Vm :=
  match m.prior with
  | none => m
  | some k =>
    { m with
      source := k.source, enabled := k.enabled, object := k.object, decel := k.decel, preset := k.preset, primed := k.primed
      gen := k.gen, resuming := k.resuming, startAt := k.startAt, next := Knots.hold m.cur.p1, prior := none }

/-- A point of a cam table (R173). -/
structure CamPt where
  x : Int
  y : Int
  s : Int
  deriving DecidableEq, Repr

/-- A cam table (R173). `pts` holds the points written, by index; `seed` names the open contents of the
points not written. -/
structure Cam where
  /-- 0 EMPTY, 1 OPEN, 2 VALID, 3 IN_USE. -/
  state  : Nat
  format : Nat
  periodic : Bool
  n      : Nat
  pts    : List (Nat × CamPt)
  seed   : Nat
  deriving DecidableEq, Repr

def Cam.reset : Cam := ⟨0, 0, false, 0, [], 0⟩

end Sys2Proof.Machine
end

