-- ==== Sys2Proof/Machine/ProfOps.lean ====
section
/-! DEFINITION. Setpoint arithmetic: the cubic interpolation, trapezoidal profiles, the ramp generator,
gear and cam functions, extrapolated knots and the step/direction position (R92, R159-R183, R505). -/

namespace Sys2Proof.Machine

/-- log2 of a cell-cycle length of 4, 8, 16 or 32 strokes (R8). -/
def cycleLog (n : Nat) : Nat := match n with | 4 => 2 | 8 => 3 | 16 => 4 | _ => 5

/-- R92: p_cmd in the stroke with `cycle_phase` j, of N strokes. -/
def interpPos (k : Knots) (j n : Nat) : Int :=
  let J : Int := (j + 1 : Nat)
  let N : Int := n
  let D := k.p1 - k.p0
  k.p0 + Int.fdiv (D * (3 * J * J * N - 2 * J * J * J) + k.v0 * (J * J * J - 2 * J * J * N + J * N * N)
    + k.v1 * (J * J * J - J * J * N) + N * N * N / 2) ((2 ^ (3 * cycleLog n) : Nat) : Int)

/-- R92: v_set, in pu per stroke. -/
def interpVel (k : Knots) (j n : Nat) : Int :=
  let J : Int := (j + 1 : Nat)
  let N : Int := n
  let D := k.p1 - k.p0
  Int.fdiv (D * (6 * J * N - 6 * J * J) + k.v0 * (3 * J * J - 4 * J * N + N * N)
    + k.v1 * (3 * J * J - 2 * J * N) + N * N * N / 2) ((2 ^ (3 * cycleLog n) : Nat) : Int)

/-- The fixed-point scale of the exact profiles. -/
def profScale : Int := ((2 ^ 96 : Nat) : Int)

/-- A velocity in pu/s as pu per cell cycle, at `profScale`. -/
def velCycle (v : Int) (n fs : Nat) : Int := Int.fdiv (v * n * profScale) fs
/-- An acceleration in pu/s^2 as pu per cell cycle squared, at `profScale`. -/
def accCycle (a : Int) (n fs : Nat) : Int := Int.fdiv (a * (n * n : Nat) * profScale) ((fs * fs : Nat) : Int)

/-- A knot within ±1 of the exact value `x` (at `profScale`), picked by the free value `f` (R160). -/
def knotNear (x : Int) (f : Nat) : Int :=
  let lo := Int.fdiv x profScale
  if lo * profScale = x then lo - 1 + (f % 3 : Nat) else lo + (f % 2 : Nat)

/-- What the fixed-point scale may leave of a time in cycles: an instant this near to an end is the end. -/
def profSlack : Int := ((2 ^ 40 : Nat) : Int)

/-- Quotient of two scaled values, at the scale. -/
def sdiv (a b : Int) : Int := if b = 0 then 0 else Int.fdiv (a * profScale) b
/-- Product of two scaled values, at the scale. -/
def smul (a b : Int) : Int := Int.fdiv (a * b) profScale

/-- The square root of a scaled value, at the scale. -/
def ssqrt (a : Int) : Int := ((isqrtGo (a.toNat * 2 ^ 96) 256 0 : Nat) : Int)

/-- A jerk in pu/s^3 as pu per cell cycle cubed, at `profScale`. -/
def jerkCycle (j : Int) (n fs : Nat) : Int := Int.fdiv (j * (n * n * n : Nat) * profScale) ((fs * fs * fs : Nat) : Int)

/-- A piece of an exact profile: its duration in cycles, the acceleration at its start and its jerk, at the scale. -/
structure Piece where
  dur  : Int
  acc  : Int
  jerk : Int
  deriving DecidableEq, Repr

/-- Position, velocity and acceleration a time `t` into a piece that starts at (x, v). -/
def Piece.after (q : Piece) (x v t : Int) : Int × Int × Int :=
  (x + smul v t + smul (smul (Int.fdiv q.acc 2) t) t + Int.fdiv (smul (smul (smul q.jerk t) t) t) 6,
   v + smul q.acc t + smul (smul (Int.fdiv q.jerk 2) t) t, q.acc + smul q.jerk t)

/-- Position, velocity and acceleration after the time `t` along pieces from (x, v), and the time left over past
their end (-1 before it). -/
def piecesAt : List Piece → Int → Int → Int → Int × Int × Int × Int
  | [], x, v, t => (x, v, 0, t)
  | q :: l, x, v, t =>
    if t + profSlack < q.dur then (let r := q.after x v t; (r.1, r.2.1, r.2.2, -1))
    else (let r := q.after x v q.dur; piecesAt l r.1 r.2.1 (t - q.dur))

/-- How far pieces lead from the velocity `v`. -/
def piecesDist (l : List Piece) (v : Int) : Int := (piecesAt l 0 v ((l.map (·.dur)).sum)).1

/-- The velocity at which an acceleration `a` has been taken back to 0 under the jerk `j`. -/
def settleVel (u a j : Int) : Int := u + (if a < 0 then -(sdiv (smul a a) (2 * j)) else sdiv (smul a a) (2 * j))

/-- The change of velocity from `u` with the acceleration `a0` to `w` with none, in the shortest time under the
acceleration limit `lim` and the jerk `j`: the acceleration built up, held and taken back. -/
def rampPieces (u a0 w lim j : Int) : List Piece :=
  let s : Int := if w < settleVel u a0 j then -1 else 1
  let a := s * a0
  let dv := s * (w - u)
  let ap := min lim (ssqrt (smul j dv + Int.fdiv (smul a a) 2))
  let t1 := sdiv (((ap - a).natAbs : Nat) : Int) j
  let t3 := sdiv ap j
  let t2 := max 0 (sdiv (dv - smul (Int.fdiv (ap + a) 2) t1 - smul (Int.fdiv ap 2) t3) ap)
  [⟨t1, s * a, if a ≤ ap then s * j else -(s * j)⟩, ⟨t2, s * ap, 0⟩, ⟨t3, s * ap, -(s * j)⟩]

/-- The change of velocity from `u` with the acceleration `a0` to `w`, under acceleration `a` away from rest,
deceleration `b` toward it, and the jerk `j` (0: none). A change of direction passes through rest. -/
def changePieces (u a0 w a b j : Int) : List Piece :=
  let leg (u a0 w : Int) : List Piece :=
    let lim := if u.natAbs ≤ w.natAbs then a else b
    if j = 0 then [⟨sdiv (((w - u).natAbs : Nat) : Int) lim, if u ≤ w then lim else -lim, 0⟩]
    else rampPieces u a0 w lim j
  if (decide (u < 0) && decide (0 < w)) || (decide (0 < u) && decide (w < 0)) then leg u a0 0 ++ leg 0 0 w
  else leg u a0 w

/-- The largest peak velocity in [lo, hi], to the scale, from which a profile still ends within the distance `d`. -/
def peakSearch (d u a0 a b j : Int) : Nat → Int → Int → Int
  | 0, lo, _ => lo
  | k + 1, lo, hi =>
    let m := Int.fdiv (lo + hi) 2
    if piecesDist (changePieces u a0 m a b j) u + piecesDist (changePieces m 0 0 a b j) m ≤ d then peakSearch d u a0 a b j k m hi
    else peakSearch d u a0 a b j k lo m

/-- R159, R160: the pieces of a positioning move over the distance `d`, in the direction of travel, from the velocity
`u` and the acceleration `a0`, with the cruise velocity `vm`: the shortest profile under the limits (DEDUCED, log entry 70). -/
def movePieces (d u a0 vm a b j : Int) : List Piece :=
  let dist (v : Int) : Int := piecesDist (changePieces u a0 v a b j) u + piecesDist (changePieces v 0 0 a b j) v
  let vp :=
    if j = 0 then
      -- a motion away from the end first comes to rest
      let (d, u) := if u < 0 then (d - piecesDist (changePieces u 0 0 a b 0) u, 0) else (d, u)
      let pk := ssqrt (sdiv (smul b (2 * smul a d + smul u u)) (a + b))
      max 0 (if u ≤ vm then min vm (max pk u) else vm)
    else if dist vm ≤ d then vm
    else
      let us := settleVel u a0 j
      peakSearch d u a0 a b j 160 (if 0 < us ∧ us ≤ vm ∧ dist us ≤ d then us else 0) vm
  changePieces u a0 vp a b j ++ [⟨max 0 (sdiv (d - dist vp) vp), 0, 0⟩] ++ changePieces vp 0 0 a b j

/-- R159: where an axis at (p, v) with the acceleration `a0` comes to rest under the limits of a request. -/
def MoveReq.stopAt (r : MoveReq) (p v a0 : Int) (n fs : Nat) : Int :=
  let j := jerkCycle r.jerk n fs
  p + piecesDist (changePieces v (if j = 0 then 0 else a0) 0 (accCycle r.accel n fs) (accCycle r.decel n fs) j) v

/-- R159, R160: the exact state of a running move after `k` cycles: position, velocity and acceleration (pu, pu per
cycle, pu per cycle squared, at the scale) and whether it has ended (a positioning move) or reached its velocity. -/
def Prof.exact (m : Prof) (n fs k : Nat) : Int × Int × Int × Bool :=
  let a := accCycle m.req.accel n fs
  let b := accCycle m.req.decel n fs
  let j := jerkCycle m.req.jerk n fs
  let a0 := if j = 0 then 0 else m.a0
  let t := (k : Int) * profScale
  if m.req.kind = 2 then
    let w := velCycle m.req.target n fs
    let (x, v, c, left) := piecesAt (changePieces m.v0 a0 w a b j) m.p0 m.v0 t
    if left < 0 then (x, v, c, false) else (x + smul w left, w, 0, true)
  else
    -- the stopping point decides the direction
    let goal := m.goal * profScale
    let s : Int := if goal < m.req.stopAt m.p0 m.v0 m.a0 n fs then -1 else 1
    let (x, v, c, left) := piecesAt (movePieces (s * (goal - m.p0)) (s * m.v0) (s * a0) (velCycle m.req.vMax n fs) a b j) 0 (s * m.v0) t
    if left < 0 then (m.p0 + s * x, s * v, s * c, false) else (goal, 0, 0, true)

/-- The knots a running move gives for its next cycle, from the last knot (p, v); `f` the free value in hand.
The move advanced, the knots, and whether this was the last knot of a positioning move, or the first at the
target velocity of a velocity move (R160). -/
def Prof.plan (m : Prof) (n fs : Nat) (p v : Int) (f : Nat) : Prof × Knots × Bool :=
  let k := m.k + 1
  let (x, w, _, done) := m.exact n fs k
  let x := knotNear x (Config.knotPick f)
  let w := knotNear w (Config.knotPick (f + 1))
  if m.req.kind = 2 then ({ m with k := k, reached := m.reached || done }, ⟨p, v, x, w⟩, done && !m.reached)
  else if done then ({ m with k := k }, ⟨p, v, m.goal, 0⟩, true)
  else ({ m with k := k }, ⟨p, v, x, w⟩, false)

/-- A move started from the planned position `p` and velocity `v` in pu, and the acceleration `a0` at the scale
(R159). -/
def MoveReq.start (r : MoveReq) (p v a0 : Int) : Prof :=
  { req := r, goal := (match r.kind with | 0 => r.target | 1 => p + r.target | _ => 0), p0 := p * profScale
    v0 := v * profScale, a0 := a0, begun := true, k := 0, reached := false }

/-- R165: a running move replanned from the state at the next planning point toward its unchanged target. -/
def Prof.restart (m : Prof) : Prof :=
  if m.k = 0 then { m with begun := false }
  else
    { m with
      k := 0, begun := false, reached := false
      req := if m.req.kind = 1 then { m.req with kind := 0, target := m.goal } else m.req }

/-- R162: a running move as it stands at the next planning point, its exact state kept. -/
def Prof.shift (m : Prof) (n fs : Nat) : Prof :=
  if m.k = 0 then m
  else
    let e := m.exact n fs m.k
    { m with
      k := 0, p0 := e.1, v0 := e.2.1, a0 := e.2.2.1
      req := if m.req.kind = 1 then { m.req with kind := 0, target := m.goal } else m.req }

/-- R160, R161: the generator's next cycle from the last knot (p, v) and the acceleration `a0` there, at the scale:
the generator, the knots, `EV_PF_DONE`, and whether a queued move started. -/
def Gen.plan (g : Gen) (n fs : Nat) (p v a0 : Int) (f : Nat) : Gen × Knots × Bool × Bool :=
  match g.run with
  | some m =>
    let m0 := if m.begun then m else { m.req.start p v a0 with goal := if m.req.kind = 0 then m.goal else (m.req.start p v a0).goal }
    let (m', k, done) := m0.plan n fs p v f
    if done ∧ m.req.kind ≠ 2 then ({ g with run := none }, k, true, false) else ({ g with run := some m' }, k, done, false)
  | none =>
    match g.queue with
    | r :: q =>
      let (m', k, done) := (r.start p v 0).plan n fs p v f
      if done ∧ r.kind ≠ 2 then (⟨none, q⟩, k, true, true) else (⟨some m', q⟩, k, done, true)
    | [] => (g, Knots.hold p, false, false)

/-- R162: whether the limits of a positioning move can stop it at its goal from (p, v) with the acceleration `a0`, at
the scale, without overshoot. -/
def MoveReq.feasible (r : MoveReq) (goal p v a0 : Int) (n fs : Nat) : Bool :=
  if r.kind = 2 then true
  else
    let x := r.stopAt p v a0 n fs
    let g := goal * profScale
    let ahead := if v = 0 then a0 else v
    if ahead = 0 then true
    else if 0 < ahead then decide (x ≤ g + profSlack) else decide (g - profSlack ≤ x)

/-- R163: D for a deceleration in pu/s^2. -/
def rampD (d : Int) (fs : Nat) : Int := rdivUp (d * 2 ^ 32) (fs * fs)

/-- R163: the start of a ramp. -/
def Ramp.start (p v d : Int) (fs : Nat) : Ramp := ⟨p * 2 ^ 32, v * 2 ^ 32, rampD d fs⟩

/-- R163: one stroke of a ramp. -/
def Ramp.step (r : Ramp) : Ramp :=
  let m : Int := min ((r.v.natAbs : Nat) : Int) r.d
  let v := if 0 < r.v then r.v - m else if r.v < 0 then r.v + m else 0
  ⟨r.p + v, v, r.d⟩

/-- R163: the p_cmd of a ramp. -/
def Ramp.pos (r : Ramp) : Int := Int.fdiv r.p (2 ^ 32)

/-- A fraction with a signed denominator, floored. -/
def floorFrac (a b : Int) : Int := if b = 0 then 0 else if 0 < b then Int.fdiv a b else Int.fdiv (-a) (-b)

/-- R169: G(u), with a single floor. -/
def gearG (no : Int) (do_ : Nat) (nn : Int) (dn : Nat) (len u : Int) : Int :=
  let before := (decide (len = 0) && decide (u < 0)) || (decide (0 < len) && decide (u < 0)) ||
    (decide (len < 0) && decide (0 < u))
  let within := decide (len ≠ 0) && !before && decide (u.natAbs ≤ len.natAbs)
  let D : Int := do_
  let N : Int := dn
  if before then floorFrac (no * u) D
  else if within then
    floorFrac (2 * len * N * no * u + (nn * D - no * N) * u * u) (2 * len * D * N)
  else
    floorFrac (2 * no * N * len + (nn * D - no * N) * len + 2 * nn * D * (u - len)) (2 * D * N)

/-- R169: the slope of G at u, as numerator and denominator. -/
def gearSlope (no : Int) (do_ : Nat) (nn : Int) (dn : Nat) (len u : Int) : Int × Int :=
  let before := (decide (len = 0) && decide (u < 0)) || (decide (0 < len) && decide (u < 0)) ||
    (decide (len < 0) && decide (0 < u))
  let within := decide (len ≠ 0) && !before && decide (u.natAbs ≤ len.natAbs)
  if before then (no, do_)
  else if within then (no * dn * len + (nn * do_ - no * dn) * u, (do_ : Int) * dn * len)
  else (nn, dn)

/-- R169: whether u has reached the sync length. -/
def gearReached (len u : Int) : Bool :=
  if len = 0 then decide (0 ≤ u) else if 0 < len then decide (len ≤ u) else decide (u ≤ len)

/-- A knot velocity of slope a / b times a master velocity, within ±1 of the exact value. -/
def slopeVel (a b mv : Int) (f : Nat) : Int :=
  if b = 0 then 0
  else
    let num := if 0 < b then a * mv else -(a * mv)
    let den := if 0 < b then b else -b
    let lo := Int.fdiv num den
    if lo * den = num then lo - 1 + (Config.knotPick f % 3 : Nat) else lo + (Config.knotPick f % 2 : Nat)

/-- A point of a cam table: written, or with open contents (R173). -/
def Cam.pt (t : Cam) (i : Nat) : CamPt :=
  match t.pts.find? (fun p => p.1 == i) with
  | some p => p.2
  | none => let o := Config.camPoint t.seed i; ⟨o.1, o.2.1, o.2.2⟩

/-- The index of the segment of a cam table that holds x: the last one up to the given index that starts at or
below x. -/
def Cam.seg (t : Cam) (x : Int) : Nat → Nat
  | 0 => 0
  | i + 1 => if (t.pt (i + 1)).x ≤ x then i + 1 else t.seg x i

/-- R175: F on one segment at u = x - x_i. -/
def camSeg (hermite : Bool) (a b : CamPt) (x : Int) : Int :=
  let h := b.x - a.x
  let u := x - a.x
  if hermite then
    a.y + floorFrac ((2 ^ 32) * (b.y - a.y) * (3 * h * u * u - 2 * u * u * u)
      + h * (a.s * (u * u * u - 2 * h * u * u + h * h * u) + b.s * (u * u * u - h * u * u))) ((2 ^ 32) * h * h * h)
  else a.y + floorFrac ((b.y - a.y) * u) h

/-- R175: the slope of F on one segment, numerator and denominator. -/
def camSlope (hermite : Bool) (a b : CamPt) (x : Int) : Int × Int :=
  let h := b.x - a.x
  let u := x - a.x
  if hermite then
    ((2 ^ 32) * (b.y - a.y) * (6 * h * u - 6 * u * u) + h * (a.s * (3 * u * u - 4 * h * u + h * h) + b.s * (3 * u * u - 2 * h * u)),
      (2 ^ 32) * h * h * h)
  else (b.y - a.y, h)

/-- R175: F(x), its slope, and whether x lies outside a non-periodic table. -/
def Cam.value (t : Cam) (x : Int) : Int × (Int × Int) × Bool :=
  let a := t.pt 0
  let z := t.pt (t.n - 1)
  let inside (w : Int) : Int × (Int × Int) :=
    if w = z.x then (z.y, (let i := t.n - 2; camSlope (t.format = 1) (t.pt i) z w))
    else
      let i := t.seg w (t.n - 2)
      (camSeg (t.format = 1) (t.pt i) (t.pt (i + 1)) w, camSlope (t.format = 1) (t.pt i) (t.pt (i + 1)) w)
  if t.periodic then
    let X := z.x - a.x
    if X ≤ 0 then (a.y, (0, 1), false)
    else
      let k := Int.fdiv (x - a.x) X
      let w := x - k * X
      let r := inside w
      (r.1 + k * (z.y - a.y), r.2, false)
  else if x < a.x then (a.y, (0, 1), true)
  else if z.x < x then (z.y, (0, 1), true)
  else
    let r := inside x
    (r.1, r.2, false)

/-- R174: the first point that fails the check of `CAM_COMMIT`, among those from index `i` on. -/
def Cam.check (t : Cam) : Nat → Nat → Option Nat
  | 0, _ => none
  | k + 1, i =>
    let p := t.pt i
    let far (v : Int) : Bool := decide (2 ^ 62 < v.natAbs)
    let bad := far p.x || far p.y || (t.format = 1 && far p.s) ||
      (i != 0 && (decide (p.x ≤ (t.pt (i - 1)).x) || decide (2 ^ 32 < p.x - (t.pt (i - 1)).x)))
    if bad then some i else t.check k (i + 1)

/-- R173: the bytes a table of the motion-table pool occupies. -/
def camBytes (n format : Nat) : Nat := 64 + n * (if format = 1 then 24 else 16)

/-- R505: extrapolated knots for cycle c + 1 from position x and change dx per stroke at the input latch point;
`prev` the knots of cycle c. -/
def extrapolate (x dx : Int) (n : Nat) (prev : Option Knots) : Knots :=
  let v := dx * n
  match prev with
  | some k => ⟨k.p1, k.v1, x + 2 * v, v⟩
  | none => ⟨x + v, v, x + 2 * v, v⟩

/-- R183: the input position after E counts. -/
def StepDir.xAt (s : StepDir) (e : Int) : Int :=
  s.x0 + (if s.den = 0 then 0 else Int.fdiv (e * s.num) s.den)

/-- R183: p_cmd at a latch point `t` (device ns), with a stroke of `stroke` ns. -/
def StepDir.pos (s : StepDir) (t stroke : Nat) : Int :=
  let xE := s.xAt s.e
  let xE1 := s.xAt (s.e - s.dirLast)
  let T := let d := s.tE - s.tE1; if 0 < d ∧ d ≤ s.timeoutMs * 1000000 then d else stroke
  xE1 + rdivUp ((xE - xE1) * ((min (t - s.tE) T : Nat) : Int)) T

/-- R182: the microstep count moved toward its target by at most 256, and whether it lagged. -/
def StepCfg.advance (s : StepCfg) (pCmd : Int) : StepCfg × Bool :=
  let tgt := if s.den = 0 then 0 else Int.fdiv (pCmd * s.num) s.den
  let d := clampI (-256) 256 (tgt - s.mu)
  ({ s with mu := s.mu + d }, d != tgt - s.mu)

/-- R172: one stroke of the register trim: what moves from the pending to the applied trim. -/
def trimMove (step pend : Int) : Int := clampI (-step) step pend

/-- R171: the phase profile one cycle on: its state and the knots of the phase. -/
def Phase1.plan (p : Phase1) (n fs f : Nat) : Phase1 × Knots :=
  if p.now = p.goal ∧ p.nowV = 0 then (p, Knots.hold p.goal)
  else
    let m : Prof :=
      { req := ⟨0, p.goal, p.vel, p.acc, p.acc, 0⟩, goal := p.goal, p0 := p.p0 * profScale, v0 := p.v0 * profScale, a0 := 0
        begun := true, k := p.k, reached := false }
    let (m', k, _) := m.plan n fs p.now p.nowV f
    ({ p with k := m'.k, now := k.p1, nowV := k.v1 }, k)

/-- R171: a new phase target, from the state the phase has reached. -/
def Phase1.retarget (p : Phase1) (goal vel acc : Int) : Phase1 :=
  { p with goal := goal, vel := vel, acc := acc, p0 := p.now, v0 := p.nowV, k := 0 }

def Phase1.zero : Phase1 := ⟨0, 0, 0, 0, 0, 0, 0, 0⟩

/-- R179: the latched value of a remote axis: p(s), p(s - 1), the offset of the tag and the stroke length. -/
def latchRemote (pS pS1 : Int) (off len : Nat) : Int := pS + rdivUp ((pS - pS1) * off) (max len 1)

end Sys2Proof.Machine
end

