-- ==== Sys2Proof/Machine/StateArm.lean ====
section
/-! DEFINITION. The state of the robot cell: arms, spans and the path clock, the yards, zones and claims
(R272-R306). FP64 values are kept as their 64-bit words. -/

namespace Sys2Proof.Machine

/-- R274: the checked part of a joint entry the device itself uses, and the whole entry. -/
structure Joint where
  axis  : Nat
  type  : Nat
  zeroPu : Int
  /-- The 216 bytes of the entry. -/
  raw   : Bytes
  deriving DecidableEq, Repr

/-- R274: an accepted `ARM_CONFIGURE`. -/
structure ArmCfg where
  clearance : Nat
  /-- Base position and orientation, 7 FP64 words. -/
  base   : List Nat
  joints : List Joint
  deriving DecidableEq, Repr

/-- R275: a capsule. -/
structure Capsule where
  ref    : Nat
  kind   : Nat
  /-- a, b and radius, 7 FP64 words. -/
  geom   : List Nat
  deriving DecidableEq, Repr

/-- R276: a tool. -/
structure Tool where
  tool : Nat
  /-- Position, quaternion, mass and centre of mass, 11 FP64 words. -/
  geom : List Nat
  deriving DecidableEq, Repr

/-- R277: the measured stopping model. -/
structure StopModel where
  speeds   : List Nat
  payloads : List Nat
  /-- Payload-major (time, distance) pairs. -/
  pairs    : List (Nat × Nat)
  deriving DecidableEq, Repr

/-- R280: a span: a knot pair per joint and the two rate steps; the yard segments that end in it. -/
structure Span where
  knots : List Knots
  stepQ : Nat
  stepN : Nat
  /-- Yard segments whose end the path clock passes in this span. -/
  ends  : Nat
  /-- The path comes to rest at the end of this span. -/
  last  : Bool
  deriving DecidableEq, Repr

/-- R297: a claim request. -/
structure ClaimReq where
  /-- 0-7 arms, 8 the host, 9 a release by the host that waits for the planning point (R299). -/
  who   : Nat
  zones : Nat
  /-- The cell cycle of the first request. -/
  since : Nat
  ext   : Bool
  deriving DecidableEq, Repr

/-- R295: a zone. -/
structure Zone where
  defined : Bool
  margin  : Nat
  /-- Planes: normal and distance, 4 FP64 words each. -/
  planes  : List (List Nat)
  /-- The requester that holds it. -/
  holder  : Option Nat
  deriving DecidableEq, Repr

def Zone.reset : Zone := ⟨false, 0, [], none⟩

/-- The yard of an arm (R289-R292). -/
structure Yard where
  /-- 0 host ring, 1 append. -/
  loc     : Nat
  high    : Nat
  low     : Nat
  entries : Nat
  base    : Nat
  head    : Nat
  tail    : Nat
  /-- 0 idle, 1 active, 2 flushed, 3 error. -/
  state   : Nat
  /-- The segments in SRAM, 160 bytes each, oldest first. -/
  segs    : List Bytes
  /-- Records fetched in this cell cycle. -/
  fetched : Nat
  /-- R287: how many of the segments, from the oldest on, the planner has validated. -/
  checked : Nat
  deriving DecidableEq, Repr

/-- R289: the records of the host ring not yet fetched. -/
def Yard.left (y : Yard) : Nat := if y.entries = 0 then 0 else (y.tail + y.entries - y.head % y.entries) % y.entries

/-- The reset of a yard: `high_float` and `low_float` have no stated reset. -/
def Yard.reset : Yard := ⟨0, 0, 0, 0, 0, 0, 0, 0, [], 0, 0⟩

/-- An arm (R279-R303). -/
structure Arm where
  cfg      : Option ArmCfg
  capsules : List Capsule
  tools    : Option (List Tool)
  model    : Option StopModel
  payload  : Nat
  /-- 0 DISABLED, 1 IDLE, 2 RUNNING, 3 HELD, 4 STOPPED, 5 FAULT. -/
  state    : Nat
  stop     : Nat
  yard     : Yard
  sepK     : Nat
  /-- The result of the last separation run, in force from the next cycle (R301). -/
  sepNext  : Nat
  yardLimited : Bool
  claimWait : Bool
  protective : Bool
  tool     : Nat
  override : Nat
  rate     : Nat
  target   : Nat
  /-- R282: the limiting condition ramps at r_step_q. -/
  quick    : Bool
  tau      : Nat
  /-- The span in use first, then the spans ahead. -/
  spans    : List Span
  segId    : Nat
  faultCode : Nat
  /-- [0] path_error, [1] plan_late, [2] claim_forced, [3] protective_seen. -/
  flags    : Nat
  events   : Nat
  errSeg   : Nat
  markSeg  : Nat
  /-- R303 offsets 0x30-0x87: 11 FP64 words. -/
  pose     : List Nat
  standstill : Bool
  /-- R293: a stop was released while the rate still ramps to 0. -/
  releasing : Bool
  /-- R165: `FEED_RESUME` is planned. -/
  resuming : Bool
  /-- R278: an enable is planned; the joints are taken at the first stroke of its cycle. -/
  enabling : Bool
  deriving DecidableEq, Repr

def Arm.reset : Arm :=
  { cfg := none, capsules := [], tools := none, model := none, payload := 0, state := 0, stop := 0, yard := Yard.reset
    sepK := 64, sepNext := 64, yardLimited := false, claimWait := false, protective := false, tool := 0
    override := 1000, rate := 0, target := 0, quick := false, tau := 0, spans := [], segId := 0, faultCode := 0
    flags := 0, events := 0, errSeg := 0, markSeg := 0, pose := List.replicate 11 0, standstill := false
    releasing := false, resuming := false, enabling := false }

end Sys2Proof.Machine
end

