-- ==== Sys2Proof/Machine/ArmOps.lean ====
section
/-! DEFINITION. One arm: the checks of its description, the path clock and path rate, path segments, and the
volume of a zone (R274-R287, R295). -/

namespace Sys2Proof.Machine

/-- `n` FP64 words from offset `o`. -/
def fpWords (p : Bytes) (o n : Nat) : List Nat := (List.range n).map (fun i => u64 p (o + 8 * i))

/-- Whether the sum of squares of finite FP64 words lies within 10^-9 of 1, as a norm. -/
def unitNorm (ws : List Nat) : Bool :=
  let xs := ws.map fpScaled
  if xs.all (·.isSome) then
    let s : Int := (xs.map (fun x => (x.getD 0) * (x.getD 0))).sum
    let one := fpOne * fpOne
    -- (1 - 10^-9)^2 <= s <= (1 + 10^-9)^2
    decide (one * (999999999 * 999999999) ≤ s * (1000000000 * 1000000000)) &&
    decide (s * (1000000000 * 1000000000) ≤ one * (1000000001 * 1000000001))
  else false

/-- The first offset of a list of (offset, check) pairs whose check fails. -/
def firstBad (l : List (Nat × Bool)) : Option Nat := (l.find? (fun x => !x.2)).map (·.1)

/-- R274: the checks of the joint entry at offset `o`. -/
def jointChecks (p : Bytes) (o : Nat) : List (Nat × Bool) :=
  let f (k : Nat) : Nat := u64 p (o + k)
  [(o, decide (u8 p (o + 3) = 1) && decide (uLE p o 3 < 128)), (o + 4, decide (u8 p (o + 4) ≤ 1)),
   (o + 8, (fpWords p (o + 8) 3).all fpFinite), (o + 32, unitNorm (fpWords p (o + 32) 4)),
   (o + 64, fpFinite (f 64)), (o + 72, fpFinite (f 72) && fpLeq (f 64) (f 72) && !(fpLeq (f 72) (f 64))),
   (o + 80, fpPos (f 80)), (o + 88, fpPos (f 88)), (o + 96, fpPos (f 96)),
   (o + 104, fpFinite (f 104) && fpLeq (f 96) (f 104)), (o + 112, fpPos (f 112)),
   (o + 120, fpFinite (f 120) && fpScaled (f 120) != some 0), (o + 136, fpNonneg (f 136)),
   (o + 144, (fpWords p (o + 144) 3).all fpFinite), (o + 168, (fpWords p (o + 168) 6).all fpFinite)]

/-- R274: the first failing field of an `ARM_CONFIGURE` payload. -/
def armCfgFault (p : Bytes) : Option Nat :=
  let n := u8 p 0
  firstBad ([(0, decide (1 ≤ n) && decide (n ≤ 9)), (8, fpNonneg (u64 p 8)), (16, (fpWords p 16 3).all fpFinite),
    (40, unitNorm (fpWords p 40 4))] ++ (List.range n).flatMap (fun j => jointChecks p (72 + 216 * j)))

/-- R274: the configuration a payload carries. -/
def armCfgOf (p : Bytes) : ArmCfg :=
  { clearance := u64 p 8, base := fpWords p 16 7
    joints := (List.range (u8 p 0)).map (fun j =>
      let o := 72 + 216 * j
      ⟨uLE p o 3, u8 p (o + 4), i64 p (o + 128), slice p o 216⟩) }

/-- R275: the first failing field of an `ARM_CAPSULES` payload for an arm of `nj` joints. -/
def capsulesFault (p : Bytes) (nj : Nat) : Option Nat :=
  let n := u8 p 0
  let es := List.range n
  let cnt (k i : Nat) : Nat := ((List.range (i + 1)).filter (fun j => u8 p (8 + 64 * j + 1) == k)).length
  firstBad ((0, decide (n ≤ 20)) :: es.flatMap (fun i =>
    let o := 8 + 64 * i
    let k := u8 p (o + 1)
    [(o, if k = 1 then decide (u8 p o ≤ 3) else decide (u8 p o ≤ nj)),
     (o + 1, (k == 0 && decide (cnt 0 i ≤ 16)) || (k == 1 && decide (cnt 1 i ≤ 4))),
     (o + 8, (fpWords p (o + 8) 3).all fpFinite), (o + 32, (fpWords p (o + 32) 3).all fpFinite),
     (o + 56, fpPos (u64 p (o + 56)))]))

/-- R275: the capsules of a payload. -/
def capsulesOf (p : Bytes) : List Capsule :=
  (List.range (u8 p 0)).map (fun i => let o := 8 + 64 * i; ⟨u8 p o, u8 p (o + 1), fpWords p (o + 8) 7⟩)

/-- R276: the first failing field of an `ARM_TOOLS` payload. -/
def toolsFault (p : Bytes) : Option Nat :=
  let n := u8 p 0
  firstBad ((0, decide (1 ≤ n) && decide (n ≤ 4)) :: (List.range n).flatMap (fun i =>
    let o := 8 + 96 * i
    [(o, decide (u8 p o ≤ 3)), (o + 8, (fpWords p (o + 8) 3).all fpFinite), (o + 32, unitNorm (fpWords p (o + 32) 4)),
     (o + 64, fpNonneg (u64 p (o + 64))), (o + 72, (fpWords p (o + 72) 3).all fpFinite)]))

/-- R276: the tools of a payload. -/
def toolsOf (p : Bytes) : List Tool :=
  (List.range (u8 p 0)).map (fun i => let o := 8 + 96 * i; ⟨u8 p o, fpWords p (o + 8) 11⟩)

/-- R277: the length of an `ARM_STOP_MODEL` payload. -/
def stopModelLen (ns np : Nat) : Nat := 8 + 8 * ns + 8 * np + 16 * ns * np

/-- Whether a list of FP64 words strictly increases. -/
def fpIncreasing : List Nat → Bool
  | a :: b :: r => fpLeq a b && !(fpLeq b a) && fpIncreasing (b :: r)
  | _ => true

/-- R277: the first failing field of an `ARM_STOP_MODEL` payload. -/
def stopModelFault (p : Bytes) : Option Nat :=
  let ns := u8 p 0
  let np := u8 p 1
  let pay := 8 + 8 * ns
  let tab := pay + 8 * np
  let t (i j k : Nat) : Nat := u64 p (tab + 16 * (i * ns + j) + 8 * k)
  firstBad ([(0, decide (2 ≤ ns) && decide (ns ≤ 8)), (1, decide (1 ≤ np) && decide (np ≤ 4)),
    (8, fpScaled (u64 p 8) == some 0 && (fpWords p 8 ns).all fpFinite && fpIncreasing (fpWords p 8 ns)),
    (pay, (fpWords p pay np).all fpNonneg && fpIncreasing (fpWords p pay np))] ++
    (List.range np).flatMap (fun i => (List.range ns).map (fun j =>
      (tab + 16 * (i * ns + j), (List.range 2).all (fun k =>
        fpNonneg (t i j k) && (j == 0 || fpLeq (t i (j - 1) k) (t i j k)) && (i == 0 || fpLeq (t (i - 1) j k) (t i j k)))))))

/-- R277: the model of a payload. -/
def stopModelOf (p : Bytes) : StopModel :=
  let ns := u8 p 0
  let np := u8 p 1
  let tab := 8 + 8 * ns + 8 * np
  { speeds := fpWords p 8 ns, payloads := fpWords p (8 + 8 * ns) np
    pairs := (List.range (ns * np)).map (fun i => (u64 p (tab + 16 * i), u64 p (tab + 16 * i + 8))) }

/-- R281: p_cmd of a joint at path clock tau, N strokes per span. -/
def spanPos (k : Knots) (tau n : Nat) : Int :=
  let t : Int := tau
  let N : Int := n
  let D := k.p1 - k.p0
  let a := (2 ^ 16 : Nat)
  k.p0 + Int.fdiv (D * (3 * t * t * N * a - 2 * t * t * t) + k.v0 * (t * t * t - 2 * t * t * N * a + t * N * N * (2 ^ 32 : Nat))
    + k.v1 * (t * t * t - t * t * N * a) + N * N * N * (2 ^ 47 : Nat)) ((2 ^ (3 * cycleLog n + 48) : Nat) : Int)

/-- R282: the path rate moved toward its target. -/
def rateStep (r rt down up : Nat) : Nat :=
  if rt < r then max rt (r - down) else if r < rt then min rt (r + up) else r

/-- R282: the rate steps in force: of the span in use. -/
def Arm.steps (a : Arm) : Nat × Nat :=
  match a.spans with
  | s :: _ => (s.stepQ, s.stepN)
  | [] => (65536, 65536)

/-- R281 step 2: the path clock after rate r; the spans left and whether the next span was missing. -/
def clockStep (spans : List Span) (tau r n : Nat) : List Span × Nat × Nat × Bool :=
  let t := tau + r
  if t < n * 65536 then (spans, t, 0, false)
  else match spans with
    | s :: s' :: rest => (s' :: rest, t - n * 65536, s.ends, false)
    | [s] => if s.last then ([], 0, s.ends, false) else ([s], n * 65536, 0, true)
    | [] => ([], 0, 0, false)

/-- R284: the fields of a segment. -/
def segKind (s : Bytes) : Nat := u8 s 0
def segMarker (s : Bytes) : Bool := bit (u8 s 1) 0
def segTool (s : Bytes) : Nat := u8 s 2
def segIdOf (s : Bytes) : Nat := u32 s 4

/-- R284, R287: whether the fields of a segment are in range for an arm of `nj` joints with the tools given. -/
def segFieldsOk (s : Bytes) (nj : Nat) (tools : List Nat) : Bool :=
  let k := segKind s
  let joint := k == 0
  let cart := k == 1 || k == 2 || k == 3
  let dwell := k == 4
  decide (k ≤ 4) && decide (u8 s 1 ≤ 3) && tools.contains (segTool s) && u8 s 3 == 0 &&
  (if joint then fpPos (u64 s 8) && fpLe (u64 s 8) 1 1 else if dwell then fpNonneg (u64 s 8) && fpLe (u64 s 8) 60 1 else fpPos (u64 s 8)) &&
  (if joint then fpPos (u64 s 16) && fpLe (u64 s 16) 1 1 else if dwell then u64 s 16 == 0 else fpPos (u64 s 16)) &&
  (if joint then fpNonneg (u64 s 24) && fpLe (u64 s 24) 1 2 else if dwell then u64 s 24 == 0 else fpNonneg (u64 s 24)) &&
  (if joint then (fpWords s 32 nj).all fpFinite && allZero s (32 + 8 * nj) (72 - 8 * nj) else true) &&
  (if cart then (fpWords s 32 3).all fpFinite && unitNorm (fpWords s 56 4) && allZero s 88 16 else true) &&
  (if k == 2 then (fpWords s 104 3).all fpFinite else allZero s 104 56)

/-- The scaled value of a finite FP64 word, 0 otherwise. -/
def fpVal (w : Nat) : Int := (fpScaled w).getD 0

/-- The cross product of two vectors. -/
def cross (a b : Int × Int × Int) : Int × Int × Int :=
  (a.2.1 * b.2.2 - a.2.2 * b.2.1, a.2.2 * b.1 - a.1 * b.2.2, a.1 * b.2.1 - a.2.1 * b.1)
/-- The scalar product of two vectors. -/
def dot (a b : Int × Int × Int) : Int := a.1 * b.1 + a.2.1 * b.2.1 + a.2.2 * b.2.2

/-- R295: whether the volume of planes (normal, distance) is bounded: no direction other than 0 keeps every
n_i x <= 0. Such a direction, if there is one, lies on two of the planes through the origin. -/
def zoneBounded (ps : List ((Int × Int × Int) × Int)) : Bool :=
  let ns := ps.map (·.1)
  let dirs := ns.flatMap (fun a => ns.map (fun b => cross a b))
  let nz := dirs.filter (fun d => d != (0, 0, 0))
  !nz.isEmpty && nz.all (fun d => ns.any (fun n => decide (0 < dot n d)))

/-- R295: whether the (bounded) volume is not empty: some three planes meet in a point of it. The point is
num / det, compared without division. -/
def zoneNonempty (ps : List ((Int × Int × Int) × Int)) : Bool :=
  ps.any (fun a => ps.any (fun b => ps.any (fun c =>
    let det := dot a.1 (cross b.1 c.1)
    let bc := cross b.1 c.1
    let ca := cross c.1 a.1
    let ab := cross a.1 b.1
    let num : Int × Int × Int := (a.2 * bc.1 + b.2 * ca.1 + c.2 * ab.1, a.2 * bc.2.1 + b.2 * ca.2.1 + c.2 * ab.2.1,
      a.2 * bc.2.2 + b.2 * ca.2.2 + c.2 * ab.2.2)
    det != 0 && ps.all (fun p =>
      if 0 < det then decide (dot p.1 num ≤ p.2 * det) else decide (p.2 * det ≤ dot p.1 num)))))

/-- R295: the planes of a `ZONE_DEFINE` payload, normals and distances at the FP64 scale. -/
def zonePlanes (p : Bytes) : List ((Int × Int × Int) × Int) :=
  (List.range (u8 p 0)).map (fun i =>
    let o := 16 + 32 * i
    ((fpVal (u64 p o), fpVal (u64 p (o + 8)), fpVal (u64 p (o + 16))), fpVal (u64 p (o + 24))))

/-- R295: the first failing field of a `ZONE_DEFINE` payload. -/
def zoneFault (p : Bytes) : Option Nat :=
  let n := u8 p 0
  match firstBad ([(0, decide (4 ≤ n) && decide (n ≤ 16)), (8, fpNonneg (u64 p 8))] ++
      (List.range n).flatMap (fun i => let o := 16 + 32 * i; [(o, unitNorm (fpWords p o 3)), (o + 24, fpFinite (u64 p (o + 24)))])) with
  | some o => some o
  | none => if zoneBounded (zonePlanes p) && zoneNonempty (zonePlanes p) then none else some 16

/-- R281, R293: a path flushed: no spans ahead, the SRAM yard empty, the yard in its flushed state. -/
def Arm.flush (a : Arm) : Arm :=
  { a with spans := [], tau := 0, yard := { a.yard with segs := [], checked := 0, state := 2 } }

end Sys2Proof.Machine
end

