-- ==== Sys2Proof/Machine/StateSaf.lean ====
section
/-! DEFINITION. The state of the safety channels: axes, arms, inputs, outputs and compartments (R307-R340). -/

namespace Sys2Proof.Machine

/-- R340: the fields of `SAFETY_AXIS_CONFIGURE`. -/
structure SafAxCfg where
  bSource : Nat
  bIndex  : Nat
  stoOut  : Nat
  /-- [0] sto_reset, [1] slp_sto, [2] sdi_sto, [3] sdi_forbid_pos. -/
  flags   : Nat
  bNum    : Nat
  bDen    : Nat
  /-- Activation of STO, SS1, SLS, SLP, SDI (R314). -/
  acts    : List Nat
  ss1Ms   : Nat
  posTol  : Nat
  velTol  : Nat
  disc    : Nat
  sls     : Int
  slpMin  : Int
  slpMax  : Int
  sdiTol  : Nat
  deriving DecidableEq, Repr

def SafAxCfg.reset : SafAxCfg := ⟨0xFF, 0, 0xFF, 0, 0, 0, List.replicate 5 1, 0, 0, 0, 0, 0, 0, 0, 0⟩

/-- The safety part of an axis (R310-R320). -/
structure SafAx where
  cfg     : SafAxCfg
  /-- R310: the count and the levels A, B of a quadrature secondary source. -/
  bCount  : Int
  bPhase  : Nat
  /-- R310: secondary count since the reference, reference, and the last raw secondary count. -/
  cB      : Int
  pB0     : Int
  bPrev   : Option Int
  discCount : Nat
  /-- R320: latched violation, and whether its condition still stands. -/
  viol    : Bool
  violNow : Bool
  /-- R319: extreme positions reached in the allowed direction, of channels A and B. -/
  sdiExt  : Option Int
  sdiExtB : Option Int
  /-- R318: positions of the last strokes, newest first, of channels A and B. -/
  histA   : List Int
  histB   : List Int
  /-- R316: STO in force; it waits for a reset. -/
  sto     : Bool
  stoHeld : Bool
  /-- R317: SS1 ramps; its demand has been seen. -/
  ss1     : Bool
  ss1Demand : Bool
  fault   : Bool
  /-- The functions active at the last evaluation: STO, SS1, SLS, SLP, SDI. -/
  active  : List Bool
  deriving DecidableEq, Repr

def SafAx.reset : SafAx :=
  { cfg := SafAxCfg.reset, bCount := 0, bPhase := 0, cB := 0, pB0 := 0, bPrev := none, discCount := 0, viol := false, violNow := false
    sdiExt := none, sdiExtB := none, histA := [], histB := [], sto := false, stoHeld := false, ss1 := false
    ss1Demand := false, fault := false, active := List.replicate 5 false }

/-- The safety part of an arm (R315, R324-R327, R340). -/
structure SafArm where
  /-- Activation of STO, SS1, SLS, separation. -/
  acts    : List Nat
  /-- [0] sep_auto_restart, [1] sto_reset. -/
  flags   : Nat
  slsTcp  : Nat
  zr      : Nat
  marginB : Nat
  boundTol : Nat
  ss1Ms   : Nat
  viol    : Bool
  violNow : Bool
  sto     : Bool
  stoHeld : Bool
  ss1     : Bool
  ss1Demand : Bool
  fault   : Bool
  sepActive : Bool
  demandB : Bool
  /-- R327: consecutive clear cycles, and the wait for a reset after them. -/
  clear   : Nat
  waitReset : Bool
  /-- R318, R325: the positions of the joints at the first lift latch point of the last cell cycle, of channels A, B. -/
  lastA   : List Int
  lastB   : List Int
  deriving DecidableEq, Repr

def SafArm.reset : SafArm :=
  { acts := List.replicate 4 1, flags := 0, slsTcp := 0, zr := 0, marginB := 0, boundTol := 0, ss1Ms := 0
    viol := false, violNow := false, sto := false, stoHeld := false, ss1 := false, ss1Demand := false
    fault := false, sepActive := false, demandB := false, clear := 0, waitReset := false
    lastA := [], lastB := [] }

/-- A safety input (R312, R329, R330). -/
structure SafIn where
  mode    : Nat
  kind    : Nat
  flags   : Nat
  filt    : Nat
  disc    : Nat
  /-- Filtered contacts, closed or open. -/
  c1      : Bool
  c2      : Bool
  fault   : Bool
  /-- R312: both contacts have shown the safe state together since the fault. -/
  safeSeen : Bool
  pending : Bool
  /-- R329: both channels have seen the safe state since the test became pending. -/
  testSafe : Bool
  /-- R329: a safety fault has made it pending in this stroke. -/
  fresh   : Bool
  /-- R330: a reset pulse runs; it has been called stuck. -/
  pulse   : Bool
  stuck   : Bool
  deriving DecidableEq, Repr

def SafIn.reset : SafIn := ⟨0, 0, 0, 0, 0, false, false, false, false, false, false, false, false, false⟩

/-- A safety output (R313). -/
structure SafOut where
  act   : Nat
  sideA : Bool
  sideB : Bool
  fault : Bool
  deriving DecidableEq, Repr

def SafOut.reset : SafOut := ⟨1, false, false, false⟩

/-- A human track (R321, R332). -/
structure Track where
  id     : Nat
  a      : List Int
  b      : List Int
  radius : Nat
  vel    : List Int
  zd     : Nat
  c      : Nat
  deriving DecidableEq, Repr

/-- The safety state of a compartment (R332-R338). -/
structure SafCmp where
  committed : Bool
  signature : Nat
  fault   : Bool
  cause   : Nat
  msgOk   : Bool
  control : Nat
  alive   : Nat
  /-- R333: the next message is accepted with any alive value. -/
  first   : Bool
  /-- R321: the tracks of the last message, and those latched for the cell cycle. -/
  heard   : List Track
  tracks  : List Track
  crcFails : Nat
  msgFaults : Nat
  /-- R330: the reset bit of the message has been set for so many ns. -/
  pulse   : Option Nat
  pulseStuck : Bool
  events  : Nat
  latency : Nat
  vhMin   : Nat
  release : Nat
  deriving DecidableEq, Repr

def SafCmp.reset : SafCmp :=
  { committed := false, signature := 0, fault := false, cause := 0, msgOk := false, control := 0, alive := 0
    first := false, heard := [], tracks := [], crcFails := 0, msgFaults := 0, pulse := none, pulseStuck := false
    events := 0, latency := 0, vhMin := 0, release := 0 }

/-- The safety channels of the device (R307-R331). -/
structure Saf where
  axes  : List SafAx
  arms  : List SafArm
  ins   : List SafIn
  outs  : List SafOut
  comps : List SafCmp
  selfTest : Bool
  /-- R309: consecutive strokes without a valid cross-link frame. -/
  linkMiss : Nat
  /-- R309: the stages in STO because of a switch readback. -/
  stages : List Bool
  devFault : Bool
  devCause : Nat
  deriving DecidableEq, Repr

def Saf.reset : Saf :=
  { axes := List.replicate 128 SafAx.reset, arms := List.replicate 8 SafArm.reset
    ins := List.replicate 16 SafIn.reset, outs := List.replicate 4 SafOut.reset
    comps := List.replicate 8 SafCmp.reset, selfTest := false, linkMiss := 0, stages := List.replicate 8 false, devFault := false, devCause := 0 }

end Sys2Proof.Machine
end

