-- ==== Sys2Proof/Machine/Geo.lean ====
section
/-! DEFINITION. The geometry of the robot cell: FP64 values in fixed point, link frames and capsules, distances between
them and to zones, the stopping model, and the protective separation distance (R272-R277, R282, R295, R321-R325).
The spec gives no error of the FP64 arithmetic: what is computed here exactly, to 2^-64, leaves the model with a free
error below 2^-20, and a comparison nearer than that is free. -/

namespace Sys2Proof.Machine

/-! ### Fixed point -/

/-- The scale of the geometry: lengths in mm, angles in rad, times in s, each times 2^64. -/
def gOne : Int := ((2 ^ 64 : Nat) : Int)
/-- What FP64 arithmetic may leave of a value: 2^-20. -/
def gSlack : Int := ((2 ^ 44 : Nat) : Int)
/-- A finite FP64 word in fixed point. -/
def gFx (w : Nat) : Int := Int.fdiv (fpVal w) ((2 ^ 1010 : Nat) : Int)
/-- The product of two fixed-point values. -/
def gMul (a b : Int) : Int := Int.fdiv (a * b) gOne
/-- The quotient of two fixed-point values; 0 by 0. -/
def gDiv (a b : Int) : Int := if b = 0 then 0 else Int.fdiv (a * gOne) b
/-- The floor of the square root of any number. -/
def natSqrt (n : Nat) : Nat := isqrtGo n (Nat.log2 n / 2 + 1) 0

/-- A vector in fixed point. -/
abbrev V3 := Int × Int × Int
def V3.add (a b : V3) : V3 := (a.1 + b.1, a.2.1 + b.2.1, a.2.2 + b.2.2)
def V3.sub (a b : V3) : V3 := (a.1 - b.1, a.2.1 - b.2.1, a.2.2 - b.2.2)
/-- A vector times n / d. -/
def V3.frac (v : V3) (n d : Int) : V3 := if d = 0 then (0, 0, 0) else (Int.fdiv (v.1 * n) d, Int.fdiv (v.2.1 * n) d, Int.fdiv (v.2.2 * n) d)
/-- The cross product of two vectors, at the product of their scales. -/
def V3.by (a b : V3) : V3 := cross a b
def V3.len (v : V3) : Int := ((natSqrt (dot v v).toNat : Nat) : Int)
/-- Three FP64 words as a vector. -/
def gV3 (ws : List Nat) (o : Nat) : V3 := (gFx (ws.getD o 0), gFx (ws.getD (o + 1) 0), gFx (ws.getD (o + 2) 0))

/-- The FP64 word nearest to a fixed-point value, ties to even. -/
def toFp (x : Int) : Nat :=
  let a := x.natAbs
  if a = 0 then 0
  else
    let l := Nat.log2 a
    let m0 := if l ≤ 52 then a * 2 ^ (52 - l)
      else
        let s := l - 52
        let q := a / 2 ^ s
        let r := a % 2 ^ s
        if 2 ^ s < 2 * r ∨ (2 * r = 2 ^ s ∧ q % 2 = 1) then q + 1 else q
    let e := l + 959 + (if m0 = 2 ^ 53 then 1 else 0)
    let w := if 2047 ≤ e then 2047 * 2 ^ 52 else e * 2 ^ 52 + (if m0 = 2 ^ 53 then 0 else m0 - 2 ^ 52)
    if x < 0 then 2 ^ 63 + w else w

/-- An FP64 word within the free error of a fixed-point value; `f` and `i` name the free value. -/
def toFpNear (x : Int) (f i : Nat) : Nat := toFp (x + (((Config.fp64Err f i) % (2 ^ 45 + 1) : Nat) : Int) - gSlack)

/-- Whether x ≤ y, with what lies nearer than `band` free. -/
def leBand (x y band : Int) (f i : Nat) : Bool :=
  if (x - y).natAbs ≤ band.natAbs then Config.fp64Tie f i else decide (x ≤ y)

/-- The floor of a fixed-point value; of a value nearer to an integer than the error, one of the two. -/
def floorNear (x : Int) (f i : Nat) : Int :=
  let lo := Int.fdiv (x - gSlack) gOne
  let hi := Int.fdiv (x + gSlack) gOne
  if lo = hi then lo else if Config.fp64Tie f i then lo else hi

/-- 4 pi times 2^192. -/
def fourPi : Int := 78880386790906154249584533456913075565853803460760358930240

/-- The Taylor series of cosine and sine of `x` (times 2^96), `n` terms from `t` = x^k / k!. -/
def cosSinGo (x : Int) : Nat → Nat → Int → Int × Int → Int × Int
  | 0, _, _, r => r
  | n + 1, k, t, r =>
    let r := match k % 4 with
      | 0 => (r.1 + t, r.2)
      | 1 => (r.1, r.2 + t)
      | 2 => (r.1 - t, r.2)
      | _ => (r.1, r.2 - t)
    cosSinGo x n (k + 1) (Int.fdiv (t * x) ((2 ^ 96 * (k + 1) : Nat) : Int)) r

/-- Cosine and sine of half of a fixed-point angle. -/
def cosSinHalf (q : Int) : Int × Int :=
  let a := (q * ((2 ^ 128 : Nat) : Int)) % fourPi
  let r := cosSinGo (Int.fdiv a ((2 ^ 97 : Nat) : Int)) 64 0 ((2 ^ 96 : Nat) : Int) (0, 0)
  (Int.fdiv r.1 ((2 ^ 32 : Nat) : Int), Int.fdiv r.2 ((2 ^ 32 : Nat) : Int))

/-! ### Frames -/

/-- A pose: position and orientation, the quaternion as w and (x, y, z). -/
structure Pose where
  pos : V3
  w   : Int
  v   : V3
  deriving DecidableEq, Repr

/-- The pose of 7 FP64 words, its quaternion brought to length 1 (R272, R274). -/
def frameOf (ws : List Nat) : Pose :=
  let w := gFx (ws.getD 3 0)
  let v := gV3 ws 4
  let n : Int := natSqrt (w * w + dot v v).toNat
  ⟨gV3 ws 0, gDiv w n, v.frac gOne n⟩

/-- A vector turned by the orientation of a frame. -/
def Pose.turn (f : Pose) (p : V3) : V3 :=
  let c : V3 := (V3.by f.v p).frac 1 gOne
  p.add ((c.frac (2 * f.w) gOne).add ((V3.by f.v c).frac 2 gOne))

/-- A point of a frame in the coordinates the frame is given in. -/
def Pose.at_ (f : Pose) (p : V3) : V3 := f.pos.add (f.turn p)

/-- The product of two transforms. -/
def Pose.then_ (f g : Pose) : Pose :=
  ⟨f.at_ g.pos, gMul f.w g.w - Int.fdiv (dot f.v g.v) gOne,
   ((g.v.frac f.w gOne).add (f.v.frac g.w gOne)).add ((V3.by f.v g.v).frac 1 gOne)⟩

/-- An FP64 word of a joint entry, at its offset (R274). -/
def Joint.word (j : Joint) (o : Nat) : Nat := u64 j.raw o

/-- R273: the joint value at an axis position, in fixed point. -/
def Joint.value (j : Joint) (p : Int) : Int :=
  let k := fpVal (j.word 120)
  if k = 0 then 0 else Int.fdiv ((p - j.zeroPu) * gOne * fpOne) k

/-- R273, R278: whether an axis position lies within [`q_min`, `q_max`] as a joint value. -/
def Joint.inRange (j : Joint) (p : Int) : Bool :=
  let k := fpVal (j.word 120)
  let x := (p - j.zeroPu) * fpOne * fpOne
  let lo := fpVal (j.word 64) * k
  let hi := fpVal (j.word 72) * k
  if 0 ≤ k then decide (lo ≤ x) && decide (x ≤ hi) else decide (hi ≤ x) && decide (x ≤ lo)

/-- R273: the axis position of a joint value given as an FP64 word. -/
def Joint.posOf (j : Joint) (w : Nat) : Int :=
  j.zeroPu + Int.fdiv (2 * (fpVal w * fpVal (j.word 120)) + fpOne * fpOne) (2 * fpOne * fpOne)

/-- R272: the transform of a joint at an axis position: F_j, then the rotation about z or the translation along it. -/
def Joint.frame (j : Joint) (p : Int) : Pose :=
  let f := frameOf (fpWords j.raw 8 7)
  let q := j.value p
  if j.type = 0 then (let c := cosSinHalf q; f.then_ ⟨(0, 0, 0), c.1, (0, 0, c.2)⟩)
  else f.then_ ⟨(0, 0, q), gOne, (0, 0, 0)⟩

/-- R272: the frames of the links 0 to n at the axis positions of the joints. -/
def ArmCfg.frames (g : ArmCfg) (ps : List Int) : List Pose :=
  ((g.joints.zip ps).foldl (fun (l : List Pose) (jp : Joint × Int) =>
    l ++ [(l.getLast?.getD (frameOf g.base)).then_ (jp.1.frame jp.2)]) [frameOf g.base])

/-- R276: the active tool. -/
def Arm.toolNow (m : Arm) : Option Tool := (m.tools.getD []).find? (fun (t : Tool) => t.tool == m.tool)

/-- R272: the frame of the TCP at the axis positions of the joints. -/
def Arm.tcp (m : Arm) (ps : List Int) : Pose :=
  match m.cfg with
  | none => ⟨(0, 0, 0), gOne, (0, 0, 0)⟩
  | some g =>
    let flange := (g.frames ps).getLast?.getD (frameOf g.base)
    match m.toolNow with | some t => flange.then_ (frameOf t.geom) | none => flange

/-- R275: the active capsules at the axis positions of the joints: the ends of the axis segment and the radius. -/
def Arm.caps (m : Arm) (ps : List Int) : List (V3 × V3 × Int) :=
  match m.cfg with
  | none => []
  | some g =>
    let fs := g.frames ps
    let tcp := m.tcp ps
    (m.capsules.filter (fun (c : Capsule) => c.kind == 0 || c.ref == m.tool)).map (fun (c : Capsule) =>
      let f := if c.kind = 0 then fs.getD c.ref tcp else tcp
      (f.at_ (gV3 c.geom 0), f.at_ (gV3 c.geom 3), gFx (c.geom.getD 6 0)))

/-! ### Distances -/

/-- The point of the segment from `a` to `b` nearest to `p`. -/
def nearOnSeg (p a b : V3) : V3 :=
  let d := b.sub a
  let l := dot d d
  let t := dot (p.sub a) d
  if l = 0 ∨ t ≤ 0 then a else if l ≤ t then b else a.add (d.frac t l)

/-- The nearest points of two segments. -/
def segSeg (a b c d : V3) : V3 × V3 :=
  let x := b.sub a
  let y := d.sub c
  let n := cross x y
  let nn := dot n n
  let s := dot (cross (c.sub a) y) n
  let t := dot (cross (c.sub a) x) n
  let ends : List (V3 × V3) := [(a, nearOnSeg a c d), (b, nearOnSeg b c d), (nearOnSeg c a b, c), (nearOnSeg d a b, d)]
  let l := if nn ≠ 0 ∧ 0 ≤ s ∧ s ≤ nn ∧ 0 ≤ t ∧ t ≤ nn then [(a.add (x.frac s nn), c.add (y.frac t nn))] else []
  let sq (p : V3 × V3) : Int := let w := p.1.sub p.2; dot w w
  (l ++ ends).foldl (fun (m : V3 × V3) (p : V3 × V3) => if sq p < sq m then p else m) (a, nearOnSeg a c d)

/-- R321: the surface distance of two capsules, and the nearest points of their axes. -/
def capDist (p q : V3 × V3 × Int) : Int × V3 × V3 :=
  let n := segSeg p.1 p.2.1 q.1 q.2.1
  (max 0 ((n.1.sub n.2).len - p.2.2 - q.2.2), n.1, n.2)

/-- The least of a list of values, by a measure. -/
def leastBy {α : Type} (f : α → Int) (l : List α) : Option α :=
  l.foldl (fun (m : Option α) (x : α) => match m with | some y => if f x < f y then some x else some y | none => some x) none

/-- The planes of a zone: normal and distance, in fixed point (R295). -/
def Zone.faces (z : Zone) : List (V3 × Int) := z.planes.map (fun (ws : List Nat) => (gV3 ws 0, gFx (ws.getD 3 0)))

/-- Whether a point lies in the volume of planes, to the error. -/
def inVolume (ps : List (V3 × Int)) (x : V3) : Bool := ps.all (fun (p : V3 × Int) => decide (dot p.1 x ≤ (p.2 + gSlack) * gOne))

/-- The part within a volume of the line in which two of its planes meet. -/
def volumeEdge (ps : List (V3 × Int)) (a b : V3 × Int) : Option (V3 × V3) :=
  let u : V3 := cross a.1 b.1
  let uu := dot u u
  if uu = 0 then none
  else
    let k : Int := ((2 ^ 256 : Nat) : Int)
    let x : V3 := ((V3.by b.1 u).frac (a.2 * gOne) uu).add ((V3.by u a.1).frac (b.2 * gOne) uu)
    let cut (r : Option (Option Int × Option Int)) (p : V3 × Int) : Option (Option Int × Option Int) :=
      match r with
      | none => none
      | some (lo, hi) =>
        let den := dot p.1 u
        let num := p.2 * gOne - dot p.1 x
        if p = a ∨ p = b then r
        else if den = 0 then (if -(gSlack * gOne) ≤ num then r else none)
        else
          let t := Int.fdiv (num * k) den
          if 0 < den then some (lo, some (match hi with | some h => min h t | none => t))
          else some (some (match lo with | some l => max l t | none => t), hi)
    match ps.foldl cut (some (none, none)) with
    | some (some lo, some hi) => if lo ≤ hi then some (x.add (u.frac lo k), x.add (u.frac hi k)) else none
    | _ => none

/-- R295: the distance from a segment to the volume of a zone. -/
def zoneDist (ps : List (V3 × Int)) (a b : V3) : Int :=
  if inVolume ps a then 0
  else
    let d := b.sub a
    let sq (v : V3) : Int := dot v v
    let faces := ps.flatMap (fun (p : V3 × Int) =>
      let nd := dot p.1 d
      let t := p.2 * gOne - dot p.1 a
      let on := if nd = 0 ∨ decide (0 ≤ t) ≠ decide (0 < nd) ∨ nd.natAbs < t.natAbs then [] else [a.add (d.frac t nd)]
      (a :: b :: on).filterMap (fun (x : V3) =>
        let g := dot p.1 x - p.2 * gOne
        let y := x.sub (p.1.frac g (dot p.1 p.1))
        if inVolume ps y then some (sq (x.sub y)) else none))
    let edges := (List.range ps.length).flatMap (fun (i : Nat) =>
      (ps.drop (i + 1)).filterMap (fun (q : V3 × Int) => (volumeEdge ps (ps.getD i q) q).map (fun (e : V3 × V3) =>
        let n := segSeg a b e.1 e.2
        sq (n.1.sub n.2))))
    match leastBy id (faces ++ edges) with
    | some x => (natSqrt x.toNat : Int)
    | none => 0

/-- R295: whether an arm at the axis positions of its joints touches a zone. -/
def Arm.touches (m : Arm) (z : Zone) (ps : List Int) (f i : Nat) : Bool :=
  let fs := z.faces
  (m.caps ps).any (fun (c : V3 × V3 × Int) => leBand (zoneDist fs c.1 c.2.1) (c.2.2 + gFx z.margin) gSlack f i)

/-! ### The stopping model -/

/-- R276: the planner's payload, times 2^1074: the mass of the active tool and the load. -/
def Arm.load (m : Arm) : Int := (match m.toolNow with | some t => fpVal (t.geom.getD 7 0) | none => 0) + fpVal m.payload

/-- R277: stop time and distance of the measured model at the TCP speed `v`, in fixed point; free beyond its last
speed point or payload level. -/
def Arm.measured (m : Arm) (v : Int) (f i : Nat) : Int × Int :=
  let out : Int × Int := (((Config.stopBeyond f i).1 : Nat), ((Config.stopBeyond f i).2 : Nat))
  match m.model with
  | none => out
  | some g =>
    let ss := g.speeds.map gFx
    match g.payloads.findIdx? (fun (w : Nat) => decide (m.load ≤ fpVal w)),
        (List.range (ss.length - 1)).find? (fun (j : Nat) => decide (v ≤ ss.getD (j + 1) 0)) with
    | some l, some j =>
      let p (j : Nat) : Nat × Nat := g.pairs.getD (l * ss.length + j) (0, 0)
      let s0 := ss.getD j 0
      let s1 := ss.getD (j + 1) 0
      let mid (a b : Int) : Int := if s1 = s0 then a else a + Int.fdiv ((b - a) * (v - s0)) (s1 - s0)
      (mid (gFx (p j).1) (gFx (p (j + 1)).1), mid (gFx (p j).2) (gFx (p (j + 1)).2))
    | _, _ => out

/-- R277: the last speed point of the model. -/
def Arm.topSpeed (m : Arm) : Int := match m.model with | some g => gFx (g.speeds.getLast?.getD 0) | none => 0

/-- R277, R282: the strokes of a quick ramp from the rate `r`, in fixed-point seconds. -/
def rampTime (r q fs : Nat) : Int := Int.fdiv ((cdivN r q : Int) * gOne) fs

/-- R277: the live stopping model at the TCP speed `v` and the path rate `r`: T_stop and S_stop. The path that the
quick ramp covers lies on the planned path and is free. -/
def Arm.live (m : Arm) (v : Int) (r fs f i : Nat) : Int × Int :=
  let q := m.measured v f i
  (max q.1 (rampTime r m.steps.1 fs), max q.2 (if r = 0 then 0 else (Config.armRampPath f i : Nat)))

/-- R318: the mean speed between two points one cell cycle of `n` strokes apart. -/
def meanSpeed (a b : V3) (fs n : Nat) : Int := Int.fdiv ((b.sub a).len * fs) n

/-! ### The protective separation distance -/

/-- R323: the rate the arm can hold when the result of a run takes effect. -/
def rateHeld (r rt n up : Nat) : Nat := if r < rt then min rt (r + n * up) else max rt (r - n * up)

/-- R323: the sum of the rates ρ(1) to ρ(n_r) for the candidate rate `rk`, and ρ(n_r). -/
def rateSum (re rk q n nr : Nat) : Nat × Nat :=
  let m := nr - n
  if re ≤ rk then (min nr n * re + m * rk, if m = 0 then re else rk)
  else
    let fall := min m ((re - rk) / max q 1)
    (min nr n * re + (fall * re - q * (fall * (fall + 1) / 2)) + (m - fall) * rk, max rk (re - m * q))

/-- R277: the sum of the rates of a quick ramp from `r` to 0. -/
def rampSum (r q : Nat) : Nat := let k := r / max q 1; k * r - q * (k * (k + 1) / 2)

/-- What a separation run of an arm takes from its state (R322, R323): T_r in fixed-point seconds and n_r, N, f_s, the
rate held, the quick step, and v_full. -/
structure SepRun where
  tr : Int
  nr : Nat
  n  : Nat
  fs : Nat
  re : Nat
  q  : Nat
  vFull : Int
  deriving DecidableEq, Repr

/-- R322: a track as an arm sees it: the distance, the speed toward the arm before `vh_min`, and C + Z_d. -/
structure TrackNear where
  dist : Int
  v    : Int
  open_ : Int
  deriving DecidableEq, Repr

/-- R323: S_r, S_s and T_s of a candidate k. -/
def Arm.reach (m : Arm) (g : SepRun) (k f : Nat) : Int × Int × Int :=
  let s := rateSum g.re (k * 1024) g.q g.n g.nr
  let v := Int.fdiv (g.vFull * s.2) 65536
  let t := m.measured v f (2 * k)
  (Int.fdiv (g.vFull * s.1) (65536 * g.fs), max t.2 (Int.fdiv (g.vFull * rampSum s.2 g.q) (65536 * g.fs)),
   max t.1 (rampTime s.2 g.q g.fs))

/-- R322: the protective separation distance from S_r, S_s, T_s, T_r and the speed of the human. -/
def sepDistance (sr ss ts tr vh open_ zr : Int) : Int := gMul vh (tr + ts) + sr + ss + open_ + zr

/-- R321, R322: a track as seen from the capsules of an arm; none where the arm has no active capsule. -/
def trackNear (caps : List (V3 × V3 × Int)) (t : Track) : Option TrackNear :=
  let mm (l : List Int) (i : Nat) : Int := Int.fdiv (l.getD i 0 * gOne) 1000
  let cap : V3 × V3 × Int := ((mm t.a 0, mm t.a 1, mm t.a 2), (mm t.b 0, mm t.b 1, mm t.b 2), Int.fdiv ((t.radius : Int) * gOne) 1000)
  let vel : V3 := (t.vel.getD 0 0 * gOne, t.vel.getD 1 0 * gOne, t.vel.getD 2 0 * gOne)
  (leastBy (fun (x : Int × V3 × V3) => x.1) (caps.map (fun (c : V3 × V3 × Int) => capDist c cap))).map
    (fun (x : Int × V3 × V3) =>
      let d := x.2.1.sub x.2.2
      ⟨x.1, if d.len = 0 then vel.len else Int.fdiv (dot vel d) d.len, ((t.zd + t.c : Nat) : Int) * gOne⟩)

/-- R325: a capsule as channel B sees it: the sphere around it, as a capsule of length 0. -/
def sphereOf (c : V3 × V3 × Int) : V3 × V3 × Int :=
  let mid := (c.1.add c.2.1).frac 1 2
  (mid, mid, Int.fdiv (c.1.sub c.2.1).len 2 + c.2.2)

/-- R325: a track as channel B sees it. -/
def Track.sphere (t : Track) : Track :=
  let s (i : Nat) : Int := t.a.getD i 0 + t.b.getD i 0
  let l : Nat := (List.range 3).foldl (fun (m : Nat) (i : Nat) => m + ((t.a.getD i 0 - t.b.getD i 0).natAbs) ^ 2) 0
  let mid := (List.range 3).map (fun (i : Nat) => Int.fdiv (s i) 2)
  { t with a := mid, b := mid, radius := t.radius + (natSqrt l + 1) / 2 }

/-! ### Rate steps -/

/-- R282: the largest |planned velocity| over a span at full rate, in pu per stroke, in fixed point. -/
def Knots.topSpeed (k : Knots) (n : Nat) : Int :=
  let N : Int := n
  let d := k.p1 - k.p0
  let a := -6 * d + 3 * k.v0 + 3 * k.v1
  let b := 6 * d * N - 4 * k.v0 * N - 2 * k.v1 * N
  let c := k.v0 * N * N
  let abs (x : Int) : Int := (x.natAbs : Int)
  let ends := max (Int.fdiv (abs k.v0 * gOne) N) (Int.fdiv (abs k.v1 * gOne) N)
  -- the vertex of the parabola, where it lies within the span
  if a ≠ 0 ∧ (if 0 < a then b < 0 ∧ -b < 2 * a * N else 0 < b ∧ 2 * a * N < -b) then
    max ends (Int.fdiv (abs (4 * a * c - b * b) * gOne) (4 * abs a * N * N * N))
  else ends

/-- R282: the rate step of a joint that limits at the acceleration in FP64 word `w`, for the largest planned velocity
`u`. -/
def Joint.rateStep (j : Joint) (w : Nat) (u : Int) (fs f i : Nat) : Int :=
  if u = 0 then 65536
  else
    floorNear (Int.fdiv (65536 * gOne * gOne * fpVal w * ((fpVal (j.word 120)).natAbs : Int))
      (fpOne * fpOne * ((fs * fs : Nat) : Int) * u)) f i

/-- R282: the two rate steps of a span, from it and its successor. -/
def Span.withSteps (s : Span) (after : Option Span) (joints : List Joint) (n fs f : Nat) : Span :=
  let step (o base : Nat) : Nat :=
    ((joints.mapIdx (fun (j : Nat) (q : Joint) =>
      let u := max ((s.knots.getD j (Knots.hold 0)).topSpeed n)
        (match after with | some a => (a.knots.getD j (Knots.hold 0)).topSpeed n | none => 0)
      q.rateStep (q.word o) u fs f (base + j))).foldl (fun (a b : Int) => min a b) 65536 |> fun (x : Int) => max 1 x).toNat
  { s with stepQ := step 104 0, stepN := step 96 16 }

/-- R282: the rate steps of all spans planned. -/
def spanSteps (joints : List Joint) (n fs f : Nat) : List Span → List Span
  | s :: l => s.withSteps l.head? joints n fs f :: spanSteps joints n fs f l
  | [] => []

end Sys2Proof.Machine
end

