-- ==== Sys2Proof/Machine/StateCap.lean ====
section
/-! DEFINITION. The state of the trigger units, the trigger bus, the `TRIGIO` pins, the capture channels and
engines, and the registration functions (R341-R369). Instants are absolute cell-time nanoseconds; a tag is
an instant modulo 2^48 (R341). -/

namespace Sys2Proof.Machine

/-- A `TRIG_CONFIGURE` payload (R369). -/
structure TrigCfg where
  kind  : Nat
  cond  : Nat
  pol   : Nat
  line  : Nat
  index : Nat
  thrHi : Int
  thrLo : Int
  tMin  : Nat
  tMax  : Nat
  operands : List Nat
  blazeMask : Nat
  blazeId : Nat
  deriving DecidableEq, Repr

/-- A trigger unit (R343-R346). -/
structure Trig where
  cfg    : Option TrigCfg
  on     : Bool
  /-- R346: the latch point that enabled the unit. -/
  since  : Nat
  /-- The input's present level, of an analog input by the two thresholds (R343). -/
  high   : Option Bool
  /-- The last sample of an analog input, with its instant. -/
  prev   : Option (Int × Nat)
  /-- R344: the last transition of the selected polarity, or the enable. -/
  last   : Nat
  /-- R344: the start of the pulse, runt or slew episode in progress. -/
  lead   : Option Nat
  /-- The output level and the instant it became true. -/
  out    : Bool
  outAt  : Nat
  /-- R345: the last firing of operand A of a sequence. -/
  seqA   : Option Nat
  fires  : Nat
  lastTag : Nat
  /-- R351: the blazes of this unit since its enable. -/
  blazes : Nat
  deriving DecidableEq, Repr

def Trig.reset : Trig := ⟨none, false, 0, none, none, 0, none, false, 0, none, 0, 0, 0⟩

/-- A `TRIGIO` pin (R347). -/
structure Pin where
  /-- 0 input, 1 output. -/
  dir     : Nat
  drvKind : Nat
  drvIndex : Nat
  pulseNs : Nat
  /-- The level of the pin. -/
  level   : Bool
  /-- R347: when an output pulse ends. -/
  endAt   : Nat
  deriving DecidableEq, Repr

def Pin.reset : Pin := ⟨0, 0, 0, 8, false, 0⟩

/-- A trigger bus line (R346): the last trigger cycle in which it carried a pulse, and that pulse's tag. -/
structure Line where
  cycle : Option Nat
  tag   : Nat
  deriving DecidableEq, Repr

/-- A `CAP_CONFIGURE` payload (R369). -/
structure ChanCfg where
  kind    : Nat
  storage : Nat
  flume   : Bool
  meas    : Nat
  index   : Nat
  ring    : Nat
  burstUnit : Nat
  deadband : Nat
  decimate : Nat
  depth   : Nat
  post    : Nat
  burstLen : Nat
  window  : Nat
  trigUnit : Nat
  flushUs : Nat
  thrHi   : Int
  thrLo   : Int
  fvOffset : Nat
  fvWidth : Nat
  fvPos   : Nat
  deriving DecidableEq, Repr

/-- The measurement of a channel (R350): the crossings seen and what the present window holds. -/
structure Meas where
  winEnd : Nat
  high   : Option Bool
  prev   : Option (Int × Nat)
  /-- The last rising and the last falling crossing. -/
  rise   : Option Nat
  fall   : Option Nat
  /-- The last passage upward through `thr_lo`. -/
  loUp   : Option Nat
  first  : Option Nat
  lastR  : Nat
  rises  : Nat
  period : Option Nat
  width  : Option Nat
  duty   : Option Nat
  riseT  : Option Nat
  n      : Nat
  sum    : Int
  sumSq  : Nat
  minV   : Int
  maxV   : Int
  deriving DecidableEq, Repr

def Meas.reset : Meas := ⟨0, none, none, none, none, none, none, 0, 0, none, none, none, none, 0, 0, 0, 0, 0⟩

/-- A capture channel (R348-R361). -/
structure Chan where
  cfg    : Option ChanCfg
  /-- R348. -/
  state  : Nat
  /-- The latch point that armed the channel. -/
  since  : Nat
  written : Nat
  lost   : Nat
  trigTag : Nat
  pre    : Nat
  events : Nat
  /-- Circular: the records held, oldest first; the records the buffer holds; the blocks reserved. -/
  buf    : List Bytes
  limit  : Nat
  resv   : Nat
  postLeft : Nat
  /-- The last stored value, and the samples since the arming or burst start. -/
  lastV  : Option Int
  count  : Nat
  /-- Samples still to store in the running burst. -/
  burst  : Nat
  /-- The level and instant of the last edge. -/
  edgeAt : Option Nat
  /-- The second of the last time record. -/
  second : Option Nat
  /-- Flume: the open block and the instant of its first record. -/
  block  : Option (List Bytes)
  openAt : Nat
  /-- R361: the records and blazes dropped since the last kept one, and the first lost tag's instant. -/
  gap    : Nat
  gapBlazes : Nat
  gapAt  : Option Nat
  meas   : Meas
  deriving DecidableEq, Repr

def Chan.reset : Chan :=
  { cfg := none, state := 0, since := 0, written := 0, lost := 0, trigTag := 0, pre := 0, events := 0, buf := []
    limit := 0, resv := 0, postLeft := 0, lastV := none, count := 0, burst := 0, edgeAt := none, second := none
    block := none, openAt := 0, gap := 0, gapBlazes := 0, gapAt := none, meas := Meas.reset }

/-- A closed block: its channel and its records (R359). -/
structure Block where
  chan : Nat
  recs : List Bytes
  deriving DecidableEq, Repr

/-- A flume ring (R358). `state`: 0 off, 1 running, 2 full, 3 error. -/
structure Flume where
  state   : Nat
  comp    : Nat
  port    : Nat
  base    : Nat
  entries : Nat
  head    : Nat
  tail    : Nat
  queue   : List Block
  deriving DecidableEq, Repr

def Flume.reset : Flume := ⟨0, 0, 0, 0, 0, 0, 0, []⟩

/-- A capture engine (R358, R360, R367). -/
structure Eng where
  share  : Nat
  high   : Nat
  low    : Nat
  /-- The fill at the last settling. -/
  fill   : Nat
  peak   : Nat
  merges : Nat
  events : Nat
  /-- R360: a high assertion, and a full assertion, whose episode has not ended. -/
  highSeen : Bool
  fullSeen : Bool
  rings  : List Flume
  deriving DecidableEq, Repr

def Eng.reset : Eng := ⟨2048, 1536, 512, 0, 0, 0, 0, false, false, List.replicate 4 Flume.reset⟩

/-- A `REG_CONFIGURE` payload (R369). -/
structure RegCfg where
  axis    : Nat
  latch   : Nat
  unit    : Nat
  yRef    : Int
  yRepeat : Int
  accept  : Int
  deadband : Int
  kNum    : Int
  kDen    : Nat
  miss    : Int
  deriving DecidableEq, Repr

/-- The registration of an axis (R363-R366). -/
structure Reg where
  cfg      : Option RegCfg
  enabled  : Bool
  multi    : Nat
  err      : Int
  corr     : Int
  accepted : Nat
  rejected : Nat
  missing  : Nat
  events   : Nat
  /-- R366: the master position from which the next `miss_dist` is counted. -/
  missFrom : Option Int
  deriving DecidableEq, Repr

def Reg.reset : Reg := ⟨none, false, 0, 0, 0, 0, 0, 0, 0, none⟩

/-- The capture system. -/
structure Cap where
  units : List Trig
  chans : List Chan
  engs  : List Eng
  pins  : List Pin
  lines : List Line
  regs  : List Reg
  deriving DecidableEq, Repr

def Cap.reset : Cap :=
  { units := List.replicate 128 Trig.reset, chans := List.replicate 64 Chan.reset, engs := List.replicate 4 Eng.reset
    pins := List.replicate 4 Pin.reset, lines := List.replicate 16 ⟨none, 0⟩, regs := List.replicate 128 Reg.reset }

end Sys2Proof.Machine
end

