-- ==== Sys2Proof/Machine/CapOps.lean ====
section
/-! DEFINITION. The trigger conditions, the capture records, the landing pool and the registration law
(R341-R366). -/

namespace Sys2Proof.Machine

/-- R341: the tag of an instant. -/
def tagOf (t : Nat) : Nat := t % 2 ^ 48

/-- R343: the instant at which a line between the samples `a` at `t` and `b` 100 ns later crosses `thr`. -/
def crossAt (a b thr : Int) (t : Nat) : Nat :=
  let d := (b - a).natAbs
  if d = 0 then t
  else (t : Int).toNat + (rdivUp ((if a ≤ b then thr - a else a - thr) * 100) d).toNat

/-- R343: the level of an analog input by its two thresholds, and the level before. -/
def threshold (hi lo x : Int) (was : Option Bool) : Option Bool :=
  if hi ≤ x then some true else if x ≤ lo then some false else was

/-- What a trigger unit's output does at an input. -/
inductive TrigOut where
  | none
  | pulse (at_ : Nat)
  | rise (at_ : Nat)
  | fall
  deriving DecidableEq, Repr

/-- R344: whether a transition to `lv` is of the selected polarity. -/
def polMatch (pol : Nat) (lv : Bool) : Bool := pol == 2 || (pol == 0) == lv

/-- R344, conditions 0, 1, 2 and 4: a transition of the input to level `lv` at instant `t`. -/
def Trig.edge (u : Trig) (c : TrigCfg) (lv : Bool) (t : Nat) : Trig × TrigOut :=
  let u := { u with high := some lv }
  if !u.on then (u, .none)
  else
    let m := polMatch c.pol lv
    let u := if m then { u with last := t } else u
    match c.cond with
    | 0 => (u, if m then .pulse t else .none)
    | 1 =>
      if m && !u.out then ({ u with out := true, outAt := t }, .rise t)
      else if !m && u.out then ({ u with out := false }, .fall)
      else (u, .none)
    | 2 =>
      if m then ({ u with lead := some t }, .none)
      else
        match u.lead with
        | some s => ({ u with lead := none }, if c.tMin ≤ t - s && t - s ≤ c.tMax then .pulse t else .none)
        | none => (u, .none)
    | _ => (u, .none)

/-- R344, conditions 3 and 5: what a mark-input step from `a` at `ta` to `b` does to a runt or slew episode. -/
def Trig.episode (u : Trig) (c : TrigCfg) (a b : Int) (ta : Nat) : Trig × TrigOut :=
  if !u.on then (u, .none)
  else
    let upLo := decide (a ≤ c.thrLo) && decide (c.thrLo < b)
    let upHi := decide (a < c.thrHi) && decide (c.thrHi ≤ b)
    let dnHi := decide (c.thrHi ≤ a) && decide (b < c.thrHi)
    let dnLo := decide (c.thrLo < a) && decide (b ≤ c.thrLo)
    let lo := crossAt a b c.thrLo ta
    let hi := crossAt a b c.thrHi ta
    let inWin (s t : Nat) : Bool := decide (c.tMin ≤ t - s) && decide (t - s ≤ c.tMax)
    if c.cond = 3 then
      let u := if upLo then { u with lead := some lo } else u
      let u := if upHi then { u with lead := none } else u
      if dnLo then
        match u.lead with
        | some _ => ({ u with lead := none }, .pulse lo)
        | none => (u, .none)
      else (u, .none)
    else
      -- slew, condition 5: rising, falling or either direction
      let u := if upLo && c.pol != 1 then { u with lead := some lo }
        else if dnHi && c.pol != 0 then { u with lead := some hi } else u
      match u.lead with
      | some s =>
        if upHi && c.pol != 1 then ({ u with lead := none }, if inWin s hi then .pulse hi else .none)
        else if dnLo && c.pol != 0 then ({ u with lead := none }, if inWin s lo then .pulse lo else .none)
        else (u, .none)
      | none => (u, .none)

/-- R343, R344: a value of the unit's input at instant `t`: a level of a digital input (a bus line's pulse is
a transition of the selected polarity), a code of a mark input, or the stroke's value of a motion variable. -/
def Trig.input (u : Trig) (c : TrigCfg) (x : Int) (t : Nat) : Trig × TrigOut :=
  if c.kind = 3 then
    let r := { u with high := some false }
    if c.cond = 0 then (r, if u.on then .pulse t else .none)
    else ({ r with last := if u.on then t else r.last }, .none)
  else if c.kind = 0 ∨ c.kind = 5 then
    let lv := threshold c.thrHi c.thrLo x u.high
    let was := u.high
    let old := u.prev
    let u := { u with prev := some (x, t), high := lv }
    if c.cond = 3 ∨ c.cond = 5 then
      match old with
      | some (a, ta) => if c.kind = 0 then u.episode c a x ta else (u, .none)
      | none => (u, .none)
    else
      match was, lv with
      | some w, some v =>
        if w = v then (u, .none)
        else
          let at_ := match old with
            | some (a, ta) => if c.kind = 0 then crossAt a x (if v then c.thrHi else c.thrLo) ta else t
            | none => t
          u.edge c v at_
      | _, _ => (u, .none)
  else
    let lv := decide (x ≠ 0)
    if u.high = some lv then (u, .none) else u.edge c lv t

/-- R345: a firing of an operand unit reaches a combiner. `outs`: the present level outputs, by unit. -/
def Trig.combine (u : Trig) (c : TrigCfg) (src : Nat) (o : TrigOut) (outs : Nat → Bool × Nat) : Trig × TrigOut :=
  let ops := c.operands.filter (· ≠ 0xFF)
  if !u.on || !ops.contains src then (u, .none)
  else
    match c.cond with
    | 8 =>
      let all := ops.all (fun k => (outs k).1)
      let at_ := ops.foldl (fun m k => max m (outs k).2) 0
      if all && !u.out then ({ u with out := true, outAt := at_ }, .rise at_)
      else if !all && u.out then ({ u with out := false }, .fall)
      else (u, .none)
    | 9 =>
      match o with
      | .pulse t => (u, .pulse t)
      | .rise t => if u.out then (u, .none) else ({ u with out := true, outAt := t }, .rise t)
      | .fall => if u.out && !ops.any (fun k => (outs k).1) then ({ u with out := false }, .fall) else (u, .none)
      | .none => (u, .none)
    | 10 =>
      let at_ := match o with | .pulse t => some t | .rise t => some t | _ => none
      match at_ with
      | none => (u, .none)
      | some t =>
        let isA := c.operands.getD 0 0xFF == src
        let isB := c.operands.getD 1 0xFF == src
        let fires := isB && (match u.seqA with | some a => decide (a ≤ t) && decide (t - a ≤ c.tMax) | none => false)
        let u := if isB && fires then { u with seqA := none } else u
        let u := if isA then { u with seqA := some t } else u
        (u, if fires then .pulse t else .none)
    | _ => (u, .none)

/-- R344: a timeout unit's expiry at `t`; the timer restarts from it. -/
def Trig.expire (u : Trig) (c : TrigCfg) (t : Nat) : Trig × TrigOut :=
  if u.on && c.cond == 4 && decide (u.last + c.tMax ≤ t) then
    ({ u with last := u.last + c.tMax }, .pulse (u.last + c.tMax))
  else (u, .none)

/-- R351: the 16 bytes of a record. -/
def mkRec (rtype chan tag : Nat) (body : Bytes) : Bytes := e8 rtype ++ e8 chan ++ enc 6 tag ++ slice body 0 8

/-- R342: the time record of an instant. -/
def timeRec (chan t : Nat) : Bytes := mkRec 7 chan (tagOf t) (enc 6 (t / 1000000000))

/-- The engine of a channel. -/
def engOf (chan : Nat) : Nat := chan / 16

/-- R360: every block of an engine that is not free. -/
def Cap.fillOf (c : Cap) (e : Nat) : Nat :=
  let chs := (c.chans.drop (16 * e)).take 16
  let a := chs.foldl (fun (n : Nat) (k : Chan) => n + k.resv + b2n k.block.isSome) 0
  match c.engs[e]? with
  | some g => a + g.rings.foldl (fun (n : Nat) (r : Flume) => n + r.queue.length) 0
  | none => a

/-- R360: the fill's float events, and the peak, after a change. -/
def Cap.settle (c : Cap) (e : Nat) : Cap :=
  let f := c.fillOf e
  { c with engs := upd c.engs e (fun (g : Eng) =>
      let hi := decide (g.fill < g.high) && decide (g.high ≤ f)
      let lo := g.highSeen && decide (g.low < g.fill) && decide (f ≤ g.low)
      let ev := g.events ||| (if hi then 1 else 0) ||| (if lo then 2 else 0)
      { g with fill := f, peak := max g.peak f, events := ev, highSeen := (g.highSeen || hi) && !lo
               fullSeen := g.fullSeen && !lo && decide (g.low < f) }) }

/-- A change of one channel. -/
def Cap.chan (c : Cap) (n : Nat) (f : Chan → Chan) : Cap := { c with chans := upd c.chans n f }

/-- R355: a record into a circular buffer; what is over the limit leaves at the old end. -/
def Chan.ring (k : Chan) (r : Bytes) : Chan :=
  let b := k.buf ++ [r]
  { k with buf := b.drop (b.length - k.limit), written := sat32 (k.written + 1) }

/-- Whether the channel needs a time record before a record of instant `t` (R342). -/
def Chan.wantsTime (k : Chan) (t : Nat) : Bool := k.second != some (t / 1000000000)

/-- R359: the open block of a flume channel is closed and queued on its ring. -/
def Cap.closeBlock (c : Cap) (n : Nat) : Cap :=
  match c.chans[n]? with
  | none => c
  | some k =>
    match k.block, k.cfg with
    | some recs, some cfg =>
      let c := c.chan n (fun (k : Chan) => { k with block := none })
      { c with engs := upd c.engs (engOf n) (fun (g : Eng) =>
          { g with rings := upd g.rings cfg.ring (fun (r : Flume) => { r with queue := r.queue ++ [⟨n, recs⟩] }) }) }
    | _, _ => c

/-- R359, R361: one record put into the channel's open block; none where no block is free. -/
def Cap.flumeOne (c : Cap) (n : Nat) (r : Bytes) (t : Nat) : Option Cap :=
  match c.chans[n]?, c.engs[engOf n]? with
  | some k, some g =>
    match k.block with
    | some recs =>
      let c := c.chan n (fun (k : Chan) => { k with block := some (recs ++ [r]), written := sat32 (k.written + 1) })
      some (if recs.length + 1 ≥ 256 then c.closeBlock n else c)
    | none =>
      if c.fillOf (engOf n) < g.share then
        some ((c.chan n (fun (k : Chan) =>
          { k with block := some [r], openAt := t, written := sat32 (k.written + 1) })).settle (engOf n))
      else none
  | _, _ => none

/-- R361: a record or blaze that found no block is counted, and full landing is reported once. -/
def Cap.drop_ (c : Cap) (n : Nat) (t : Nat) (blaze : Bool) : Cap :=
  let c := c.chan n (fun (k : Chan) =>
    { k with gap := if blaze then k.gap else sat32 (k.gap + 1)
             gapBlazes := if blaze then min (k.gapBlazes + 1) 255 else k.gapBlazes
             lost := if blaze then k.lost else sat32 (k.lost + 1)
             gapAt := some (k.gapAt.getD t) })
  { c with engs := upd c.engs (engOf n) (fun (g : Eng) =>
      { g with events := if g.fullSeen then g.events else g.events ||| 4, fullSeen := true }) }

/-- R355, R359: a run of records into flume mode, in order; the first that finds no block is dropped with the rest. -/
def Cap.flumeRun (c : Cap) (n : Nat) (t : Nat) (blaze : Bool) : List Bytes → Cap
  | [] => c
  | r :: rs =>
    match c.flumeOne n r t with
    | some c' => c'.flumeRun n t blaze rs
    | none => c.drop_ n t blaze

/-- R342, R355, R361: channel `n` stores a record of instant `t`, with the gap and time records due before it. -/
def Cap.put (c : Cap) (n : Nat) (r : Bytes) (t : Nat) (blaze : Bool) : Cap :=
  match c.chans[n]?, c.engs[engOf n]? with
  | some k, some g =>
    match k.cfg with
    | none => c
    | some cfg =>
      if cfg.flume then
        if k.block.isNone && decide (g.share ≤ c.fillOf (engOf n)) then c.drop_ n t blaze
        else
          let gap := match k.gapAt with
            | some g0 => [mkRec 6 n (tagOf g0) (e32 k.gap ++ enc 3 (cdivN (t - g0) 1000) ++ e8 k.gapBlazes)]
            | none => []
          let time := if k.wantsTime t || k.gapAt.isSome then [timeRec n t] else []
          let c := c.chan n (fun (k : Chan) =>
            { k with gap := 0, gapBlazes := 0, gapAt := none, second := some (t / 1000000000)
                     events := if k.gapAt.isSome then k.events ||| 4 else k.events })
          (c.flumeRun n t blaze (gap ++ time ++ [r])).settle (engOf n)
      else
        let pend := if k.wantsTime t then [timeRec n t, r] else [r]
        c.chan n (fun (k : Chan) =>
          let k := { k with second := some (t / 1000000000) }
          if k.state = 2 then
            let take := pend.take k.postLeft
            take.foldl (fun (k : Chan) (x : Bytes) => { k.ring x with postLeft := k.postLeft - 1 }) k
          else pend.foldl Chan.ring k)
  | _, _ => c

/-- R348: the channel records: `ARMED`, `POST`, `STREAMING` or `INJECT`. -/
def Chan.recording (k : Chan) : Bool := k.state == 1 || k.state == 2 || k.state == 4 || k.state == 6

/-- R349: whether a burst lets the channel store now. -/
def Chan.burstOpen (k : Chan) (cfg : ChanCfg) : Bool := cfg.burstUnit == 0xFF || decide (0 < k.burst)

/-- R350: width over period in ppm; the spec gives no rounding, so the last unit of an inexact quotient is free. -/
def dutyPpm (w p : Nat) : Nat :=
  w * 1000000 / p + (if w * 1000000 % p ≠ 0 ∧ Config.dutyUp w p then 1 else 0)

/-- R350: a rising crossing at `t`. -/
def Meas.rising (m : Meas) (t : Nat) : Meas :=
  { m with period := match m.rise with | some r => some (t - r) | none => m.period
           duty := match m.rise, m.fall with
             | some r, some f => if r ≤ f && f ≤ t && r < t then some (dutyPpm (f - r) (t - r)) else m.duty
             | _, _ => m.duty
           first := some (m.first.getD t), lastR := t, rises := m.rises + 1, rise := some t }

/-- R350: a falling crossing at `t`. -/
def Meas.falling (m : Meas) (t : Nat) : Meas :=
  { m with width := match m.rise with | some r => if r ≤ t then some (t - r) else m.width | none => m.width
           fall := some t }

/-- R350: one sample, or one level of a digital source, into the measurement. -/
def Meas.sample (m : Meas) (hi lo : Int) (mark : Bool) (x : Int) (t : Nat) : Meas :=
  let lv := threshold hi lo x m.high
  let m1 := match m.prev with
    | some (a, ta) =>
      let cr (thr : Int) : Nat := if mark then crossAt a x thr ta else t
      let m := if a ≤ lo ∧ lo < x then { m with loUp := some (cr lo) } else m
      match m.high, lv with
      | some false, some true =>
        let m := { m with riseT := match m.loUp with | some s => some (cr hi - s) | none => m.riseT, loUp := none }
        m.rising (cr hi)
      | some true, some false => m.falling (cr lo)
      | _, _ => m
    | none => m
  { m1 with high := lv, prev := some (x, t), n := m1.n + 1, sum := m1.sum + x, sumSq := m1.sumSq + (x * x).toNat
            minV := if m1.n = 0 then x else min m1.minV x, maxV := if m1.n = 0 then x else max m1.maxV x }

/-- R350: the value, the count and whether the window held what measurement `k` needs. -/
def Meas.value (m : Meas) (k : Nat) : Option Int × Nat :=
  match k with
  | 0 => (m.period.map Int.ofNat, m.rises)
  | 1 =>
    let f := m.first.getD 0
    (if m.rises ≥ 2 ∧ f < m.lastR then some (rdivUp (((m.rises : Int) - 1) * 1000000000000) (m.lastR - f)) else none,
     m.rises)
  | 2 => (m.width.map Int.ofNat, m.rises)
  | 3 => (m.duty.map Int.ofNat, m.rises)
  | 4 => (if m.n = 0 then none else some (m.maxV - m.minV), m.n)
  | 5 => (if m.n = 0 then none else some (rdivUp m.sum m.n), m.n)
  | 6 => (if m.n = 0 then none else some (isqrt (m.sumSq / m.n)), m.n)
  | _ => (m.riseT.map Int.ofNat, m.rises)

/-- R350: the next window begins; bounds of time measurements carry over. -/
def Meas.next (m : Meas) (window : Nat) : Meas :=
  { m with winEnd := m.winEnd + window, first := none, lastR := 0, rises := 0, period := none, width := none
           duty := none, riseT := none, n := 0, sum := 0, sumSq := 0, minV := 0, maxV := 0 }

/-- R349: a sample of value `x` and record body `body` at instant `t`; `flags` are the record's flag bits. -/
def Cap.sample (c : Cap) (n : Nat) (x : Int) (body : Bytes) (flags t : Nat) : Cap :=
  match c.chans[n]? with
  | none => c
  | some k =>
    match k.cfg with
    | none => c
    | some cfg =>
      if !k.recording || decide (t < k.since) then c
      else if cfg.storage = 2 then
        c.chan n (fun (k : Chan) => { k with meas := k.meas.sample cfg.thrHi cfg.thrLo (cfg.kind == 0) x t })
      else if !k.burstOpen cfg then c
      else
        let store :=
          if cfg.storage = 1 then k.count % cfg.decimate == 0
          else match k.lastV with
            | none => true
            | some y => decide (x ≠ y) && decide ((cfg.deadband : Int) ≤ (x - y).natAbs)
        let c := c.chan n (fun (k : Chan) =>
          { k with count := k.count + 1, burst := k.burst - 1, lastV := if store then some x else k.lastV })
        if store then c.put n (mkRec (2 + flags) n (tagOf t) body) t false else c

/-- R349, R352: a sample without a value: at full rate a record with `no_data`, otherwise nothing. -/
def Cap.noSample (c : Cap) (n : Nat) (t : Nat) : Cap :=
  match c.chans[n]? with
  | none => c
  | some k =>
    match k.cfg with
    | none => c
    | some cfg =>
      if !k.recording || decide (t < k.since) || cfg.storage != 1 || !k.burstOpen cfg then c
      else
        let store := k.count % cfg.decimate == 0
        let c := c.chan n (fun (k : Chan) => { k with count := k.count + 1, burst := k.burst - 1 })
        if store then c.put n (mkRec (2 + 0x40) n (tagOf t) (zeros 8)) t false else c

/-- R349, R351: a transition of a digital source to level `lv`. -/
def Cap.edge (c : Cap) (n : Nat) (lv : Bool) (t : Nat) : Cap :=
  match c.chans[n]? with
  | none => c
  | some k =>
    match k.cfg with
    | none => c
    | some cfg =>
      if !k.recording || decide (t < k.since) then c
      else if cfg.storage = 2 then
        -- the level before the first transition is the other one
        c.chan n (fun (k : Chan) =>
          let m := if k.meas.prev.isNone then { k.meas with high := some (!lv), prev := some (if lv then 0 else 1, t) } else k.meas
          { k with meas := m.sample 1 0 false (if lv then 1 else 0) t })
      else if !k.burstOpen cfg then c
      else
        let prev := match k.edgeAt with | some e => sat32 (t - e) | none => 0xFFFFFFFF
        let c := c.chan n (fun (k : Chan) => { k with edgeAt := some t, count := k.count + 1, burst := k.burst - 1 })
        c.put n (mkRec 1 n (tagOf t) (e8 (b2n lv) ++ zeros 3 ++ e32 prev)) t false

/-- The channels whose source is `kind`, `index`. -/
def Cap.sources (c : Cap) (kind index : Nat) : List Nat :=
  (List.range 64).filter (fun n =>
    match c.chans[n]? with
    | some k => (match k.cfg with | some g => g.kind == kind && g.index == index | none => false)
    | none => false)

/-- R349: a sample for every channel of a source. -/
def Cap.feed (c : Cap) (kind index : Nat) (x : Int) (body : Bytes) (flags t : Nat) : Cap :=
  (c.sources kind index).foldl (fun (c : Cap) (n : Nat) => c.sample n x body flags t) c

/-- R349: a transition for every channel of a digital source. -/
def Cap.feedEdge (c : Cap) (kind index : Nat) (lv : Bool) (t : Nat) : Cap :=
  (c.sources kind index).foldl (fun (c : Cap) (n : Nat) => c.edge n lv t) c

/-- R350: the end of a measurement window of channel `n`. -/
def Cap.windowEnd (c : Cap) (n : Nat) : Cap :=
  match c.chans[n]? with
  | none => c
  | some k =>
    match k.cfg with
    | none => c
    | some cfg =>
      if !k.recording || cfg.storage != 2 then c
      else
        let (v, cnt) := k.meas.value cfg.meas
        let t := k.meas.winEnd
        let flags := match v with | some _ => 0 | none => 0x40
        let body := e8 cfg.meas ++ e8 0 ++ e16 (sat16 cnt) ++ eS32 (sat32i (v.getD 0))
        let c := c.chan n (fun (k : Chan) => { k with meas := k.meas.next cfg.window, burst := k.burst - 1 })
        if k.burstOpen cfg then c.put n (mkRec (3 + flags) n (tagOf t) body) t false else c
where
  /-- A measurement's value in its i32 field. -/
  sat32i (x : Int) : Int := satS 32 x

/-- R355: the first trigger of an armed circular channel. -/
def Cap.trigger (c : Cap) (n unit : Nat) (t : Nat) : Cap :=
  match c.chans[n]? with
  | none => c
  | some k =>
    match k.cfg with
    | none => c
    | some cfg =>
      if k.state != 1 || cfg.trigUnit != unit || decide (t < k.since) then c
      else
        -- a time record due before the trigger record is a record before the trigger
        let k1 := if k.wantsTime t then k.ring (timeRec n t) else k
        let keep := min k1.buf.length (k.limit - cfg.post - 1)
        let k1 := { k1 with buf := k1.buf.drop (k1.buf.length - keep) }
        c.chan n (fun _ =>
          { k1.ring (mkRec 4 n (tagOf t) (e16 unit ++ e16 0 ++ e32 keep)) with
            state := 2, postLeft := cfg.post, events := k.events ||| 1, trigTag := tagOf t, pre := keep
            second := some (t / 1000000000) })

/-- R355: the post count of channel `n` is written. -/
def Cap.postDone (c : Cap) (n : Nat) : Cap :=
  c.chan n (fun (k : Chan) =>
    if k.state = 2 ∧ k.postLeft = 0 then { k with state := 3, events := k.events ||| 2 } else k)

/-- R349: a burst of channel `n` starts at a pulse of its burst unit; one within a running burst is ignored. -/
def Cap.startBurst (c : Cap) (n unit t : Nat) : Cap :=
  c.chan n (fun (k : Chan) =>
    match k.cfg with
    | some cfg =>
      if cfg.burstUnit = unit ∧ k.recording ∧ k.burst = 0 ∧ k.since ≤ t then
        { k with burst := cfg.burstLen, count := 0 }
      else k
    | none => k)

/-- R351: a blaze of `unit` into channel `n`. -/
def Cap.blaze (c : Cap) (n unit id seq t : Nat) : Cap :=
  match c.chans[n]? with
  | some k =>
    if k.recording && decide (k.since ≤ t) then
      c.put n (mkRec 5 n (tagOf t) (e16 unit ++ e16 id ++ e32 seq)) t true
    else c
  | none => c

/-- R348, R355, R360: channel `n` is armed at the latch instant `t`. -/
def Cap.arm (c : Cap) (n : Nat) (t : Nat) : Cap :=
  match c.chans[n]? with
  | none => c
  | some k =>
    match k.cfg with
    | none => c
    | some cfg =>
      let k' := { k with state := if cfg.flume then 4 else 1, since := t, written := 0, lost := 0, trigTag := 0, pre := 0
                         buf := [], limit := if cfg.flume then 0 else cfg.depth
                         resv := if cfg.flume then 0 else cfg.depth / 256, postLeft := 0, lastV := none, count := 0
                         burst := 0, edgeAt := none, second := none, block := none, gap := 0, gapBlazes := 0, gapAt := none
                         meas := { Meas.reset with winEnd := t + cfg.window } }
      (c.chan n (fun _ => k')).settle (engOf n)

/-- R354: the blocks of landing an injection recording reserves. -/
def injBlocks (duration : Nat) : Nat := cdivN duration 256

/-- The configuration of a channel that has none (R354). -/
def ChanCfg.plain : ChanCfg := ⟨0, 1, false, 0, 0, 0, 0xFF, 0, 1, 256, 0, 0, 0, 0, 10, 0, 0, 0, 1, 0⟩

/-- R354: channel `n` records an injection of `duration` strokes on an axis from the latch instant `t` on: variable
`var`, or g(k) for 0xFF. A circular recording begins with its trigger record. -/
def Cap.armInject (c : Cap) (n axis var duration t f : Nat) : Cap :=
  match c.chans[n]? with
  | none => c
  | some k =>
    let base := k.cfg.getD ChanCfg.plain
    let cfg := { base with
      kind := if var = 0xFF then 6 else 5, index := if var = 0xFF then axis else 32 * axis + var
      storage := 1, decimate := 1, burstUnit := 0xFF, burstLen := 0, depth := 256 * injBlocks duration, post := 0 }
    let c := (c.chan n (fun (k : Chan) => { k with cfg := some cfg })).arm n t
    c.chan n (fun (k : Chan) =>
      let k := { k with state := 6 }
      if cfg.flume then k
      else
        let head := [timeRec n t, mkRec 4 n (tagOf t) (e16 (Config.injUnit f) ++ zeros 6)]
        { k with buf := head, limit := k.limit + 2, trigTag := tagOf t, second := some (t / 1000000000) })

/-- R356, R359: channel `n` stops; `release` gives up a held buffer. -/
def Cap.stop (c : Cap) (n : Nat) (release : Bool) : Cap :=
  match c.chans[n]? with
  | none => c
  | some k =>
    let c := if k.state = 4 then (c.closeBlock n).chan n (fun (k : Chan) => { k with state := 0 })
      else if k.state = 1 ∨ k.state = 2 then c.chan n (fun (k : Chan) => { k with state := 3, events := k.events ||| 2 })
      else if k.state = 6 then
        match k.cfg with
        | some cfg =>
          if cfg.flume then (c.closeBlock n).chan n (fun (k : Chan) => { k with state := 0 })
          else c.chan n (fun (k : Chan) => { k with state := 3, events := k.events ||| 2 })
        | none => c
      else if k.state = 5 then c.chan n (fun (k : Chan) => { k with state := 0, block := none })
      else if k.state = 3 then c.chan n (fun (k : Chan) => { k with state := 0 })
      else c
    let c := if release then c.chan n (fun (k : Chan) => { k with state := 0, buf := [], limit := 0, resv := 0 }) else c
    c.settle (engOf n)

/-- R358: a flume ring goes into error, with every channel that streams into it. -/
def Cap.ringError (c : Cap) (e r : Nat) : Cap :=
  match c.engs[e]? with
  | none => c
  | some g =>
    match g.rings[r]? with
    | none => c
    | some f =>
      if f.state = 0 ∨ f.state = 3 then c
      else
        let c := { c with engs := upd c.engs e (fun (g : Eng) =>
          { g with events := g.events ||| 8, rings := upd g.rings r (fun (f : Flume) => { f with state := 3, queue := [] }) }) }
        let hit (n : Nat) (k : Chan) : Bool :=
          engOf n == e && (k.state == 4 || k.state == 6) && (match k.cfg with | some g => g.flume && g.ring == r | none => false)
        let c := (List.range 64).foldl (fun (c : Cap) (n : Nat) =>
          c.chan n (fun (k : Chan) => if hit n k then { k with state := 5, block := none, events := k.events ||| 8 } else k)) c
        c.settle e

/-- The room of a flume ring in records: head and tail count records, modulo 2^32. -/
def Flume.room (f : Flume) : Nat := f.entries - (f.tail + 2 ^ 32 - f.head) % 2 ^ 32

/-- R359: the block at the head of a ring's queue, if the ring has room for all its records. -/
def Flume.ready (f : Flume) : Option Block :=
  match f.queue with
  | b :: _ => if (f.state = 1 ∨ f.state = 2) ∧ b.recs.length ≤ f.room then some b else none
  | [] => none

/-- R358: a ring's running or full state after its head or tail moved. -/
def Flume.level (f : Flume) : Flume :=
  if f.state = 1 ∨ f.state = 2 then { f with state := if f.room = 0 then 2 else 1 } else f

/-- R364: the register error of `y`, in `[-Y/2, Y/2)`. -/
def RegCfg.error (r : RegCfg) (y : Int) : Int :=
  if r.yRepeat ≤ 0 then 0
  else
    let h := Int.fdiv r.yRepeat 2
    (y - r.yRef + h) % r.yRepeat - h

/-- R364: the correction of an accepted error. -/
def RegCfg.correction (r : RegCfg) (e : Int) : Int :=
  if (e.natAbs : Int) ≤ r.deadband then 0 else rdivUp (-(e * r.kNum)) r.kDen

/-- R364: the function takes the newest mark, `y` being its slave position, `x` the master position, and
`n` the number of values since the previous latch point. The second part is the trim that becomes pending. -/
def Reg.mark (r : Reg) (c : RegCfg) (x y : Int) (n : Nat) : Reg × Int :=
  let e := c.error y
  let r := { r with multi := if 1 < n then min n 255 else r.multi, err := satS 32 e }
  if c.accept < (e.natAbs : Int) then ({ r with rejected := sat32 (r.rejected + 1), events := r.events ||| 1 }, 0)
  else
    let k := c.correction e
    ({ r with accepted := sat32 (r.accepted + 1), corr := satS 32 k, missFrom := some x }, k)

/-- R366: the master at `x`: a miss for every `miss_dist` beyond the last accepted mark. -/
def Reg.missed (r : Reg) (c : RegCfg) (x : Int) : Reg :=
  match r.missFrom with
  | some b =>
    if c.miss > 0 ∧ c.miss ≤ ((x - b).natAbs : Int) then
      { r with missing := sat32 (r.missing + 1), events := r.events ||| 2
               missFrom := some (if b ≤ x then b + c.miss else b - c.miss) }
    else r
  | none => { r with missFrom := some x }

end Sys2Proof.Machine
end

