-- ==== Sys2Proof/Machine/Hooks.lean ====
section
/-! DEFINITION. Loop hooks: the operation encoding, the check `HOOK_LOAD` makes, the cost, and the run of
a hook over the named axis variables (R75-R84). -/

namespace Sys2Proof.Machine

/-- R79: the Q15 variables a hook and an injection recorder may read, beside the loop states. -/
structure HookVars where
  loop  : AxLoop
  users : List Int
  /-- Stroke number bits [14:0]. -/
  strokeLsb : Int
  deriving DecidableEq, Repr

/-- R79: the value of a named variable. -/
def readVar (v : HookVars) (id : Nat) : Int :=
  match id with
  | 0x00 => v.loop.posErr | 0x01 => v.loop.velFf | 0x02 => v.loop.accFf | 0x03 => v.loop.velRef
  | 0x04 => v.loop.velFb | 0x05 => v.loop.velErr | 0x06 => v.loop.iqRef | 0x07 => v.loop.idRef
  | 0x08 => v.loop.iqFb | 0x09 => v.loop.idFb | 0x0A => v.loop.vqCmd | 0x0B => v.loop.vdCmd
  | 0x0C => v.loop.vbus | 0x0D => v.loop.theta | 0x0E => v.loop.obsDist | 0x0F => v.strokeLsb
  | n => if 0x10 ≤ n ∧ n ≤ 0x17 then v.users.getD (n - 0x10) 0 else 0

/-- R79: the point at which a variable may be stored; user variables at every point. -/
def storePoint (id : Nat) : Option Nat :=
  match id with
  | 0x00 => some 0 | 0x01 => some 0 | 0x02 => some 0 | 0x03 => some 1 | 0x05 => some 2
  | 0x06 => some 3 | 0x07 => some 3 | 0x08 => some 4 | 0x09 => some 4 | 0x0A => some 5 | 0x0B => some 5
  | _ => none

/-- Whether a STORE of a variable is allowed at a point (R79). -/
def storable (id point : Nat) : Bool := (0x10 ≤ id && id ≤ 0x17) || storePoint id == some point

/-- A STORE (R79). -/
def writeVar (v : HookVars) (id : Nat) (x : Int) : HookVars :=
  match id with
  | 0x00 => { v with loop := { v.loop with posErr := x } }
  | 0x01 => { v with loop := { v.loop with velFf := x } }
  | 0x02 => { v with loop := { v.loop with accFf := x } }
  | 0x03 => { v with loop := { v.loop with velRef := x } }
  | 0x05 => { v with loop := { v.loop with velErr := x } }
  | 0x06 => { v with loop := { v.loop with iqRef := x } }
  | 0x07 => { v with loop := { v.loop with idRef := x } }
  | 0x08 => { v with loop := { v.loop with iqFb := x } }
  | 0x09 => { v with loop := { v.loop with idFb := x } }
  | 0x0A => { v with loop := { v.loop with vqCmd := x } }
  | 0x0B => { v with loop := { v.loop with vdCmd := x } }
  | n => if 0x10 ≤ n ∧ n ≤ 0x17 then { v with users := v.users.set (n - 0x10) x } else v

/-- R80: the fields of an operation word. -/
structure HookOp where
  op  : Nat
  sat : Bool
  d   : Nat
  x   : Nat
  y   : Nat
  c   : Nat
  imm : Nat
  deriving DecidableEq, Repr

/-- R80. -/
def decodeOp (w : Nat) : HookOp :=
  ⟨bits w 27 5, bit w 26, bits w 23 3, bits w 19 4, bits w 15 4, bits w 11 4, bits w 0 11⟩

/-- R81: the cost of an operation in lane-cycles. -/
def opCost (w : Nat) : Nat :=
  match (decodeOp w).op with
  | 0x07 => 2 | 0x09 => 17 | 0x0A => 2 | 0x0B => 2 | _ => 1

/-- R82: the cost of a hook. -/
def hookCost (ops : List Nat) : Nat := 4 + (ops.map opCost).sum

/-- What is wrong with an operation word at a point (R81, R84): `some true` a value, `some false` a nonzero
reserved or unused field. -/
def opFault (w point : Nat) : Option Bool :=
  let o := decodeOp w
  let z (b : Bool) : Option Bool := if b then none else some false
  match o.op with
  | 0x01 => z (o.d ≤ 1 && o.c == 0 && o.imm ≤ 3)
  | 0x02 => z (o.c == 0 && o.imm == 0)
  | 0x03 => z (o.c == 0 && o.imm == 0)
  | 0x04 => z (o.c == 0 && o.imm == 0)
  | 0x05 =>
    if bits o.imm 0 5 = 16 then some true
    else z (o.imm ≤ 63 && o.y == 0 && o.c == 0 && (!(bit o.imm 5) || (o.x == 0 && o.d ≤ 1)))
  | 0x06 => if 2 ≤ o.x then some true else z (o.y == 0 && o.c == 0 && o.imm == 0)
  | 0x07 => z (!o.sat && o.imm == 0)
  | 0x08 => z (!o.sat && o.imm == 0)
  | 0x09 => z (!o.sat && o.c == 0 && o.imm == 0)
  | 0x0A => if 0x18 ≤ bits o.imm 0 6 then some true else z (!o.sat && o.x == 0 && o.y == 0 && o.c == 0 && o.imm ≤ 63)
  | 0x0B =>
    if !(storable (bits o.imm 0 6) point) then some true
    else z (!o.sat && o.d == 0 && o.y == 0 && o.c == 0 && o.imm ≤ 63)
  | _ => some true

/-- The work slots, accumulators, variables and sticky flags of a hook run (R77, R83). -/
structure HookRun where
  w : List Int
  a : List Int
  v : HookVars
  flags : Nat
  deriving DecidableEq, Repr

/-- R80: a source operand. -/
def hookSrc (r : HookRun) (k : List Int) (i : Nat) : Int :=
  if i < 8 then r.w.getD i 0 else k.getD (i - 8) 0

/-- Writing a work slot, with the sticky `sat_clamped`. -/
def setW (r : HookRun) (d : Nat) (x : Flagged) : HookRun :=
  { r with w := r.w.set d x.1, flags := putBit r.flags 0 (bit r.flags 0 || x.2) }

/-- Writing an accumulator. -/
def setA (r : HookRun) (d : Nat) (x : Flagged) : HookRun :=
  { r with a := r.a.set d x.1, flags := putBit r.flags 0 (bit r.flags 0 || x.2) }

/-- R70, R81: a value shifted by a signed count; right shifts round half up. -/
def shiftBy (x : Int) (n : Int) : Int :=
  if 0 ≤ n then x * ((2 ^ n.toNat : Nat) : Int)
  else Int.fdiv (x + ((2 ^ ((-n).toNat - 1) : Nat) : Int)) ((2 ^ (-n).toNat : Nat) : Int)

/-- R81: one operation. -/
def runOp (k : List Int) (r : HookRun) (word : Nat) : HookRun :=
  let o := decodeOp word
  let x := hookSrc r k o.x
  let y := hookSrc r k o.y
  let c := hookSrc r k o.c
  match o.op with
  | 0x01 =>
    let base := if bit o.imm 0 then 0 else r.a.getD o.d 0
    setA r o.d (acc40 (if bit o.imm 1 then base - x * y else base + x * y) o.sat)
  | 0x02 => setW r o.d (extF (x * y) o.sat)
  | 0x03 => setW r o.d (q15 (x + y) o.sat)
  | 0x04 => setW r o.d (q15 (x - y) o.sat)
  | 0x05 =>
    let n := toS 5 (bits o.imm 0 5)
    if bit o.imm 5 then setA r o.d (acc40 (shiftBy (r.a.getD o.d 0) n) o.sat)
    else setW r o.d (q15 (shiftBy x n) o.sat)
  | 0x06 => setW r o.d (extF (r.a.getD o.x 0) o.sat)
  | 0x07 => setW r o.d (min (max x y) c, false)
  | 0x08 => setW r o.d (if 0 ≤ c then x else y, false)
  | 0x09 =>
    let q := divs x y
    let r' := setW (setW r o.d (q.q, false)) ((o.d + 1) % 8) (q.r, false)
    { r' with flags := putBit (putBit r'.flags 1 (bit r'.flags 1 || q.zero)) 2 (bit r'.flags 2 || q.ovr) }
  | 0x0A => setW r o.d (readVar r.v (bits o.imm 0 6), false)
  | 0x0B => { r with v := writeVar r.v (bits o.imm 0 6) x }
  | _ => r

/-- R77, R81: a run of a hook: work slots and accumulators cleared, the operations in order. -/
def runHook (h : Option Hook) (v : HookVars) (flags : Nat) : HookVars × Nat :=
  match h with
  | none => (v, flags)
  | some hk =>
    let r := hk.ops.foldl (runOp hk.consts) ⟨List.replicate 8 0, [0, 0], v, flags⟩
    (r.v, r.flags)

end Sys2Proof.Machine
end

