-- ==== Sys2Proof/Machine/AxisLaw.lean ====
section
/-! DEFINITION. The axis laws: test-signal injection, the position, velocity and current loops, the
observer, the bridge rules and the bumpless presets (R86-R102, R105, R120-R121). -/

namespace Sys2Proof.Machine

/-- R8: strokes per second for a stroke code. -/
def strokesPerSec (code : Nat) : Nat := match code with | 0 => 32000 | 1 => 16000 | 2 => 8000 | _ => 4000
/-- R8: the stroke length in ns for a stroke code. -/
def strokeNs (code : Nat) : Nat := match code with | 0 => 31250 | 1 => 62500 | 2 => 125000 | _ => 250000

/-- R121: the exponents of the PRBS polynomials, x^0 left out. -/
def prbsTaps (r : Nat) : List Nat :=
  match r with
  | 7 => [7, 6] | 8 => [8, 6, 5, 4] | 9 => [9, 5] | 10 => [10, 7] | 11 => [11, 9] | 12 => [12, 11, 10, 4]
  | 13 => [13, 12, 11, 8] | 14 => [14, 13, 12, 2] | 15 => [15, 14] | 16 => [16, 15, 13, 4] | _ => []

/-- R121: the next PRBS state and the bit shifted in. -/
def prbsStep (r st : Nat) : Nat × Bool :=
  let nx := ((prbsTaps r).map (fun e => b2n (bit st (e - 1)))).sum % 2
  ((st * 2 + nx) % 2 ^ r, nx == 1)

/-- R121: a frequency in mHz as a 32-bit word, round half up. -/
def freqWord (mhz fs : Nat) : Nat := (2 * mhz * 2 ^ 32 + 1000 * fs) / (2 * 1000 * fs)

/-- R121: the upper 16 bits of a phase, signed. -/
def top16 (ph : Nat) : Int := toS 16 (ph / 65536)

/-- R121: the word of tone i. -/
def toneWord (w0 w1 n i : Nat) : Nat :=
  if n ≤ 1 then w0 else (((w0 : Int) + Int.fdiv ((i : Int) * ((w1 : Int) - w0)) ((n - 1 : Nat) : Int))).toNat

/-- R121: the value g(k) of the injection in hand, and the injection advanced by one stroke. -/
def injStep (j : Inj) : Int × Inj :=
  match j.signal with
  | 0 =>
    let ph := j.phases.getD 0 0
    let w := (j.w0 : Int) + Int.fdiv ((j.k : Int) * ((j.w1 : Int) - j.w0)) (max j.duration 1 : Nat)
    let g := ext (j.amp * sinQ15 (top16 ph))
    (g, { j with k := j.k + 1, phases := [toU 32 ((ph : Int) + w)], g := g })
  | 1 =>
    let a := Int.tdiv j.amp (max j.nTones 1 : Nat)
    let g := sat ((j.phases.map (fun ph => ext (a * sinQ15 (top16 ph)))).sum)
    let phs := (List.range j.phases.length).map
      (fun i => (j.phases.getD i 0 + toneWord j.w0 j.w1 j.nTones i) % 2 ^ 32)
    (g, { j with k := j.k + 1, phases := phs, g := g })
  | 2 =>
    let nx := if j.k % max j.hold 1 = 0 then prbsStep j.order j.prbs else (j.prbs, j.prbsOut)
    let g := if nx.2 then j.amp else -j.amp
    (g, { j with k := j.k + 1, prbs := nx.1, prbsOut := nx.2, g := g })
  | _ => (j.amp, { j with k := j.k + 1, g := j.amp })

/-- R121: the phases at the start of an injection. -/
def injPhases (signal n : Nat) : List Nat :=
  if signal = 1 then
    (List.range n).map (fun (i : Nat) => toU 32 (Int.tdiv (-((i * (i + 1) * 2 ^ 31 : Nat) : Int)) (n : Int)))
  else [0]

/-- What a law run reads beside the loop states: configuration, converted limits, coefficients, hooks and
the injection of the stroke. -/
structure LawEnv where
  cfg   : AxCfg
  c     : Coefs
  hooks : List (Option Hook)
  /-- R93, R95: `vel_limit` and `i_limit_ma` in Q15. -/
  vLim  : Int
  iLim  : Int
  strokeNum : Nat
  /-- Point and value of the injection, if one runs. -/
  inj   : Option (Nat × Int)
  deriving DecidableEq, Repr

/-- The values a law run carries: the variables, the sticky hook flags, and this stroke's status bits. -/
structure LawRun where
  v       : HookVars
  hf      : Nat
  errSat  : Bool
  iLim    : Bool
  vLim    : Bool
  duties  : List Int
  deriving DecidableEq, Repr

/-- R120: the injection value at a point, 0 with none. -/
def LawEnv.injAt (e : LawEnv) (p : Nat) : Int :=
  match e.inj with
  | some (q, g) => if p = q then g else 0
  | none => 0

/-- R75-R77: the hook of a point, if one is installed. -/
def LawRun.hook (r : LawRun) (e : LawEnv) (p : Nat) : LawRun :=
  let x := runHook (e.hooks.getD p none) r.v r.hf
  { r with v := x.1, hf := x.2 }

/-- The loop states of a run, changed. -/
def LawRun.onLoop (r : LawRun) (f : AxLoop → AxLoop) : LawRun :=
  { r with v := { r.v with loop := f r.v.loop } }

/-- Whether a clamp to ±lim held a value back on the side of an error (the hold of R93, R95, R97). -/
def holdSide (before after err : Int) : Bool :=
  (decide (after < before) && decide (0 < err)) || (decide (before < after) && decide (err < 0))

/-- The presets of R105 that act inside the law of the transfer stroke. -/
structure Presets where
  /-- Velocity PI preset from MANUAL_CURRENT. -/
  vel : Bool
  /-- Ip preset from the previous velocity reference. -/
  ip  : Bool
  deriving DecidableEq, Repr

/-- R94: whether the position loop runs in a stroke. -/
def posRuns (posLoop strokeNum : Nat) : Bool :=
  posLoop = 1 || posLoop = 3 || ((posLoop = 2 || posLoop = 4) && strokeNum % 2 = 0)

/-- R93 steps 1 and 2 and the reductions of R92. -/
def posErrStep (e : LawEnv) (pCmd pAct vSet : Int) (r : LawRun) : LawRun :=
  let l := r.v.loop
  let fe := pCmd - pAct
  let eq := reduceF fe e.cfg.errSpan
  let vq := reduceF vSet e.cfg.velSpan
  let aq := reduceF (vSet - l.vSet) e.cfg.accSpan
  { r.onLoop (fun l => { l with
      follow := fe, posErr := eq.1, velFf := gmul e.c.kvff vq.1, accFf := gmul e.c.kaff aq.1
      vSet := vSet, aSet := aq.1, pCmd := pCmd }) with
    errSat := r.errSat || eq.2 || vq.2 || aq.2 }

/-- R93 steps 3 to 6, or R94 in a stroke in which the position loop does not run. -/
def posLoopStep (e : LawEnv) (p : Presets) (r : LawRun) : LawRun :=
  let isPi := e.cfg.posLoop = 3 ∨ e.cfg.posLoop = 4
  let r := if p.ip then r.onLoop (fun l => { l with ip := if isPi then (l.velRef - l.velFf) * 32768 else 0 }) else r
  if posRuns e.cfg.posLoop e.strokeNum then
    let r := (r.onLoop (fun l => { l with posErr := sat (l.posErr + e.injAt 0) })).hook e 0
    let l := r.v.loop
    let out := piLaw e.c.kpp (if isPi then l.ip else 0) l.posErr
    let r := (r.onLoop (fun l => { l with posOut := out, velRef := sat (sat (out + l.velFf) + e.injAt 1) })).hook e 1
    let l := r.v.loop
    let lim := clampI (-e.vLim) e.vLim l.velRef
    let hold := holdSide l.velRef lim l.posErr
    r.onLoop (fun l => { l with
      velRef := lim
      ip := if isPi then integrate l.ip e.c.kpi l.posErr e.vLim hold else l.ip })
  else
    r.onLoop (fun l => { l with velRef := clampI (-e.vLim) e.vLim (sat (l.posOut + l.velFf)) })

/-- R95, R96: the velocity loop and the observer. `accFf` is the acceleration feedforward in use. -/
def velLoopStep (e : LawEnv) (p : Presets) (accFf velFbPrev : Int) (r : LawRun) : LawRun :=
  let iqPrev := r.v.loop.iqRef
  let r := (r.onLoop (fun l => { l with velErr := sat (l.velRef - l.velFb) })).hook e 2
  let r := if p.vel then r.onLoop (fun l =>
      let u0 := sat (iqPrev - accFf + l.obsDist)
      { l with
        iv := clampI (-(e.iLim * 32768)) (e.iLim * 32768)
          (u0 * 32768 - e.c.kvp.k * l.velErr * ((2 ^ e.c.kvp.s : Nat) : Int))
        bq := l.bq.map (fun _ => ⟨u0, u0, u0, u0⟩) }) else r
  let l := r.v.loop
  let u := piLaw e.c.kvp l.iv l.velErr
  let y := bqChain e.cfg.nBiquads e.c.biquads l.bq u
  let r := (r.onLoop (fun l => { l with
      bq := y.2, iqRef := sat (sat (sat (y.1 + accFf) - l.obsDist) + e.injAt 2) })).hook e 3
  let l := r.v.loop
  let lim := clampI (-e.iLim) e.iLim l.iqRef
  let hold := holdSide l.iqRef lim l.velErr
  let r := { r.onLoop (fun l => { l with
      iqRef := lim, iv := integrate l.iv e.c.kvi l.velErr e.iLim hold }) with iLim := r.iLim || lim != l.iqRef }
  if e.cfg.observer = 1 then
    r.onLoop (fun l =>
      let est := sat (iqPrev - gmul e.c.kobsJ (sat (l.velFb - velFbPrev)))
      { l with obsDist := sat (l.obsDist + ext (e.c.gObs * sat (est - l.obsDist))) })
  else r.onLoop (fun l => { l with obsDist := 0 })

/-- R95 step 5 and 6 with a manual current reference: injection at point 2, hook 3, the limit. -/
def manCurStep (e : LawEnv) (iq : Int) (r : LawRun) : LawRun :=
  let r := (r.onLoop (fun l => { l with iqRef := sat (iq + e.injAt 2) })).hook e 3
  let l := r.v.loop
  let lim := clampI (-e.iLim) e.iLim l.iqRef
  { r.onLoop (fun l => { l with iqRef := lim }) with iLim := r.iLim || lim != l.iqRef }

/-- R99: the bridge rule: the duties of the two half-bridges of a pair. -/
def bridge (v vbus : Int) : Int × Int :=
  let h := Int.fdiv ((divs v vbus).q + 1) 2
  (clampI 0 32767 (16384 + h), clampI 0 32767 (16384 - h))

/-- R97 step 9: a phase duty. -/
def duty (v vbus : Int) : Int := clampI 0 32767 (16384 + (divs v vbus).q)

/-- R97 steps 7 to 9 for law 0; R98 for law 1. -/
def modulate (law : Nat) (vd vq th vbus : Int) : List Int :=
  let c := cosQ15 th
  let s := sinQ15 th
  let va := ext (c * vd - s * vq)
  let vbeta := ext (s * vd + c * vq)
  if law = 0 then
    let vb := ext (-16384 * va + 28378 * vbeta)
    let vc := ext (-16384 * va - 28378 * vbeta)
    let z := ext (-16384 * (max va (max vb vc) + min va (min vb vc)))
    [duty (sat (va + z)) vbus, duty (sat (vb + z)) vbus, duty (sat (vc + z)) vbus, 0]
  else
    let a := bridge va vbus
    let b := bridge vbeta vbus
    [a.1, a.2, b.1, b.2]

/-- R97 step 2: the currents in the rotor frame from the measured currents. -/
def rotorCurrents (law : Nat) (ia ib th : Int) : Int × Int :=
  let ibeta := if law = 0 then ext (18919 * ia + 37837 * ib) else ib
  let c := cosQ15 th
  let s := sinQ15 th
  (ext (c * ia + s * ibeta), ext (c * ibeta - s * ia))

/-- The current loop of laws 0 and 1 (R97, R98). `fresh` false holds the currents and the integrators (R119). -/
def curLoopFoc (e : LawEnv) (m : AxIn) (th : Int) (fresh : Bool) (r : LawRun) : LawRun :=
  let raw := if fresh then rotorCurrents e.cfg.law m.ia m.ib th else (r.v.loop.idRaw, r.v.loop.iqRaw)
  let r := (r.onLoop (fun l => { l with
      idRaw := raw.1, iqRaw := raw.2, idFb := raw.1, iqFb := raw.2, theta := th, vbus := m.vbus })).hook e 4
  let l := r.v.loop
  let ed := sat (l.idRef - l.idFb)
  let eq := sat (l.iqRef - l.iqFb)
  let vd := sat (piLaw e.c.kpD l.idI ed - gmul e.c.kdecQ (ext (l.velFb * l.iqFb)))
  let vq := sat (sat (piLaw e.c.kpQ l.iqI eq + gmul e.c.kdecD (ext (l.velFb * l.idFb))) + gmul e.c.kbemf l.velFb)
  let r := (r.onLoop (fun l => { l with vdCmd := vd, vqCmd := sat (vq + e.injAt 3) })).hook e 5
  let l := r.v.loop
  let vmax := ext (e.c.vModMax * m.vbus)
  let vdL := clampI (-vmax) vmax l.vdCmd
  let room : Int := ((isqrt (vmax * vmax - vdL * vdL).toNat : Nat) : Int)
  let vqL := clampI (-room) room l.vqCmd
  let holdD := holdSide l.vdCmd vdL ed || !fresh
  let holdQ := holdSide l.vqCmd vqL eq || !fresh
  { r.onLoop (fun l => { l with
      vdCmd := vdL, vqCmd := vqL
      idI := integrate l.idI e.c.kiD ed vmax holdD, iqI := integrate l.iqI e.c.kiQ eq vmax holdQ }) with
    vLim := r.vLim || vdL != l.vdCmd || vqL != l.vqCmd
    duties := modulate e.cfg.law vdL vqL th m.vbus }

/-- The current loop of law 2 (R99). -/
def curLoopDc (e : LawEnv) (m : AxIn) (th : Int) (fresh : Bool) (r : LawRun) : LawRun :=
  let raw := if fresh then m.ia else r.v.loop.iqRaw
  let r := (r.onLoop (fun l => { l with
      idRaw := 0, iqRaw := raw, idFb := 0, iqFb := raw, theta := th, vbus := m.vbus })).hook e 4
  let l := r.v.loop
  let eq := sat (l.iqRef - l.iqFb)
  let v := sat (piLaw e.c.kpQ l.iqI eq + gmul e.c.kbemf l.velFb)
  let r := (r.onLoop (fun l => { l with idFb := 0, vdCmd := 0, vqCmd := sat (v + e.injAt 3) })).hook e 5
  let l := r.v.loop
  let vmax := ext (e.c.vModMax * m.vbus)
  let vL := clampI (-vmax) vmax l.vqCmd
  let b := bridge vL m.vbus
  { r.onLoop (fun l => { l with
      vdCmd := 0, vqCmd := vL, iqI := integrate l.iqI e.c.kiQ eq vmax (holdSide l.vqCmd vL eq || !fresh) }) with
    vLim := r.vLim || vL != l.vqCmd
    duties := [b.1, b.2, 0, 0] }

/-- The current part of an axis's law (R97-R99). -/
def curLoop (e : LawEnv) (m : AxIn) (th : Int) (fresh : Bool) (r : LawRun) : LawRun :=
  if e.cfg.law = 2 then curLoopDc e m th fresh r else curLoopFoc e m th fresh r

/-- R105: all integrators, biquad states and obs_dist are 0. -/
def AxLoop.zeroed (l : AxLoop) : AxLoop :=
  { l with ip := 0, iv := 0, idI := 0, iqI := 0, bq := List.replicate 4 ⟨0, 0, 0, 0⟩, obsDist := 0 }

end Sys2Proof.Machine
end

