-- ==== Sys2Proof/Machine/StateFb.lean ====
section
/-! DEFINITION. The state of position feedback, of the sine/cosine channels, the 5 V pins and the encoder
outputs (R128-R155). -/

namespace Sys2Proof.Machine

/-- R155: the fields of `FB_CONFIGURE`. -/
structure FbCfg where
  source    : Nat
  index     : Nat
  /-- [0] use_z, [1] invert, [2] hall_interp, [3] index_check. -/
  flags     : Nat
  polePairs : Nat
  cpr       : Nat
  num       : Nat
  den       : Nat
  thetaOffset : Int
  filt      : Nat
  deriving DecidableEq, Repr

def FbCfg.reset : FbCfg := ⟨0, 0, 0, 0, 0, 0, 0, 0, 0⟩

/-- R179: a feedback instant: its cell time, the length of its stroke, p_act, the count, the remainder, and whether p_act
was predicted. -/
structure FbAt where
  t     : Nat
  len   : Nat
  p     : Int
  c     : Int
  rem   : Int
  stale : Bool
  deriving DecidableEq, Repr

/-- The feedback of an axis (R128-R144, R153). -/
structure Fb where
  configured : Bool
  cfg      : FbCfg
  /-- R130: raw count, position and remainder. -/
  c        : Int
  pAct     : Int
  rem      : Int
  /-- The position change of the last feedback instant, before limits (R134), and whether it was a jump. -/
  dp       : Int
  /-- Counts of a local source since the previous feedback instant (R130). -/
  pendC    : Int
  /-- Of `pendC`, the counts up to the last feedback instant, and that instant in cell time. -/
  snap     : Int
  centre   : Nat
  /-- R134: a position set that takes effect at the feedback instant of the stroke. -/
  setTo    : Option Int
  /-- The node count, or channel step count, last taken; none before the first. -/
  base     : Option Int
  softMin  : Int
  softMax  : Int
  atMin    : Bool
  atMax    : Bool
  clipped  : Bool
  referenced : Bool
  dir      : Bool
  cExt     : Int
  refPos   : Int
  /-- R140: the count of the last Z. -/
  lastZ    : Option Int
  /-- R140: the last accepted A and B. -/
  qa       : Bool
  qb       : Bool
  legal    : Nat
  /-- R141: sector, 7 when not hall. -/
  sector   : Nat
  hallSkip : Bool
  /-- R142: duration of the previous sector in ns, the instant of the last edge, its direction, and whether
  interpolation is suspended. -/
  tLast    : Nat
  lastEdge : Nat
  lastUp   : Bool
  suspended : Bool
  /-- Live causes, sticky copies and causes live since the previous feedback instant (9 bits each). -/
  live     : Nat
  sticky   : Nat
  since    : Nat
  events   : Nat
  theta    : Int
  /-- R179: the past feedback instants, and the raw count after each of its changes with its instant, newest first. -/
  past     : List FbAt
  counts   : List (Nat × Int)
  deriving DecidableEq, Repr

def Fb.reset : Fb :=
  { configured := false, cfg := FbCfg.reset, c := 0, pAct := 0, rem := 0, dp := 0, pendC := 0, snap := 0, centre := 0, setTo := none, base := none
    softMin := -(2 ^ 63), softMax := 2 ^ 63 - 1, atMin := false, atMax := false, clipped := false
    referenced := false, dir := false, cExt := 0, refPos := 0, lastZ := none, qa := false, qb := false, legal := 0
    sector := 7, hallSkip := false, tLast := 0, lastEdge := 0, lastUp := true, suspended := true
    live := 0, sticky := 0, since := 0, events := 0, theta := 0, past := [], counts := [] }

/-- A sine/cosine channel (R135-R139, R153, R155). -/
structure ScCh where
  calMode  : Nat
  ampCount : Nat
  nomAmp   : Nat
  ampLo    : Nat
  ampHi    : Nat
  refMark  : Bool
  offS     : Int
  offC     : Int
  gain     : Int
  phase    : Int
  calDone  : Bool
  calRange : Bool
  /-- R136: the step count, that of the sample before, and the instants of the two in device ns. -/
  steps    : Int
  stepsPrev : Int
  tCur     : Nat
  tPrev    : Nat
  /-- R138: live causes (4 bits) and per cause the consecutive fails and passes. -/
  live     : Nat
  fails    : List Nat
  passes   : List Nat
  /-- R153: least and greatest ratio of the stroke in progress and of the last one. -/
  ampMin   : Nat
  ampMax   : Nat
  ampShown : Nat
  /-- R153: signed frequency in 10 mHz, and the step count at the last stroke boundary. -/
  freq     : Int
  stepsB   : Int
  mark     : Bool
  /-- R137: the step count at which the collection of the current estimate began. -/
  calStart : Option Int
  /-- R135: the step count at each past sample instant, newest first. -/
  samples  : List (Nat × Int)
  deriving DecidableEq, Repr

def ScCh.reset : ScCh :=
  { calMode := 0, ampCount := 4, nomAmp := 16384, ampLo := 512, ampHi := 1331, refMark := false
    offS := 0, offC := 0, gain := 0x4000, phase := 0, calDone := false, calRange := false
    steps := 0, stepsPrev := 0, tCur := 0, tPrev := 0, live := 0, fails := [0, 0, 0, 0], passes := [0, 0, 0, 0]
    ampMin := 0, ampMax := 0, ampShown := 0, freq := 0, stepsB := 0, mark := false, calStart := none, samples := [] }

/-- R155: the fields of `EO_CONFIGURE`. -/
structure EoCfg where
  mode   : Nat
  kind   : Nat
  /-- [0] invert, [1] advance, [2] index_from_mark. -/
  flags  : Nat
  object : Nat
  num    : Nat
  den    : Nat
  index  : Nat
  preset : Nat
  deriving DecidableEq, Repr

/-- An encoder output (R146-R153). -/
structure Eo where
  cfg      : EoCfg
  enabled  : Bool
  x0       : Int
  out0     : Int
  /-- The target count of the last window and the emitted count. -/
  target   : Int
  emitted  : Int
  /-- R149: runs of edges waiting, oldest first, signed by direction. -/
  backlog  : List Int
  dropped  : Nat
  rateLimited : Bool
  srcGap   : Bool
  droppedSeen : Bool
  events   : Nat
  /-- R151: the next valid source value rebases. -/
  rebase   : Bool
  /-- R152: Z held high by a reference mark, and the instant of the mark. -/
  zMark    : Bool
  zAt      : Nat
  a        : Bool
  b        : Bool
  z        : Bool
  /-- R147-R149: the instants, in ns from the window's start, of the edges emitted in the last window. -/
  sched    : List Nat
  deriving DecidableEq, Repr

def Eo.reset : Eo :=
  { cfg := ⟨0, 0, 0, 0, 0, 0, 0, 0⟩, enabled := false, x0 := 0, out0 := 0, target := 0, emitted := 0, backlog := []
    dropped := 0, rateLimited := false, srcGap := false, droppedSeen := false, events := 0, rebase := false
    zMark := false, zAt := 0, a := false, b := false, z := false, sched := [] }

end Sys2Proof.Machine
end

