-- ==== Sys2Proof/Machine/FbOps.lean ====
section
/-! DEFINITION. Position feedback over one axis, one sine/cosine channel or one encoder output: counts to
position, soft limits, direction, the electrical angle, the sample correction, hall sectors and the edges of
encoder emulation (R130-R152). -/

namespace Sys2Proof.Machine

/-- A flag of `FB_CONFIGURE` (R155). -/
def Fb.flag (f : Fb) (i : Nat) : Bool := bit f.cfg.flags i

/-- R132: p_act moved by `dp` within the soft limits, with the marks of a clamping update. -/
def Fb.move (f : Fb) (dp : Int) : Fb :=
  let p := f.pAct + dp
  let hit (lim : Int) (g : Fb) : Fb :=
    { g with pAct := lim, rem := 0, clipped := true, referenced := false, events := setBit g.events 1 }
  let g := if p < f.softMin then hit f.softMin { f with atMin := true }
    else if f.softMax < p then hit f.softMax { f with atMax := true }
    else { f with pAct := p }
  { g with atMin := g.atMin && g.pAct == g.softMin, atMax := g.atMax && g.pAct == g.softMax }

/-- R130: a count increment at a feedback instant: exact conversion, remainder kept, then the limits. -/
def Fb.feed (f : Fb) (dc : Int) : Fb :=
  if f.cfg.den = 0 then f
  else
    let t := dc * f.cfg.num + f.rem
    let dp := Int.fdiv t f.cfg.den
    ({ f with rem := t - dp * f.cfg.den, dp := dp }).move dp

/-- R133: the direction flag after the raw count has changed. -/
def Fb.turn (f : Fb) : Fb :=
  if f.dir then
    if f.c ≤ f.cExt - 2 then { f with dir := false, cExt := f.c, events := setBit f.events 2 }
    else { f with cExt := max f.cExt f.c }
  else
    if f.cExt + 2 ≤ f.c then { f with dir := true, cExt := f.c, events := setBit f.events 2 }
    else { f with cExt := min f.cExt f.c }

/-- A change of the raw count by `dc` (before `invert`), with the direction rule. -/
def Fb.count (f : Fb) (dc : Int) : Fb :=
  let dc := if f.flag 1 then -dc else dc
  let g := { f with c := f.c + dc, pendC := f.pendC + dc }
  if f.configured then g.turn else g

/-- R130: the counts gathered since the previous instant enter the position. -/
def Fb.instant (f : Fb) : Fb := { f.feed f.pendC with pendC := 0 }

/-- R144: a cause becomes live. -/
def Fb.causeOn (f : Fb) (i : Nat) : Fb :=
  { f with
    live := setBit f.live i, since := setBit f.since i, sticky := setBit f.sticky i
    referenced := false, events := setBit f.events 0 }

/-- A cause ceases to be live. -/
def Fb.causeOff (f : Fb) (i : Nat) : Fb := { f with live := putBit f.live i false }

/-- R131: theta_e from the raw count. -/
def thetaCount (c : Int) (cpr polePairs : Nat) (offset : Int) : Int :=
  if cpr = 0 then 0
  else
    wrapS 16 (Int.fdiv ((c % (cpr : Int)) * polePairs * 65536 + ((cpr / 2 : Nat) : Int)) cpr + offset)

/-- R141: the sector of a filtered state, H1 in bit 0. -/
def hallSector (st : Nat) : Option Nat :=
  match st with
  | 1 => some 0 | 3 => some 1 | 2 => some 2 | 6 => some 3 | 4 => some 4 | 5 => some 5 | _ => none

/-- R142: theta of a hall source, `dt` ns after its last edge. -/
def thetaHall (f : Fb) (dt : Nat) : Int :=
  let centre := Int.fdiv ((f.sector : Int) * 65536) 6 + 5461 + f.cfg.thetaOffset
  if !(f.flag 2) || f.suspended || f.tLast = 0 then wrapS 16 centre
  else
    let adv : Int := ((min 10923 (10923 * dt / f.tLast) : Nat) : Int)
    let lo := Int.fdiv ((f.sector : Int) * 65536) 6
    wrapS 16 ((if f.lastUp then lo + adv else lo + 10923 - adv) + f.cfg.thetaOffset)

/-- R141: an accepted hall state. Position of the count and the causes; `at_` is the edge's instant in ns. -/
def Fb.hallEdge (f : Fb) (st : Nat) (at_ : Nat) : Fb :=
  match hallSector st with
  | none => f.causeOn 6
  | some s =>
    if f.sector = 7 then { f with sector := s, lastEdge := at_, suspended := true }
    else
      let d := (s + 6 - f.sector) % 6
      let step (dc : Int) (g : Fb) : Fb :=
        let dt := at_ - f.lastEdge
        { (({ g with sector := s }).count dc) with
          tLast := dt, lastEdge := at_, lastUp := decide (0 < dc), suspended := decide (20000000 < dt) }
      match d with
      | 0 => f
      | 1 => step 1 ((f.causeOff 6).causeOff 7)
      | 5 => step (-1) ((f.causeOff 6).causeOff 7)
      | 2 => step 2 { f with hallSkip := true }
      | 4 => step (-2) { f with hallSkip := true }
      | _ => { f.causeOn 7 with sector := s, lastEdge := at_, suspended := true }

/-- The position of A and B in the counting sequence, A leading B counting up (R140). -/
def quadPhase (a b : Bool) : Nat := match a, b with
  | false, false => 0 | true, false => 1 | true, true => 2 | false, true => 3

/-- R140: an accepted quadrature state. -/
def Fb.quadEdge (f : Fb) (a b : Bool) : Fb :=
  let g := { f with qa := a, qb := b }
  let legal (h : Fb) : Fb :=
    let n := min 256 (h.legal + 1)
    let h := { h with legal := n }
    if n = 256 then h.causeOff 4 else h
  match (quadPhase a b + 4 - quadPhase f.qa f.qb) % 4 with
  | 0 => g
  | 1 => legal (g.count 1)
  | 3 => legal (g.count (-1))
  | _ => ({ g with legal := 0 }).causeOn 4

/-- R140: a rising Z. -/
def Fb.quadIndex (f : Fb) : Fb :=
  if !(f.flag 0) then f
  else
    let g := { f with refPos := f.c, events := setBit f.events 3, lastZ := some f.c }
    if f.flag 3 then
      match f.lastZ with
      | none => g
      | some z => if (f.c - z).natAbs = f.cfg.cpr then g.causeOff 5 else g.causeOn 5
    else g

/-- R134: a position set. -/
def Fb.setPos (f : Fb) (p : Int) : Fb :=
  { f with pAct := p, rem := 0, clipped := false, atMin := false, atMax := false, referenced := true }

/-- The number of half-step boundaries (2j - 1) pi / 4096 at or below the angle of (c, s), both at least 0,
among j from `lo + 1` to `lo + 2^k`: a binary search on exact comparisons (R136). -/
def atanGo (s c : Int) : Nat → Nat → Nat
  | 0, lo => lo
  | k + 1, lo =>
    let j := lo + 2 ^ k
    let n := 8 * (2 * j - 1)
    if c * sinScaled n ≤ s * sinScaled (16384 - n) then atanGo s c k j else atanGo s c k lo

/-- Steps of the first quadrant: round half up of atan2(s, c) x 4096 / (2 pi) for s, c at least 0. -/
def atanQuarter (s c : Int) : Nat :=
  let k := atanGo s c 10 0
  if k = 1023 ∧ c * sinScaled (8 * 2047) ≤ s * sinScaled (16384 - 8 * 2047) then 1024 else k

/-- R136: round half up of atan2(s1, c4) x 4096 / (2 pi), mod 4096; `z` stands where both are 0. -/
def atanSteps (s c : Int) (z : Nat) : Nat :=
  if s = 0 ∧ c = 0 then z % 4096
  else if 0 < c ∧ 0 ≤ s then atanQuarter s c % 4096
  else if c ≤ 0 ∧ 0 < s then (atanQuarter (-c) s + 1024) % 4096
  else if c < 0 ∧ s ≤ 0 then (atanQuarter (-s) (-c) + 2048) % 4096
  else (atanQuarter c (-s) + 3072) % 4096

/-- R136: a corrected sample. -/
def scCorrect (h : ScCh) (s c : Int) : Int × Int :=
  let s1 := s - h.offS
  let c3 := c - h.offC + Int.fdiv (s1 * h.phase + 0x2000) 16384
  (s1, Int.fdiv (c3 * h.gain + 0x2000) 16384)

/-- R138: the count of one check: fails and passes in a row, and whether the cause is live. -/
def checkStep (n : Nat) (bad live : Bool) (fails passes : Nat) : Bool × Nat × Nat :=
  if bad then
    let f := min n (fails + 1)
    (live || f == n, f, 0)
  else
    let p := min n (passes + 1)
    (live && p != n, 0, p)

/-- R138: either converter of a channel at its end code. -/
def scEnd (s c : Int) : Bool := decide (s ≤ -32768) || decide (32767 ≤ s) || decide (c ≤ -32768) || decide (32767 ≤ c)

/-- R136, R138: one sample of a channel at instant `t`; `z` as in `atanSteps`. -/
def ScCh.sample (h : ScCh) (s c : Int) (t z : Nat) : ScCh :=
  let (s1, c4) := scCorrect h s c
  let fine : Int := atanSteps s1 c4 z
  let d := (fine - h.steps % 4096 + 2048) % 4096 - 2048
  let amp := s1 * s1 + c4 * c4
  let nom : Int := ((h.nomAmp * h.nomAmp : Nat) : Int)
  let bads := [decide (1024 * amp < h.ampLo * nom), decide (h.ampHi * nom < 1024 * amp), decide (1536 ≤ d.natAbs),
    scEnd s c]
  let rs := (List.range 4).map
    (fun i => checkStep h.ampCount (bads.getD i false) (bit h.live i) (h.fails.getD i 0) (h.passes.getD i 0))
  let ratio := if h.nomAmp = 0 then 0 else min 65535 (1024 * amp / nom).toNat
  { h with
    steps := h.steps + d, stepsPrev := h.steps, tCur := t, tPrev := h.tCur
    live := maskOf (rs.map (·.1)), fails := rs.map (·.2.1), passes := rs.map (·.2.2)
    ampMin := if h.ampMax = 0 ∧ h.ampMin = 0 then ratio else min h.ampMin ratio, ampMax := max h.ampMax ratio }

/-- R135: the step count at instant `t`, between the last two samples. -/
def ScCh.at_ (h : ScCh) (t : Nat) : Int :=
  if t < h.tCur ∧ h.tPrev ≤ t then
    h.stepsPrev + rdivUp ((h.steps - h.stepsPrev) * ((t - h.tPrev : Nat) : Int)) 500
  else h.steps

/-- R137: one coefficient moved toward its estimate by at most `lim`. -/
def toward (x est lim : Int) : Int := x + clampI (-lim) lim (est - x)

/-- R137: an estimate (`e`) taken: applied in its mode, or refused as out of range. -/
def ScCh.estimate (h : ScCh) (e : Int × Int × Int × Int) : ScCh :=
  let (os, oc, g, p) := e
  let ok := os.natAbs ≤ 4096 && oc.natAbs ≤ 4096 && decide (12288 ≤ g) && decide (g ≤ 21845) && p.natAbs ≤ 2048
  if !ok then { h with calRange := true }
  else if h.calMode = 1 then { h with offS := os, offC := oc, gain := g, phase := p, calDone := true, calMode := 1 }
  else { h with
    offS := toward h.offS os 16, offC := toward h.offC oc 16, gain := toward h.gain g 8, phase := toward h.phase p 8 }

/-- R146: the output count for a source value. -/
def Eo.outOf (o : Eo) (x : Int) : Int :=
  let n := if o.cfg.den = 0 then 0 else Int.fdiv ((x - o.x0) * o.cfg.num) o.cfg.den
  o.out0 + (if bit o.cfg.flags 0 then -n else n)

/-- R146, R152: the levels of A, B and Z for the emitted count. -/
def Eo.levels (o : Eo) : Eo :=
  let m := (o.emitted % 4).toNat
  let z := if bit o.cfg.flags 2 then o.zMark
    else o.cfg.index != 0 && o.emitted % ((4 * o.cfg.index : Nat) : Int) == 0
  { o with a := m == 1 || m == 2, b := m == 2 || m == 3, z := z }

/-- R150: a rebase on a source value. -/
def Eo.rebaseOn (o : Eo) (x : Int) : Eo :=
  { o with x0 := x, out0 := o.emitted, target := o.emitted, backlog := [], rebase := false }

/-- R149: taking up to `cap` edges from the runs that wait: the edges taken (signed net) and what is left. -/
def takeEdges : Nat → List Int → Nat × Int × List Int
  | _, [] => (0, 0, [])
  | cap, r :: rs =>
    if r.natAbs ≤ cap then
      let (n, net, rest) := takeEdges (cap - r.natAbs) rs
      (r.natAbs + n, r + net, rest)
    else (cap, (if r < 0 then -(cap : Int) else cap), ((if r < 0 then r + cap else r - cap) :: rs))

/-- R149: runs kept within a total of `room` edges: those beyond it are dropped and counted. -/
def keepEdges : Nat → List Int → List Int × Nat
  | _, [] => ([], 0)
  | room, r :: rs =>
    let k := min room r.natAbs
    let (rest, n) := keepEdges (room - k) rs
    ((if k = 0 then rest else (if r < 0 then -(k : Int) else k) :: rest), (r.natAbs - k) + n)

/-- R149: a run joins the runs that wait; one of the same direction as the last joins it. -/
def addRun (b : List Int) (d : Int) : List Int :=
  if d = 0 then b
  else match b.getLast? with
    | some l => if (decide (0 < l)) = (decide (0 < d)) then b.dropLast ++ [l + d] else b ++ [d]
    | none => [d]

/-- R147-R149: a window: the target moves to the count of `x`; at most `cap` edges go out, edge i of n at
`base + 4 floor(grid i / n)` ns. -/
def Eo.window (o : Eo) (x : Int) (cap grid base : Nat) : Eo :=
  let tgt := o.outOf x
  let runs := addRun o.backlog (tgt - o.target)
  let (n, net, rest) := takeEdges cap runs
  let (kept, lost) := keepEdges 4096 rest
  let limited := !kept.isEmpty
  let ev := if limited then setBit o.events 0 else o.events
  ({ o with
    target := tgt, emitted := o.emitted + net, backlog := kept, rateLimited := limited
    dropped := sat32 (o.dropped + lost), droppedSeen := o.droppedSeen || lost != 0
    events := if lost = 0 then ev else setBit ev 1
    zMark := o.zMark && n == 0
    sched := (List.range n).map (fun i => base + 4 * (grid * i / n)) }).levels

/-- R151: a window without a valid source value: no edges, the next valid value rebases. -/
def Eo.gap (o : Eo) : Eo :=
  { o with rebase := true, srcGap := true, events := setBit o.events 2, sched := [] }

end Sys2Proof.Machine
end

