-- ==== Sys2Proof/Machine/StateCore.lean ====
section
/-! DEFINITION. The state of the stroke sequencer, of the Novloth rings, tags and sessions, and of the
compartments, blocks and firmware images (R8-R32, R33-R67, R370-R393). -/

namespace Sys2Proof.Machine

/-- The five phases of a stroke, in their order (R10). -/
inductive Phase where
  | beacon | suction | lift | discharge | slack
  deriving DecidableEq, Repr

/-- A stroke configuration as `STROKE_CONFIGURE` carries it (R32). -/
structure StkCfg where
  code         : Nat
  cycle        : Nat
  defaultPhases : Bool
  sucEnd       : Nat
  latch        : Nat
  discharge    : Nat
  slack        : Nat
  deriving DecidableEq, Repr

/-- The factory setting of R30: 62.5 us, 8 strokes per cell cycle, the phases of R10. -/
def StkCfg.factory : StkCfg := ⟨1, 8, true, 34000, 34000, 46000, 58000⟩

/-- The stroke sequencer (R8-R32). -/
structure Stk where
  /-- R9: the 64-bit stroke number. -/
  number     : Nat
  cfg        : StkCfg
  /-- R32: a configuration accepted and waiting for the next stroke boundary. -/
  pendCfg    : Option StkCfg
  /-- R30 `cycle_phase`. -/
  cyclePhase : Nat
  phase      : Phase
  /-- R27: 0 free, 1 locked. -/
  lockMode   : Nat
  pullPpm    : Nat
  /-- R28: 0 FREE, 1 PULLING, 2 LOCKED. -/
  lockState  : Nat
  inBand     : Nat
  phaseErr   : Int
  /-- Length in ns of the stroke in progress, pull included (R27). -/
  lenNow     : Nat
  liftUsed   : Nat
  liftPeak   : Nat
  localOvr   : Nat
  segOvr     : List Nat
  /-- R24: consecutive overrun strokes per segment and per stage. -/
  segRun     : List Nat
  stgRun     : List Nat
  /-- Whether the segment or stage has overrun in this stroke. -/
  segNow     : List Bool
  stgNow     : List Bool
  /-- R24: segments and stages whose quick stop is due at the next latch point. -/
  segDue     : List Bool
  stgDue     : List Bool
  /-- R26: segments whose lift results are complete in this stroke. -/
  segDone    : List Bool
  deriving DecidableEq, Repr

def Stk.reset : Stk :=
  { number := 0, cfg := StkCfg.factory, pendCfg := none, cyclePhase := 0, phase := .beacon, lockMode := 0
    pullPpm := 100, lockState := 0, inBand := 0, phaseErr := 0, lenNow := 62500, liftUsed := 0, liftPeak := 0
    localOvr := 0, segOvr := List.replicate 16 0, segRun := List.replicate 16 0, stgRun := List.replicate 8 0
    segNow := List.replicate 16 false, stgNow := List.replicate 8 false
    segDue := List.replicate 16 false, stgDue := List.replicate 8 false, segDone := List.replicate 16 false }

/-- A ring pair (R40-R45, R50, R51, R53). -/
structure Ring where
  /-- 0 DISABLED, 1 ACTIVE, 2 STALLED, 3 ERROR. -/
  state   : Nat
  cls     : Nat
  port    : Nat
  /-- 0 host memory, 1 device SRAM. -/
  loc     : Nat
  sqBase  : Nat
  cqBase  : Nat
  sqSlots : Nat
  cqSlots : Nat
  sqHead  : Nat
  sqTail  : Nat
  cqTail  : Nat
  cqHead  : Nat
  /-- Slots of the completion ring that are not free (R51). -/
  cqUsed  : Nat
  /-- R43: the phase bit of the current pass. -/
  phase   : Bool
  /-- R44: the sequence expected next. -/
  expSeq  : Nat
  starved : Nat
  cqStall : Nat
  /-- Whether the ring was stalled, or its completions waited, in this stroke (R50, R51). -/
  starvedNow : Bool
  stalledNow : Bool
  /-- R65, R66: nothing further is fetched once a delete or close is decoded. -/
  closing : Bool
  /-- R397: the port's control ring pair. -/
  control : Bool
  /-- R41: grants to the port since this ring was last granted while it waited. -/
  waited  : Nat
  /-- R45, R413: `EV_RING_ERROR` pending. -/
  evError : Bool
  /-- R397: a delete of the control ring pair waits for the commands fetched from it. -/
  dropping : Bool
  deriving DecidableEq, Repr

def Ring.reset : Ring := ⟨0, 0, 0, 0, 0, 0, 0, 0, 0, 0, 0, 0, 0, true, 0, 0, 0, false, false, false, false, 0, false, false⟩

/-- The pool a command's tag comes from (R49). `none`: a command given directly, without a ring's tag. -/
inductive Pool where
  | none | reserve | shared | urgent
  /-- R65: its port was lost, and its tag with it. -/
  | lost
  deriving DecidableEq, Repr

/-- The life of a command in flight (R52). `byRef` and `fence` wait in DECODE; `hold` is RUN. -/
inductive Stage where
  | fence | byRef | pending | hold | post
  deriving DecidableEq, Repr

/-- The event a command in RUN waits for before it completes. -/
inductive Hold where
  | none
  | segStart (seg : Nat)
  | segStop (seg : Nat)
  | stage (n : Nat)
  | home (axis : Nat)
  /-- R264: the node's acknowledge of an axis's law. -/
  | law (axis : Nat)
  /-- R299: the claim of a compartment's host. -/
  | zone (comp : Nat)
  | block (b : Nat)
  | migrate (comp : Nat)
  | service (seg : Nat)
  | canStop (ch : Nat)
  | ringDelete (ring : Nat)
  | close (port : Nat)
  | stroke
  /-- The next stroke boundary (R32, R445). -/
  | boundary
  /-- A queued move of an axis (0x01) or a virtual master (0x12) that has not started (R161). -/
  | move (cls idx : Nat)
  /-- A relation that waits for `engage_at` (R169, R176). -/
  | rel (axis : Nat)
  deriving DecidableEq, Repr

/-- A command in flight: from the moment the scanner takes it until its completion entry is written. -/
structure Flight where
  cmd    : Cmd
  /-- The opcode, R33 `area` x 256 + `operation`. -/
  op     : Nat
  pool   : Pool
  stage  : Stage
  hold   : Hold
  status : Nat
  detail : Nat
  result : Bytes
  /-- R46 `effective_stroke`. -/
  eff    : Nat
  /-- R357: bytes for the host's buffer, written before the completion entry. -/
  data   : Option (Nat × Bytes)
  /-- Its place among all packets taken (R48). -/
  order  : Nat
  deriving DecidableEq, Repr

/-- An entry of the `SESSION_OPEN` reply (R64). -/
structure Undelivered where
  ring   : Nat
  tag    : Nat
  status : Nat
  detail : Nat
  deriving DecidableEq, Repr

/-- The session of a port (R62, R64). -/
structure Session where
  isOpen : Bool
  client : Nat
  undelivered : List Undelivered
  deriving DecidableEq, Repr

/-- Rings, tags and sessions (R40-R53, R62-R67). -/
structure Nov where
  rings   : List Ring
  flights : List Flight
  /-- R49: the shared cap of each port. -/
  caps    : List Nat
  sessions : List Session
  /-- R41: the port served last, and per port and class the ring served last. -/
  lastPort : Nat
  lastRing : List Nat
  /-- Packets taken so far. -/
  taken    : Nat
  deriving DecidableEq, Repr

def Nov.reset : Nov :=
  { rings := List.replicate 128 Ring.reset, flights := [], caps := List.replicate 4 384
    sessions := List.replicate 4 ⟨false, 0, []⟩, lastPort := 3, lastRing := List.replicate 16 127
    taken := 0 }

/-- A compartment (R372, R376, R378, R390). -/
structure Comp where
  /-- 0 NONE, 1 ACTIVE, 2 ORPHANED, 3 MIGRATING. -/
  state     : Nat
  owner     : Nat
  orphan    : Nat
  observers : Nat
  stoppers  : Nat
  /-- The slot of the image the compartment runs. -/
  slot      : Nat
  orphanStroke : Nat
  migHold   : Nat
  events    : Nat
  /-- R378: the reaction of a lost owner waits for the next latch point. -/
  orphanDue : Bool
  /-- R387: the feed hold of a migration that has ended waits for the planning point at which it is resumed. -/
  resumeDue : Bool
  deriving DecidableEq, Repr

def Comp.reset : Comp := ⟨0, 0, 0, 0, 0, 0, 0, 0, 0, false, false⟩

/-- Where a migration stands (R386, R387). -/
inductive MigPhase where
  | quiesce | snapshot | held | again
  deriving DecidableEq, Repr

/-- The one migration that may run (R386). -/
structure Migration where
  comp     : Nat
  /-- The slot moved onto. -/
  toSlot   : Nat
  hold     : Bool
  quiesceMs : Nat
  phase    : MigPhase
  held     : Nat
  /-- Whether the feed hold in force on the compartment is the migration's own. -/
  ownHold  : Bool
  /-- The state of the compartment before it. -/
  was      : Nat
  deriving DecidableEq, Repr

/-- Compartments, resources and blocks (R370-R383). -/
structure Cps where
  comps   : List Comp
  cellOwner : Nat
  standby : Option Nat
  /-- R373: per class, in the order of the table, the owning compartment of each index. -/
  owners  : List (List (Option Nat))
  /-- R380, R392: 0 RUNNING, 1 in reset, 2 reset_pending_clock, for the 56 blocks. -/
  blocks  : List Nat
  migration : Option Migration
  deriving DecidableEq, Repr

/-- The number of indices of each class, in the order of the table of R373. -/
def resourceCounts : List Nat := [128, 8, 16, 8, 64, 128, 4, 32, 16, 16, 128, 8, 4, 8, 16, 16, 256, 64, 16, 16, 4, 4]

def Cps.reset : Cps :=
  { comps := List.replicate 8 Comp.reset, cellOwner := 0, standby := none
    owners := resourceCounts.map (fun n => List.replicate n none), blocks := List.replicate 56 0, migration := none }

/-- A firmware slot (R384, R385). -/
structure FwSlot where
  /-- 0 none or invalid, 1 open, 2 valid. -/
  state  : Nat
  length : Nat
  /-- The bytes written, by offset; `none` where nothing has been written. -/
  words  : List (Nat × Byte)
  series : Nat
  build  : Nat
  deriving DecidableEq, Repr

/-- The firmware images (R384-R389). -/
structure Fw where
  active : Nat
  boot   : Nat
  slots  : List FwSlot
  deriving DecidableEq, Repr

def Fw.reset : Fw := { active := 0, boot := 0, slots := [⟨2, 0, [], 0, 0⟩, ⟨0, 0, [], 0, 0⟩] }

end Sys2Proof.Machine
end

