-- ==== Sys2Proof/Machine/StateIo.lean ====
section
/-! DEFINITION. The state of the digital inputs and outputs and of the CAN FD channels (R421-R442), with the
operations on it that need nothing else. -/

namespace Sys2Proof.Machine

/-- A tag of a DI's tag ring (R430). -/
structure DiTag where
  at_   : Nat
  level : Bool
  deriving DecidableEq, Repr

/-- A digital input (R421-R425, R430). -/
structure Di where
  /-- R421: 1 or 3. -/
  diType  : Nat
  edgeEvents : Nat
  cntN    : Nat
  debounce : Nat
  level   : Bool
  raw     : Bool
  /-- R422: 0 debounce, 1 counter. -/
  mode    : Nat
  /-- R422: the counter of counter mode. -/
  c       : Nat
  test    : Bool
  lostSeen : Bool
  edges   : Nat
  tagsLost : Nat
  events  : Nat
  /-- Newest first, at most 8. -/
  tags    : List DiTag
  /-- Edges that no refresh has shown yet. -/
  fresh   : Nat
  deriving DecidableEq, Repr

def Di.reset : Di := ⟨1, 0, 0, 0, false, false, 1, 0, false, false, 0, 0, 0, [], 0⟩

/-- A digital output (R426-R428, R430). -/
structure Do where
  restart : Bool
  offTest : Bool
  command : Bool
  on      : Bool
  /-- R427: the live causes. -/
  overload : Bool
  openWire : Bool
  overtemp : Bool
  /-- The overload holds the output off. -/
  held    : Bool
  supplyLow : Bool
  seen    : Nat
  retrying : Bool
  current : Int
  retries : Nat
  events  : Nat
  deriving DecidableEq, Repr

def Do.reset : Do := ⟨false, false, false, false, false, false, false, false, false, 0, false, 0, 0, 0⟩

/-- The field supply and the digital channels (R424, R429, R430). -/
structure Io where
  good    : Bool
  dip     : Bool
  recovering : Bool
  startup : Bool
  vfield  : Int
  vdo     : Nat
  dips    : Nat
  recoverMs : Nat
  dis     : List Di
  dos     : List Do
  faultAny : Bool
  sumEvents : Nat
  deriving DecidableEq, Repr

def Io.reset : Io :=
  { good := false, dip := false, recovering := false, startup := true, vfield := 0, vdo := 0, dips := 0
    recoverMs := 20, dis := List.replicate 32 Di.reset, dos := List.replicate 16 Do.reset
    faultAny := false, sumEvents := 0 }

/-- R424: whether a DI runs in counter mode. -/
def Io.counterMode (io : Io) (d : Di) : Bool := io.startup || io.recovering || d.test

/-- R424, R425: the filter mode of every DI is chosen again; a change restarts the counter. -/
def Io.modes (io : Io) : Io :=
  { io with dis := io.dis.map (fun (d : Di) =>
      let m := b2n (io.counterMode d)
      if m = d.mode then d else { d with mode := m, c := 0 }) }

/-- R425: `EV_DI_SUPPLY` on every DI. -/
def Io.supplyEvent (io : Io) : Io := { io with dis := io.dis.map (fun (d : Di) => { d with events := d.events ||| 4 }) }

/-- R422, R423, R430, R431: an accepted edge to `lv` whose tag is the instant `t`. -/
def Di.accept (d : Di) (lv : Bool) (t : Nat) : Di :=
  let lost := decide (8 ≤ d.fresh)
  { d with level := lv, raw := lv, c := 0, edges := (d.edges + 1) % 2 ^ 32, tags := (⟨t, lv⟩ :: d.tags).take 8
           fresh := min (d.fresh + 1) 8, tagsLost := if lost then sat32 (d.tagsLost + 1) else d.tagsLost
           lostSeen := d.lostSeen || lost
           events := d.events ||| (if bit d.edgeEvents (if lv then 0 else 1) then 1 else 0) ||| (if lost then 2 else 0) }

/-- R427: whether a cause of the output is live. -/
def Do.live (d : Do) : Bool := d.overload || d.openWire || d.overtemp

/-- R426-R428: the output follows its command where nothing holds it off. -/
def Do.follow (d : Do) : Do := { d with on := d.command && !d.held && !d.overtemp }

/-- R429: the summary bit, and its event at a rise. -/
def Io.summary (io : Io) : Io :=
  let a := io.dos.any Do.live
  { io with faultAny := a, sumEvents := if a && !io.faultAny then io.sumEvents ||| 1 else io.sumEvents }

/-- A change of one output, with the summary. -/
def Io.setDo (io : Io) (n : Nat) (f : Do → Do) : Io := ({ io with dos := upd io.dos n f }).summary

/-- A CAN frame with its stamp and the filter that took it (R436, R437). -/
structure CanFrame where
  id     : Nat
  ext    : Bool
  remote : Bool
  fd     : Bool
  brs    : Bool
  esi    : Bool
  dlc    : Nat
  data   : Bytes
  stamp  : Nat
  filter : Nat
  deriving DecidableEq, Repr

/-- A transmit buffer (R434, R435). `state`: 0 free, 1 pending, 2 transmitting, 3 abort pending. -/
structure CanTx where
  state   : Nat
  result  : Nat
  attempts : Nat
  stamp   : Nat
  frame   : Option CanFrame
  notify  : Bool
  deriving DecidableEq, Repr

def CanTx.reset : CanTx := ⟨0, 0, 0, 0, none, false⟩

/-- A receive buffer (R438). -/
structure CanRx where
  frame : Option CanFrame
  count : Nat
  lost  : Nat
  fresh : Bool
  /-- The stroke of the refresh that last wrote the mirror. -/
  stroke : Nat
  deriving DecidableEq, Repr

def CanRx.reset : CanRx := ⟨none, 0, 0, false, 0⟩

/-- A receive FIFO (R436). -/
structure CanFifo where
  frames  : List CanFrame
  peak    : Nat
  dropped : Nat
  deriving DecidableEq, Repr

/-- A filter entry (R436, R442). -/
structure CanFilter where
  id      : Nat
  mask    : Nat
  type    : Nat
  formats : Nat
  target  : Nat
  notify  : Bool
  deriving DecidableEq, Repr

/-- A `CAN_CONFIGURE` payload (R433, R442). -/
structure CanCfg where
  mode    : Nat
  flags   : Nat
  tdcOffset : Nat
  noMatch : Nat
  nBrp    : Nat
  nSjw    : Nat
  nTseg1  : Nat
  nTseg2  : Nat
  dBrp    : Nat
  dTseg1  : Nat
  dTseg2  : Nat
  dSjw    : Nat
  rxDelay : Nat
  high0   : Nat
  high1   : Nat
  deriving DecidableEq, Repr

def CanCfg.reset : CanCfg := ⟨0, 0, 0, 0, 0, 0, 0, 0, 0, 0, 0, 0, 0, 0, 0⟩

/-- A CAN channel (R432-R441). `state`: 0 STOPPED, 1 error-active, 2 error-passive, 3 bus-off, 4 recovering. -/
structure Can where
  cfg    : CanCfg
  state  : Nat
  tec    : Nat
  recv   : Nat
  txOk   : Nat
  rxOk   : Nat
  errors : Nat
  busOffs : Nat
  rxLost : Nat
  events : Nat
  tdcValue : Nat
  tdcRange : Bool
  lastError : Nat
  errorData : Bool
  filters : List CanFilter
  tx     : List CanTx
  rx     : List CanRx
  fifos  : List CanFifo
  /-- R439: a `CAN_STOP` waits for the frame on the bus. -/
  stopping : Bool
  deriving DecidableEq, Repr

def Can.reset : Can :=
  { cfg := CanCfg.reset, state := 0, tec := 0, recv := 0, txOk := 0, rxOk := 0, errors := 0, busOffs := 0, rxLost := 0
    events := 0, tdcValue := 0, tdcRange := false, lastError := 0, errorData := false
    filters := List.replicate 128 ⟨0, 0, 0, 0, 0, false⟩, tx := List.replicate 32 CanTx.reset
    rx := List.replicate 64 CanRx.reset, fifos := List.replicate 2 ⟨[], 0, 0⟩, stopping := false }

/-- R441: a new `can_state`; every change asserts `EV_CAN_STATE`. -/
def Can.setState (c : Can) (s : Nat) : Can :=
  if c.state = s then c else { c with state := s, events := c.events ||| 16 }

/-- R432: error-active or error-passive by the counters. -/
def Can.confine (c : Can) : Can :=
  if c.state = 1 ∨ c.state = 2 then c.setState (if c.tec > 127 ∨ c.recv > 127 then 2 else 1) else c

/-- R442: the data bytes of a DLC. -/
def dlcLen (dlc : Nat) : Nat := [0, 1, 2, 3, 4, 5, 6, 7, 8, 12, 16, 20, 24, 32, 48, 64].getD dlc 64

/-- R434: the order in which frames win arbitration, the least first. -/
def CanFrame.key (f : CanFrame) : Nat :=
  if f.ext then (((f.id / 2 ^ 18) * 4 + 3) * 2 ^ 18 + f.id % 2 ^ 18) * 2 + b2n f.remote
  else ((f.id * 2 + b2n f.remote) * 2) * 2 ^ 19

/-- R434: the pending buffer that is sent next. -/
def Can.next (c : Can) : Option Nat :=
  let pend := (List.range 32).filter (fun n => match c.tx[n]? with | some b => b.state == 1 | none => false)
  let key (n : Nat) : Nat := match c.tx[n]? with
    | some b => (match b.frame with | some f => f.key | none => 0)
    | none => 0
  if bit c.cfg.flags 1 then pend.head?
  else pend.foldl (fun (m : Option Nat) (n : Nat) =>
    match m with
    | some k => if key n < key k then some n else m
    | none => some n) none

/-- The buffer whose frame is on the bus. -/
def Can.onBus (c : Can) : Option Nat :=
  (List.range 32).find? (fun n => match c.tx[n]? with | some b => b.state == 2 || b.state == 3 | none => false)

/-- R434: whether the channel sends frames now. -/
def Can.sends (c : Can) : Bool := (c.state == 1 || c.state == 2) && (c.cfg.mode == 0 || c.cfg.mode == 3)

/-- R434: a start of frame of the buffer chosen, where none is on the bus. -/
def Can.sof (c : Can) : Can :=
  if c.sends && c.onBus.isNone && !c.stopping then
    match c.next with
    | some n => { c with tx := upd c.tx n (fun (b : CanTx) => { b with state := 2 }) }
    | none => c
  else c

/-- R435: a buffer ends with a result; `notify` asserts the event. -/
def Can.finish (c : Can) (n : Nat) (result : Nat) : Can :=
  match c.tx[n]? with
  | some b =>
    { c with tx := upd c.tx n (fun (b : CanTx) => { b with state := 0, result := result })
             events := if b.notify then c.events ||| 8 else c.events }
  | none => c

/-- R439: every pending buffer reports aborted. -/
def Can.abortAll (c : Can) : Can :=
  (List.range 32).foldl (fun (c : Can) (n : Nat) =>
    match c.tx[n]? with
    | some b => if b.state = 0 then c else c.finish n 2
    | none => c) c

/-- R439: the channel is `STOPPED`. -/
def Can.stopped (c : Can) : Can := { c.abortAll.setState 0 with stopping := false }

/-- R439: a stop takes effect; a frame on the bus is finished first. -/
def Can.stop (c : Can) : Can := if c.onBus.isSome then { c with stopping := true } else c.stopped

/-- An error is counted and kept (R440). -/
def Can.error (c : Can) (kind : Nat) (dataPhase : Bool) : Can :=
  { c with errors := sat32 (c.errors + 1), lastError := kind % 8, errorData := dataPhase }

/-- How a transmit attempt ends (R434). -/
def Can.txDone (c : Can) (res : Nat) (dataPhase : Bool) (stamp : Nat) (delay : Option Nat) : Can :=
  let c := c.sof
  match c.onBus with
  | none => c
  | some n =>
    match c.tx[n]? with
    | none => c
    | some b =>
      let c := { c with tx := upd c.tx n (fun (b : CanTx) => { b with attempts := sat16 (b.attempts + 1) }) }
      let c := match delay with
        | some d =>
          if bit c.cfg.flags 2 then { c with tdcValue := min d 127, tdcRange := c.tdcRange || decide (127 < d + c.cfg.tdcOffset) }
          else c
        | none => c
      let c :=
        if res = 0 then
          let c := { c with txOk := sat32 (c.txOk + 1), tec := c.tec - 1
                            tx := upd c.tx n (fun (b : CanTx) => { b with stamp := stamp }) }
          (c.finish n 1).confine
        else
          let c := if res = 1 then c
            else
              let passiveAck := decide (res = 5) && c.state == 2
              ({ c.error (res - 2) dataPhase with tec := if passiveAck then c.tec else min (c.tec + 8) 511 }).confine
          if b.state = 3 then c.finish n 2
          else { c with tx := upd c.tx n (fun (b : CanTx) => { b with state := 1 }) }
      if c.stopping then c.stopped else c

/-- R436: the filter that takes a frame, and its target; `0xFF` rejects. -/
def Can.match_ (c : Can) (f : CanFrame) : Nat × Nat × Bool :=
  let hit (e : CanFilter) : Bool :=
    (e.type == 1) == f.ext && (f.id &&& e.mask) == (e.id &&& e.mask) && bit e.formats (if f.fd then 1 else 0)
  match (List.range 128).find? (fun n => match c.filters[n]? with | some e => hit e | none => false) with
  | some n =>
    match c.filters[n]? with
    | some e => (n, e.target, e.notify)
    | none => (n, 0xFF, false)
  | none => (0xFFFF, if c.cfg.noMatch = 1 then 0x40 else if c.cfg.noMatch = 2 then 0x41 else 0xFF, false)

/-- R436: a frame into FIFO `k`. -/
def Can.fifoPut (c : Can) (k : Nat) (f : CanFrame) : Can :=
  match c.fifos[k]? with
  | none => c
  | some q =>
    if q.frames.length ≥ 64 then
      { c with fifos := upd c.fifos k (fun (q : CanFifo) => { q with dropped := sat32 (q.dropped + 1) })
               rxLost := sat32 (c.rxLost + 1), events := c.events ||| 4 }
    else
      let n := q.frames.length + 1
      let high := if k = 0 then c.cfg.high0 else c.cfg.high1
      { c with fifos := upd c.fifos k (fun (q : CanFifo) => { q with frames := q.frames ++ [f], peak := max q.peak n })
               rxOk := sat32 (c.rxOk + 1), events := if n = high then c.events ||| 2 else c.events }

/-- R432: bus monitoring and restricted operation leave the error counters alone (PRESUMED: ISO 11898-1, log entry 178). -/
def Can.counts (c : Can) : Bool := c.cfg.mode == 0 || c.cfg.mode == 3

/-- R436-R438: a valid received frame; `back` is what a receive error counter above 127 goes back to. -/
def Can.receive (c : Can) (f : CanFrame) (back : Nat) : Can :=
  let (flt, target, notify) := c.match_ f
  let f := { f with filter := flt }
  let c := if c.counts then { c with recv := if c.recv > 127 then back else c.recv - 1 } else c
  let c := c.confine
  if target < 64 then
    match c.rx[target]? with
    | none => c
    | some b =>
      { c with rx := upd c.rx target (fun (b : CanRx) =>
                 { b with frame := some f, count := (b.count + 1) % 65536
                          lost := if b.fresh then sat16 (b.lost + 1) else b.lost, fresh := true })
               rxLost := if b.fresh then sat32 (c.rxLost + 1) else c.rxLost
               rxOk := sat32 (c.rxOk + 1), events := if notify then c.events ||| 1 else c.events }
  else if target = 0x40 then c.fifoPut 0 f
  else if target = 0x41 then c.fifoPut 1 f
  else c

/-- R432, R441: a bus error seen while not transmitting: the receive error counter rises by 1, or by 8 for a dominant bit
after the error flag (PRESUMED: ISO 11898-1, log entry 178). -/
def Can.rxError (c : Can) (kind : Nat) (dataPhase dominant : Bool) : Can :=
  let c := c.error kind dataPhase
  ({ c with recv := if c.counts then min (c.recv + if dominant then 8 else 1) 511 else c.recv } : Can).confine

/-- R439: the recovery sequence is complete. -/
def Can.recovered (c : Can) : Can := if c.state = 4 then { c.setState 1 with tec := 0, recv := 0 } else c

/-- R432, R439: bus-off, with the recovery at once where `auto_recover` is set. -/
def Can.busOff (c : Can) : Can :=
  let c := { c.setState 3 with busOffs := sat32 (c.busOffs + 1)
                               tx := c.tx.map (fun (b : CanTx) =>
                                 if b.state = 2 then { b with state := 1 } else if b.state = 3 then { b with state := 0, result := 2 } else b) }
  if bit c.cfg.flags 0 then c.setState 4 else c

/-- The 92 bytes of a mirror from offset 0x04 on (R440). -/
def CanFrame.mirror (f : CanFrame) (count lost : Nat) : Bytes :=
  e32 (f.id + 2 ^ 29 * b2n f.ext + 2 ^ 30 * b2n f.remote) ++ e8 f.dlc ++ e8 (b2n f.fd + 2 * b2n f.brs + 4 * b2n f.esi) ++
    e16 count ++ e16 lost ++ e16 f.filter ++ e32 (f.stamp % 1000000000) ++ e32 (f.stamp / 1000000000) ++ zeros 8 ++
    slice f.data 0 64

/-- R433, R442: the first field of a `CAN_CONFIGURE` that is out of range. -/
def canCfgFault (p : Bytes) : Option Nat :=
  let mode := u8 p 0
  let ndur := u8 p 4 * (1 + u16 p 6 + u8 p 8)
  let ddur := u8 p 10 * (1 + u8 p 11 + u8 p 12)
  if mode > 3 then some 0
  else if u8 p 2 > 127 then some 2
  else if u8 p 3 > 2 then some 3
  else if u8 p 4 < 1 ∨ u8 p 4 > 32 then some 4
  else if u8 p 5 < 1 ∨ u8 p 5 > u8 p 8 then some 5
  else if u16 p 6 < 2 ∨ u16 p 6 > 256 then some 6
  else if u8 p 8 < 1 ∨ u8 p 8 > 128 then some 8
  else if ndur < 80 then some 4
  else if u8 p 10 < 1 ∨ u8 p 10 > 32 then some 10
  else if u8 p 11 < 1 ∨ u8 p 11 > 32 then some 11
  else if u8 p 12 < 1 ∨ u8 p 12 > 16 then some 12
  else if u8 p 13 < 1 ∨ u8 p 13 > u8 p 12 then some 13
  else if ddur < 10 ∨ ndur < ddur then some 10
  else if u16 p 14 > 1000 then some 14
  else if u8 p 16 < 1 ∨ u8 p 16 > 64 then some 16
  else if u8 p 17 < 1 ∨ u8 p 17 > 64 then some 17
  else none

/-- The configuration a payload carries. -/
def canCfgOf (p : Bytes) : CanCfg :=
  ⟨u8 p 0, u8 p 1, u8 p 2, u8 p 3, u8 p 4, u8 p 5, u16 p 6, u8 p 8, u8 p 10, u8 p 11, u8 p 12, u8 p 13, u16 p 14,
   u8 p 16, u8 p 17⟩

end Sys2Proof.Machine
end

