-- ==== Sys2Proof/Machine/StatePort.lean ====
section
/-! DEFINITION. The state of the four host ports and of the event controller (R394-R420), with the operations
on it that need nothing else. -/

namespace Sys2Proof.Machine

/-- The route of an event source (R415). -/
structure Route where
  on   : Bool
  port : Nat
  vec  : Nat
  prio : Nat
  deriving DecidableEq, Repr

/-- An event source (R413, R415, R416): its route, whether its pending event has been taken, and the port at
which it is in service. -/
structure Src where
  route : Route
  pend  : Bool
  serv  : Option Nat
  deriving DecidableEq, Repr

def Src.reset : Src := ⟨⟨false, 0, 0, 0⟩, false, none⟩

/-- A vector of a port (R416, R418, R419). -/
structure Vec where
  count   : Nat
  timer   : Bool
  evCount : Nat
  evTime  : Nat
  parked  : Bool
  /-- R416: the message condition is met and held. -/
  held    : Bool
  /-- R419: the MSI-X table entry, without its Mask bit. -/
  addr    : Nat
  data    : Nat
  mask    : Bool
  /-- R419: the vector's pending bit. -/
  pba     : Bool
  /-- R408: an `EVENT` datagram went out and is sent again while a source stays pending. -/
  again   : Bool
  deriving DecidableEq, Repr

def Vec.reset : Vec := ⟨0, false, 1, 0, false, false, 0, 0, true, false, false⟩

/-- The transport session of H2 (R404-R406). -/
structure H2Session where
  id      : Nat
  key     : Bytes
  source  : Nat
  /-- R405: the highest accepted sequence, and bit k for the acceptance of that value minus k. -/
  high    : Nat
  window  : Nat
  /-- The next sequence number of the device. -/
  next    : Nat
  deriving DecidableEq, Repr

/-- R402, R403, R407: what H2 alone holds. -/
structure H2 where
  session : Option H2Session
  /-- R404: the last 16 accepted nonces, newest first. -/
  nonces  : List Bytes
  /-- R420: the `H2_CONFIGURE` payload in force. -/
  cfg     : Bytes
  period  : Nat
  ranges  : List (Nat × Nat)
  deriving DecidableEq, Repr

/-- A host port (R394, R397, R410, R414, R420). -/
structure Port where
  linkUp  : Bool
  /-- R396: the link left L0 and `link_loss_ms` runs. -/
  waiting : Bool
  /-- R396: D3hot. -/
  d3      : Bool
  speed   : Nat
  width   : Nat
  losses  : Nat
  authFail : Nat
  duplicates : Nat
  naks    : Nat
  badAccess : Nat
  outlookSkip : Nat
  sessionStroke : Nat
  events  : Nat
  timeoutMs : Nat
  retxUs  : Nat
  repeatMs : Nat
  sqBase  : Nat
  cqBase  : Nat
  ctlSize : Nat
  ctlStatus : Nat
  ringWin : Nat
  /-- R411: the issued vectors and the masked vectors of H3. -/
  irqVec  : Nat
  irqMask : Nat
  /-- R419: MSI-X Enable, Bus Master Enable, Function Mask. -/
  msixOn  : Bool
  master  : Bool
  fmask   : Bool
  vecs    : List Vec
  /-- R410: `last_write` and the discarded writes of the status word. -/
  lastWrite : Nat
  discarded : Nat
  deriving DecidableEq, Repr

/-- A port right after reset; `link_up` reads 1 on H3 (R414), and the timeouts are the defaults of R396, R406, R408
and R410. -/
def Port.reset (n : Nat) : Port :=
  { linkUp := n == 3, waiting := false, d3 := false, speed := 0, width := 0, losses := 0, authFail := 0
    duplicates := 0, naks := 0, badAccess := 0, outlookSkip := 0, sessionStroke := 0, events := 0
    timeoutMs := [10, 10, 500, 100].getD n 0, retxUs := if n = 2 then 2000 else 0, repeatMs := if n = 2 then 10 else 0
    sqBase := 0, cqBase := 0, ctlSize := 0, ctlStatus := 0, ringWin := 0, irqVec := 0, irqMask := 2 ^ 64 - 1
    msixOn := false, master := false, fmask := false, vecs := List.replicate 64 Vec.reset, lastWrite := 1, discarded := 0 }

/-- The ports and the event controller. -/
structure Hp where
  ports : List Port
  h2    : H2
  srcs  : List Src
  deriving DecidableEq, Repr

/-- R402, R420: the factory settings the spec states of H2: the UDP port 43110. -/
def h2Default : Bytes := [1, 0] ++ e16 43110 ++ zeros 60

def Hp.reset : Hp :=
  { ports := (List.range 4).map Port.reset, h2 := ⟨none, [], h2Default, 0, []⟩, srcs := List.replicate 1024 Src.reset }

/-- What the block sends in a step. -/
inductive Out where
  /-- A Finaval frame on a segment. -/
  | frame (seg : Nat) (bytes : Bytes)
  /-- A datagram on H2. -/
  | dgram (bytes : Bytes)
  /-- What an SPI transaction returns. -/
  | spi (bytes : Bytes)
  /-- What a register read returns. -/
  | reg (value : Nat)
  /-- R419: an MSI-X memory write. -/
  | msix (port addr data : Nat)
  /-- A write to host memory. -/
  | host (port addr : Nat) (bytes : Bytes)
  /-- A CAN frame, a PTP message or another signal named by the row. -/
  | ptp (kind seq : Nat)
  deriving DecidableEq, Repr

/-- A change of one port. -/
def Hp.port (h : Hp) (n : Nat) (f : Port → Port) : Hp := { h with ports := upd h.ports n f }
/-- A change of one source. -/
def Hp.src (h : Hp) (n : Nat) (f : Src → Src) : Hp := { h with srcs := upd h.srcs n f }
/-- A change of one vector of a port. -/
def Hp.vec (h : Hp) (p v : Nat) (f : Vec → Vec) : Hp :=
  h.port p (fun (q : Port) => { q with vecs := upd q.vecs v f })

/-- R414: an ignored access is counted and asserts `EV_PORT_ACCESS`. -/
def Port.bad (p : Port) : Port := { p with badAccess := sat32 (p.badAccess + 1), events := p.events ||| 8 }
/-- R414: an authentication failure is counted and asserts `EV_PORT_AUTH`. -/
def Port.auth (p : Port) : Port := { p with authFail := sat32 (p.authFail + 1), events := p.events ||| 4 }
/-- R414: a new link state; a change asserts `EV_PORT_LINK`. -/
def Port.link (p : Port) (up : Bool) : Port :=
  if p.linkUp = up then p else { p with linkUp := up, events := p.events ||| 1 }

/-- R413: whether a source number is reserved. -/
def srcReserved (s : Nat) : Bool :=
  decide (1024 ≤ s) || (decide (409 ≤ s) && decide (s < 416)) || (decide (424 ≤ s) && decide (s < 448)) ||
    (decide (457 ≤ s) && decide (s < 464)) || (decide (481 ≤ s) && decide (s < 488)) || decide (492 ≤ s)

/-- R419: whether an H0 or H1 vector can issue its message. -/
def Port.gateOpen (p : Port) (v : Vec) : Bool := p.msixOn && p.master && !p.fmask && !v.mask

/-- R405: the acceptance of a datagram sequence; the session with the value accepted, if it is new. -/
def H2Session.accept (s : H2Session) (q : Nat) : Option H2Session :=
  if q > s.high then
    let sh := q - s.high
    some { s with high := q, window := (if sh < 64 then s.window * 2 ^ sh % 2 ^ 64 else 0) ||| 1 }
  else
    let k := s.high - q
    if k < 64 ∧ q ≠ 0 ∧ !bit s.window k then some { s with window := setBit s.window k } else none

/-- R420: the first field of an `H2_CONFIGURE` out of range. -/
def h2CfgFault (p : Bytes) : Option Nat :=
  let f := u8 p 0
  let mask := (List.range 4).foldl (fun (a k : Nat) => a * 256 + u8 p (12 + k)) 0
  let contig := (List.range 33).any (fun (k : Nat) => mask == 2 ^ 32 - 2 ^ k)
  if u16 p 2 = 0 then some 2
  else if bit f 2 ∧ (u16 p 4 < 1 ∨ u16 p 4 > 4094) then some 4
  else if ¬ bit f 2 ∧ u16 p 4 ≠ 0 then some 4
  else if bit f 0 ∧ !contig then some 12
  else if bit f 1 ∧ (u8 p 36 < 1 ∨ u8 p 36 > 128) then some 36
  else none

end Sys2Proof.Machine
end

