-- ==== Sys2Proof/Machine/StateSeg.lean ====
section
/-! DEFINITION. The state of the Finaval segments: schedule tables, node positions, exchanges, services and
the frames of the stroke (R215-R271). -/

namespace Sys2Proof.Machine

/-- R228: an entry of a schedule table. -/
structure SchEntry where
  start : Nat
  len   : Nat
  type  : Nat
  pos   : Nat
  dir   : Nat
  axes  : Nat
  deriving DecidableEq, Repr

/-- R228, R230: the schedule table in force; `auto` with the axis counts it was built from. -/
structure SchTable where
  auto    : Bool
  counts  : List Nat
  entries : List SchEntry
  deriving DecidableEq, Repr

/-- One axis entry of a node's last accepted `SUCTION` (R223, R267). -/
structure NodeAxis where
  ia     : Int
  ib     : Int
  count  : Nat
  countB : Nat
  status : Nat
  deriving DecidableEq, Repr

/-- R249: a node position of a segment. -/
structure NodePos where
  /-- 0 EMPTY, 1 ABSENT, 2 JOINING, 3 CRUISE, 4 PRESENT, 5 MISMATCH. -/
  state    : Nat
  /-- rx_ok, early, late, absent, symbol, crc, header, echo_miss (R231, R240). -/
  counters : List Nat
  delay    : Option Nat
  candidate : Option Nat
  echoOk   : Bool
  slotOk   : Bool
  /-- Consecutive accepted and missed slots, consecutive unanswered echoes (R254, R256, R257). -/
  okRun    : Nat
  missRun  : Nat
  echoRun  : Nat
  /-- R255: the measured compensation has been delivered; SLOT_SET is due; SLOT_SET was answered. -/
  delivered : Bool
  slotDue  : Bool
  slotDone : Bool
  /-- R262: reference record; the record of the node now there, and whether it is valid. -/
  reference : Option Bytes
  record   : Option Bytes
  /-- R261: the length that the summary names, the summary of the running cruise, whether a cruise runs and whether
  its reading is over. -/
  want     : Nat
  summary  : Option Bytes
  cruising : Bool
  read     : Bool
  /-- R250: found during `STARTING`, its cruise not yet decided. -/
  found    : Bool
  /-- R233: the slot of this stroke has ended. -/
  closed   : Bool
  status   : Nat
  vbus     : Nat
  axes     : List NodeAxis
  deriving DecidableEq, Repr

def NodePos.reset : NodePos :=
  { state := 0, counters := List.replicate 8 0, delay := none, candidate := none, echoOk := false, slotOk := false
    okRun := 0, missRun := 0, echoRun := 0, delivered := false, slotDue := false, slotDone := false
    reference := none, record := none, want := 0, summary := none, cruising := false, read := false, found := false
    closed := false, status := 0
    vbus := 0, axes := [⟨0, 0, 0, 0, 0⟩, ⟨0, 0, 0, 0, 0⟩] }

/-- Who asked for a service (R261, R255, R271). -/
inductive SvcFor where
  | summary | record | slotSet
  /-- A node command: its ring, tag and sequence. -/
  | host (ring tag seq : Nat)
  | law (axis : Nat)
  deriving DecidableEq, Repr

/-- A service of a segment: in progress, or waiting (R263-R265). -/
structure Svc where
  pos     : Nat
  who     : SvcFor
  service : Nat
  space   : Nat
  offset  : Nat
  /-- Bytes still to read, and bytes to send. -/
  left    : Nat
  data    : Bytes
  /-- The bytes received so far. -/
  got     : Bytes
  repeats : Nat
  /-- The largest reply data of the exchange in flight, and the data bytes it carries. -/
  limit   : Nat
  sent    : Nat
  /-- A `POLL` waits for its `REPLY`. -/
  asked   : Bool
  deriving DecidableEq, Repr

/-- R225: an axis entry of the last discharge frame. -/
structure DisEntry where
  pos   : Nat
  naxis : Nat
  off   : Bool
  age   : Nat
  w0    : Int
  w1    : Int
  w2    : Int
  deriving DecidableEq, Repr

/-- A segment (R248-R271). -/
structure Seg where
  term     : Nat
  busThr   : Nat
  /-- 0 STOPPED, 1 LISTEN, 2 BACKOFF, 3 STARTING, 4 RUNNING, 5 STOPPING. -/
  state    : Nat
  /-- R250: a start accepted; `LISTEN` begins at the next stroke boundary. -/
  startReq : Bool
  contentions : Nat
  backoffMs : Nat
  /-- Strokes spent in the state, and strokes since LISTEN began. -/
  strokes  : Nat
  sinceListen : Nat
  table    : Option SchTable
  ver      : Nat
  pos      : List NodePos
  delayJump : Nat
  guardBlock : Nat
  /-- R258: discharge frames still to carry seg_off. -/
  offLeft  : Nat
  /-- R244: the reason of a HALT_MARK pair that waits; whether one has been sent. -/
  halt     : Option Nat
  halted   : Bool
  /-- R239: the position an echo request waits on. -/
  echo     : Option Nat
  svc      : Option Svc
  waiting  : List Svc
  txNo     : Nat
  /-- R263: the window entries left in this stroke: position, and byte-times left. -/
  windows  : List (Nat × Nat)
  events   : Nat
  /-- R270: the error sum at the start of the span. -/
  spanBase : Nat
  dis      : List DisEntry
  /-- R13: lift has run for the segment's axes in this stroke. -/
  ran      : Bool
  deriving DecidableEq, Repr

def Seg.reset : Seg :=
  { term := 1, busThr := 16, state := 0, startReq := false, contentions := 0, backoffMs := 0, strokes := 0, sinceListen := 0
    table := none, ver := 0, pos := List.replicate 8 NodePos.reset, delayJump := 0, guardBlock := 0, offLeft := 0
    halt := none, halted := false, echo := none, svc := none, waiting := [], txNo := 0, windows := []
    events := 0, spanBase := 0, dis := [], ran := false }

end Sys2Proof.Machine
end

