-- ==== Sys2Proof/Machine/StateStg.lean ====
section
/-! DEFINITION. The state of the local power stages (R187-R214). -/

namespace Sys2Proof.Machine

/-- R214: the half-bridge fields of `STAGE_CONFIGURE`. -/
structure HbCfg where
  dead  : Nat
  /-- [0] shunt_invert. -/
  flags : Nat
  safe  : Nat
  vds   : Nat
  blank : Nat
  filt  : Nat
  deriving DecidableEq, Repr

/-- R214: the fields of `STAGE_CONFIGURE`. -/
structure StgCfg where
  pps       : Nat
  gain      : Nat
  refreshN  : Nat
  /-- [0] trip_stage_en, [1] use_global_trip. -/
  tripFlags : Nat
  precharge : Nat
  tripFilt  : Nat
  /-- 0 bootstrap, 1 isolated. -/
  hsSupply  : Nat
  shunt     : Nat
  hbs       : List HbCfg
  deriving DecidableEq, Repr

/-- R214: the values after power-on and `RESET_N`. -/
def StgCfg.reset : StgCfg := ⟨1, 2, 10, 3, 50, 0, 0, 1000, List.replicate 4 ⟨500, 0, 0, 0, 10, 0⟩⟩

/-- What the outputs of a half-bridge do. -/
inductive Drive where
  /-- Both outputs off. -/
  | off
  /-- Under PWM control (R190, R191, R196). -/
  | pwm
  /-- PWM with a refresh pulse in this period (R206). -/
  | refresh
  /-- Low side held on, high side off (R208). -/
  | precharge
  /-- Safe level 1 or 2 of a trip (R202). -/
  | safeLow
  | safeHigh
  /-- Off to the end of the period by the interlock (R201). -/
  | blocked
  deriving DecidableEq, Repr

/-- A half-bridge: active and shadow values and its monitors. -/
structure Hb where
  cmp    : Nat
  mode   : Nat
  cmpSh  : Option Nat
  modeSh : Option Nat
  drive  : Drive
  /-- R206: consecutive periods without 200 ns of low side; whether the low side was on at the last boundary. -/
  lowless : Nat
  lowEnd : Bool
  uv     : Bool
  /-- R207: the high side stays off until the next boundary after recovery. -/
  hsHeld : Bool
  deriving DecidableEq, Repr

def Hb.reset : Hb := ⟨0, 3, none, none, .off, 0, false, false, false⟩

/-- R194: an event point. -/
structure EvPt where
  edge     : Nat
  prescale : Nat
  /-- Trigger line 0-15, or 0xFF. -/
  line     : Nat
  host     : Bool
  /-- Periods counted since its configuration loaded. -/
  count    : Nat
  deriving DecidableEq, Repr

def EvPt.reset : EvPt := ⟨0, 0, 0xFF, false, 0⟩

/-- A local stage (R188-R211). -/
structure Stg where
  /-- 0 DISABLED, 1 LOOP, 2 OPEN. -/
  mode    : Nat
  cfg     : StgCfg
  period  : Nat
  periodSh : Option Nat
  hbs     : List Hb
  locked  : Bool
  ready   : Bool
  offsets : List Int
  /-- R200: the offsets are being measured. -/
  measuring : Bool
  conducting : Bool
  tripped : Bool
  precharging : Bool
  /-- R208: the precharge time has ended; PWM begins at the next boundary. -/
  precharged : Bool
  /-- R209: switches A and B open, and the commands of the safety channels to open them. -/
  swA     : Bool
  swB     : Bool
  cmdA    : Bool
  cmdB    : Bool
  gateOk  : Bool
  /-- OL_STG_FAULTS latched and sticky bits. -/
  faults  : Nat
  tripLive : Bool
  gtripLive : Bool
  refreshes : Nat
  blocked : Nat
  events  : Nat
  codes   : List Int
  codeV   : Nat
  points  : List EvPt
  pointsSh : List (Option EvPt)
  /-- Period index within the stroke (R192). -/
  pIdx    : Nat
  /-- R193: duties that wait for their period boundary, and those in force. -/
  dutyPend : Option (List Int)
  /-- R196, R205: outputs stay off until the transfer after a compare write. -/
  needCompare : Bool
  deriving DecidableEq, Repr

def Stg.reset : Stg :=
  { mode := 0, cfg := StgCfg.reset, period := 0, periodSh := none, hbs := List.replicate 4 Hb.reset, locked := false
    ready := false, offsets := [0, 0, 0, 0], measuring := false, conducting := false, tripped := false
    precharging := false, precharged := false, swA := false, swB := false, cmdA := false, cmdB := false
    gateOk := false, faults := 0, tripLive := false, gtripLive := false, refreshes := 0, blocked := 0, events := 0
    codes := [0, 0, 0, 0], codeV := 0, points := List.replicate 6 EvPt.reset, pointsSh := List.replicate 6 none
    pIdx := 0, dutyPend := none, needCompare := true }

end Sys2Proof.Machine
end

