-- ==== Sys2Proof/Machine/Checks.lean ====
section
/-! DEFINITION. Cyclic redundancy checks: the general bitwise form and the ones the spec names
(R219, R259, R455). -/

namespace Sys2Proof.Machine

/-- The low `w` bits of a number in reverse order. -/
def reflect : Nat → Nat → Nat
  | 0, _ => 0
  | w + 1, n => (n % 2) * 2 ^ w + reflect w (n / 2)

/-- One bit of an unreflected CRC of width w. -/
def crcBit (w poly : Nat) (r : Nat) (b : Bool) : Nat :=
  let top := bit r (w - 1)
  let s := (r * 2) % 2 ^ w
  if top != b then s ^^^ poly else s

/-- The bits of a byte, the most significant first, or reversed. -/
def byteBits (refin : Bool) (b : Byte) : List Bool :=
  if refin then (List.range 8).map (fun i => bit b.toNat i) else (List.range 8).map (fun i => bit b.toNat (7 - i))

/-- The register of a CRC after a byte string. -/
def crcRun (w poly : Nat) (refin : Bool) (r : Nat) (p : Bytes) : Nat :=
  p.foldl (fun r b => (byteBits refin b).foldl (crcBit w poly) r) r

/-- A CRC in full: width, polynomial, initial value, reflection in and out, final XOR. -/
def crc (w poly init : Nat) (refin refout : Bool) (xorout : Nat) (p : Bytes) : Nat :=
  let r := crcRun w poly refin init p
  (if refout then reflect w r else r) ^^^ xorout

/-- R219: CRC-16 of a frame. -/
def crc16 (p : Bytes) : Nat := crc 16 0x1021 0xFFFF false false 0 p
/-- R219: CRC-32C. -/
def crc32c (p : Bytes) : Nat := crc 32 0x1EDC6F41 0xFFFFFFFF true true 0xFFFFFFFF p
/-- R259: CRC-32. -/
def crc32 (p : Bytes) : Nat := crc 32 0x04C11DB7 0xFFFFFFFF true true 0xFFFFFFFF p

end Sys2Proof.Machine
end

