-- ==== Sys2Proof/Machine/StateTm.lean ====
section
/-! DEFINITION. The state of cell time, PTP, the compare units and the check-value units (R443-R460), with
the operations on it that need nothing else. The reading is held as nanoseconds since second 0. -/

namespace Sys2Proof.Machine

/-- R443: the reading in ns wraps with the 48-bit seconds. -/
def cellSpan : Nat := 2 ^ 48 * 1000000000

/-- A change of the reading that waits for the next stroke boundary (R445). -/
inductive ClockOp where
  | set (ns : Nat)
  | step (ns : Int)
  deriving DecidableEq, Repr

/-- An entry of the transmit-timestamp queue (R453). -/
structure PtpTs where
  kind : Nat
  seq  : Nat
  at_  : Nat
  deriving DecidableEq, Repr

/-- A `PTP_CONFIGURE` payload (R460). -/
structure PtpCfg where
  mode      : Nat
  transport : Nat
  domain    : Nat
  priority1 : Nat
  priority2 : Nat
  clockClass : Nat
  logSync   : Int
  logAnnounce : Int
  logDelay  : Int
  announceTimeout : Nat
  stepNs    : Nat
  lockNs    : Nat
  deriving DecidableEq, Repr

def PtpCfg.reset : PtpCfg := ⟨0, 0, 0, 0, 0, 0, 0, 0, 0, 0, 0, 0⟩

/-- PTP on H2 (R451-R454, R459). -/
structure Ptp where
  cfg       : PtpCfg
  /-- R459: portState of IEEE 1588. -/
  port      : Nat
  /-- 0 FREE, 1 LOCKING, 2 LOCKED, 3 HOLDOVER. -/
  servo     : Nat
  overflow  : Bool
  offset    : Int
  pathDelay : Nat
  gmId      : Nat
  parent    : Nat
  dropped   : Nat
  discard   : Nat
  steps     : Nat
  events    : Nat
  /-- R452: transmit and receive latencies in ps, of the four link speeds. -/
  latency   : List (Nat × Nat)
  queue     : List PtpTs
  /-- R454: consecutive Syncs within `lock_ns`. -/
  inBand    : Nat
  /-- R454: the reading at which the master was lost. -/
  lostAt    : Nat
  /-- Whether a Sync waits for its Follow_Up. -/
  syncSeq   : Option Nat
  /-- The next sequence numbers of Sync, Delay_Req and Announce. -/
  seqSync   : Nat
  seqDelay  : Nat
  seqAnnounce : Nat
  deriving DecidableEq, Repr

/-- R446: the PTP servo holds the clock. -/
def Ptp.holdsRate (p : Ptp) : Bool := p.cfg.mode != 0 && (p.port == 9 || p.port == 8)

def Ptp.reset : Ptp :=
  { cfg := PtpCfg.reset, port := 3, servo := 0, overflow := false, offset := 0, pathDelay := 0, gmId := 0, parent := 0
    dropped := 0, discard := 0, steps := 0, events := 0, latency := List.replicate 4 (0, 0), queue := [], inBand := 0
    lostAt := 0, syncSeq := none, seqSync := 0, seqDelay := 0, seqAnnounce := 0 }

/-- A compare unit (R447-R450). `state`: 0 DISARMED, 1 ARMED, 2 FIRED. -/
structure Tcu where
  state   : Nat
  late    : Bool
  line    : Nat
  target  : Nat
  period  : Nat
  fires   : Nat
  skipped : Nat
  lastNs  : Nat
  deriving DecidableEq, Repr

def Tcu.reset : Tcu := ⟨0, false, 0xFF, 0, 0, 0, 0, 0⟩

/-- A `CRC_CONFIGURE` payload (R460). -/
structure CrcCfg where
  poly    : Nat
  kind    : Nat
  index   : Nat
  flags   : Nat
  sel     : Nat
  spanOff : Nat
  spanLen : Nat
  chkOff  : Nat
  ctrOff  : Nat
  ctrBit  : Nat
  ctrWidth : Nat
  stepMax : Nat
  timeout : Nat
  deriving DecidableEq, Repr

/-- A check-value unit (R455-R458). -/
structure Crcu where
  cfg     : Option CrcCfg
  enabled : Bool
  timeouts : Nat
  last    : Nat
  good    : Nat
  bad     : Nat
  repeat_ : Nat
  skip    : Nat
  events  : Nat
  /-- R457: the counter last taken; none before the first unit of data. -/
  ctr     : Option Nat
  deriving DecidableEq, Repr

def Crcu.reset : Crcu := ⟨none, false, 0, 0, 0, 0, 0, 0, 0, none⟩

/-- Cell time (R443-R446) and what runs on it. -/
structure Tm where
  /-- The reading at the start of the present stroke, in ns. -/
  now     : Nat
  frac    : Nat
  rate    : Int
  target  : Int
  /-- 0 free, 1 host-set, 2 PTP. -/
  source  : Nat
  stepped : Bool
  pend    : List ClockOp
  ptp     : Ptp
  tcus    : List Tcu
  /-- R449: the cause words of sources 448 to 455. -/
  causes  : List Nat
  crcs    : List Crcu
  deriving DecidableEq, Repr

def Tm.reset : Tm :=
  { now := 0, frac := 0, rate := 0, target := 0, source := 0, stepped := false, pend := [], ptp := Ptp.reset
    tcus := List.replicate 16 Tcu.reset, causes := List.replicate 8 0, crcs := List.replicate 8 Crcu.reset }

/-- R443: the increment of one 250 MHz tick, in units of 2^-48 ns. -/
def tickIncrement (rate : Int) : Int := 4 * 2 ^ 48 + rdivUp (4 * 2 ^ 48 * rate) 1000000000

/-- R444: the rate in force moves toward the target. -/
def Tm.moveRate (t : Tm) : Tm := { t with rate := clampI (t.rate - 1000) (t.rate + 1000) t.target }

/-- R445: one set or step of the reading. -/
def Tm.apply (t : Tm) : ClockOp → Tm
  | .set ns => { t with now := ns % cellSpan, frac := 0 }
  | .step d => { t with now := (((t.now : Int) + d) % (cellSpan : Int)).toNat }

/-- R445, R444: what a stroke boundary does to cell time, the stroke that ended having lasted `len` ns: the
reading advances, then sets and steps apply, then the rate moves. -/
def Tm.boundary (t : Tm) (len : Nat) : Tm :=
  let t := { t with now := (t.now + len) % cellSpan }
  let n := t.pend.length
  let s := t.pend.foldl Tm.apply t
  let s := if n = 0 then s
    else { s with pend := [], stepped := true, source := if s.ptp.holdsRate then s.source else 1
                  ptp := { s.ptp with steps := sat32 (s.ptp.steps + n), events := s.ptp.events ||| 8 } }
  s.moveRate

/-- R447: the signed difference of the reading and a target. -/
def tcuDiff (now target : Nat) : Int :=
  let s := toS 48 ((now / 1000000000 + 2 ^ 48 - target / 1000000000 % 2 ^ 48) % 2 ^ 48)
  s * 1000000000 + ((now % 1000000000 : Nat) : Int) - ((target % 1000000000 : Nat) : Int)

/-- R447, R448: the unit at a tick whose reading is `now`: the new unit and the tag of its firing, if it fires.
`onTime`: whether a firing at this tick can be on time. -/
def Tcu.fire (u : Tcu) (now : Nat) (rate : Int) (onTime : Bool) : Tcu × Option Nat :=
  if u.state ≠ 1 then (u, none)
  else
    let d := tcuDiff now u.target
    if d < 0 then (u, none)
    else
      let ok := onTime && decide (d * 2 ^ 48 < tickIncrement rate)
      let tag := if ok then u.target else now
      let u := { u with fires := sat32 (u.fires + 1), late := u.late || !ok, lastNs := tag % 1000000000 }
      if u.period = 0 then ({ u with state := 2 }, some tag)
      else
        let k := d.toNat / u.period + 1
        ({ u with target := (u.target + k * u.period) % cellSpan, skipped := sat32 (u.skipped + (k - 1)) }, some tag)

/-- R455: the check value of a byte string. -/
def crcOf (poly : Nat) (p : Bytes) : Nat :=
  match poly with
  | 0 => crc 8 0x2F 0xFF false false 0xFF p
  | 1 => crc16 p
  | 2 => crc32 p
  | _ => crc32c p

/-- R455: the bytes of a check value. -/
def crcBytes (poly : Nat) : Nat := [1, 2, 4, 4].getD poly 4

/-- The big-endian number of `n` bytes at offset `o`. -/
def uBE (p : Bytes) (o n : Nat) : Nat := (List.range n).foldl (fun (a k : Nat) => a * 256 + u8 p (o + k)) 0

/-- R457: one unit of data. -/
def Crcu.unit (u : Crcu) (p : Bytes) : Crcu :=
  match u.cfg with
  | none => u
  | some c =>
    if !u.enabled then u
    else
      let end_ := if c.spanLen = 0 then p.length else c.spanOff + c.spanLen
      let bad (u : Crcu) : Crcu := { u with bad := sat32 (u.bad + 1) }
      if p.length < end_ ∨ end_ < c.spanOff then bad u
      else
        let v := crcOf c.poly ((p.drop c.spanOff).take (end_ - c.spanOff))
        let u := { u with last := v }
        let n := crcBytes c.poly
        let chk := c.chkOff ≠ 0xFFFF
        let ctr := c.ctrWidth ≠ 0
        if (chk ∧ p.length < c.chkOff + n) ∨ (ctr ∧ p.length < c.ctrOff + 4) then bad u
        else if chk ∧ v ≠ (if bit c.flags 0 then uBE p c.chkOff n else uLE p c.chkOff n) then
          bad { u with events := u.events ||| 1 }
        else if !ctr then { u with good := sat32 (u.good + 1) }
        else
          let x := bits (u32 p c.ctrOff) c.ctrBit c.ctrWidth
          match u.ctr with
          | none => { u with good := sat32 (u.good + 1), ctr := some x }
          | some l =>
            let d := (x + 2 ^ c.ctrWidth - l) % 2 ^ c.ctrWidth
            if d = 0 then { u with repeat_ := sat32 (u.repeat_ + 1), events := u.events ||| 2 }
            else if d > c.stepMax then { u with skip := sat32 (u.skip + 1), events := u.events ||| 4, ctr := some x }
            else { u with good := sat32 (u.good + 1), ctr := some x }

/-- R458: no unit of data within `timeout_us`. -/
def Crcu.timeout (u : Crcu) : Crcu :=
  match u.cfg with
  | some c =>
    if u.enabled ∧ c.timeout ≠ 0 then { u with timeouts := sat16 (u.timeouts + 1), events := u.events ||| 8 } else u
  | none => u

/-- R459: bytes 0x04 to 0x1F of a check-value unit's record. -/
def Crcu.bytes (u : Crcu) : Bytes :=
  let (k, p) := match u.cfg with | some c => (c.kind, c.poly) | none => (0, 0)
  e32 (b2n u.enabled + 2 * k + 8 * p + 2 ^ 16 * u.timeouts) ++ e32 u.last ++ e32 u.good ++ e32 u.bad ++ e32 u.repeat_ ++
    e32 u.skip ++ e32 u.events

/-- R459, R454: a new port state asserts `EV_PTP_STATE` where it differs. -/
def Ptp.setPort (p : Ptp) (s : Nat) : Ptp := if p.port = s then p else { p with port := s, events := p.events ||| 1 }

/-- R454: a new servo state; entering and leaving holdover asserts `EV_PTP_HOLDOVER`. -/
def Ptp.setServo (p : Ptp) (s : Nat) : Ptp :=
  if p.servo = s then p
  else { p with servo := s, events := if p.servo = 3 ∨ s = 3 then p.events ||| 2 else p.events }

/-- R454: holdover age in whole seconds of cell time. -/
def Tm.holdAge (t : Tm) : Nat :=
  if t.ptp.servo = 3 then (t.now + cellSpan - t.ptp.lostAt) % cellSpan / 1000000000 else 0

end Sys2Proof.Machine
end

