-- ==== Sys2Proof/Machine/StatePwr.lean ====
section
/-! DEFINITION. The state of the supplies, the save set, the backup domain, the options and the journal
(R461-R490). -/

namespace Sys2Proof.Machine

/-- R466: a saved command: the port, ring, tag and opcode, and the outcome it will report. -/
structure SavedTag where
  port   : Nat
  out    : Undelivered
  opcode : Nat
  deriving DecidableEq, Repr

/-- A journal entry (R487). -/
structure JEntry where
  seq    : Nat
  code   : Nat
  source : Nat
  stroke : Nat
  time   : Nat
  detail : Nat
  deriving DecidableEq, Repr

/-- R490: `SAVE_CONFIGURE`. -/
structure SaveCfg where
  tailBytes : Nat
  absWindow : Nat
  tailMask  : Nat
  keepInc   : Bool
  deriving DecidableEq, Repr

/-- R474: what is saved of a remote axis for its position check. -/
structure PosCheck where
  axis  : Nat
  count : Int
  c     : Int
  p     : Int
  rem   : Int
  deriving DecidableEq, Repr

/-- What a save set holds (R470): the parts of the device from which R473 restores. -/
structure SaveSet where
  number  : Nat
  bkpSec  : Nat
  stkCfg  : StkCfg
  cps     : Cps
  caps    : List Nat
  axes    : List Axis
  fbs     : List Fb
  scs     : List ScCh
  eos     : List Eo
  vms     : List Vm
  stgs    : List Stg
  segs    : List Seg
  arms    : List Arm
  zones   : List Zone
  saf     : Saf
  cap     : Cap
  io      : Io
  cans    : List Can
  tm      : Tm
  srcs    : List Src
  vecs    : List (List Vec)
  tags    : List SavedTag
  /-- The capture tail: the newest records of the channels of `tail_mask`. -/
  tails   : List (Nat × List Bytes)
  save    : SaveCfg
  journal : List JEntry
  deriving DecidableEq, Repr

/-- A save-set area of heartwood (R467, R472): the commit record's generation and size, the consumed mark,
and the set. -/
structure SaveArea where
  gen      : Nat
  size     : Nat
  consumed : Bool
  set      : SaveSet
  deriving DecidableEq, Repr

/-- The backup domain (R476). `ok`: its CRC fits and its brownout detector has not tripped. -/
structure Bkp where
  powerOns : Nat
  pinResets : Nat
  seconds  : Nat
  regs     : Bytes
  /-- The valid save-set pointer: area and generation. -/
  pointer  : Option (Nat × Nat)
  deriving DecidableEq, Repr

def Bkp.reset : Bkp := ⟨0, 0, 0, zeros 256, none⟩

/-- The options of R486; a copy holds all of them. -/
structure Options where
  stroke  : Bytes
  keys    : List Bytes
  fwFloor : Nat
  keyLock : Bool
  psk     : List (Option Bytes)
  h2      : Bytes
  mac     : Bytes
  deriving DecidableEq, Repr

/-- Factory defaults (R485): the stroke of R30 and the H2 settings of R402; the keys are absent. -/
def Options.factory : Options :=
  ⟨[1, 8, 0, 0], [zeros 64, zeros 64], 0, false, [none, none, none, none], h2Default, zeros 8⟩

/-- Where the supply stands (R465, R468). -/
inductive Supply where
  | running
  /-- A sag declared while saving was armed: the save set is being written, to the area given. -/
  | saving (area : Nat)
  | park
  deriving DecidableEq, Repr

/-- The power part of the device (R461-R490). -/
structure Pwr where
  ready   : Bool
  saveArmed : Bool
  restored : Bool
  bkpValid : Bool
  bkpLost : Bool
  optionsDefault : Bool
  faultHalt : Bool
  recovery : Bool
  lastSave : Nat
  timeGap : Bool
  vbatLow : Bool
  vmain   : Nat
  vcist   : Nat
  vbat    : Nat
  lastUs  : Nat
  lastMv  : Nat
  generation : Nat
  startMs : Nat
  posFail : Nat
  posChecked : Nat
  posMask : Nat
  events  : Nat
  supply  : Supply
  /-- The set under way in drawdown. -/
  draft   : Option SaveSet
  /-- R469: a `RESET_N` of drawdown waits for park. -/
  resetWait : Bool
  save    : SaveCfg
  areas   : List (Option SaveArea)
  bkp     : Bkp
  /-- The two copies in heartwood, and the options loaded. -/
  optA    : Options
  optB    : Options
  opt     : Options
  journal : List JEntry
  nextSeq : Nat
  /-- R474: axes of the restored configuration still to be checked. -/
  checks  : List PosCheck
  /-- R472: the area whose set was restored and is not yet consumed. -/
  source  : Option Nat
  /-- R484: the segments whose cruise the start still waits for. -/
  cruise  : List Nat
  deriving DecidableEq, Repr

def Pwr.reset : Pwr :=
  { ready := false, saveArmed := false, restored := false, bkpValid := false, bkpLost := false, optionsDefault := false
    faultHalt := false, recovery := false, lastSave := 0, timeGap := false, vbatLow := false, vmain := 0, vcist := 0
    vbat := 0, lastUs := 0, lastMv := 0, generation := 0, startMs := 0, posFail := 0, posChecked := 0, posMask := 0
    events := 0, supply := .running, draft := none, resetWait := false, save := ⟨0, 0, 0, false⟩, areas := [none, none]
    bkp := Bkp.reset, optA := Options.factory, optB := Options.factory, opt := Options.factory, journal := []
    nextSeq := 0, checks := [], source := none, cruise := [] }

end Sys2Proof.Machine
end

