-- ==== Sys2Proof/Machine/State.lean ====
section
/-! DEFINITION. The state of the block: the device itself (`Dev`), the outlook records as last refreshed, the
ring-area memory, what the last step sent, and the queue of waiting commands. Plain data throughout. -/

namespace Sys2Proof.Machine

/-- The device: everything the spec gives the part, but the ring-area memory. -/
structure Dev where
  stk   : Stk
  nov   : Nov
  cps   : Cps
  fw    : Fw
  axes  : List Axis
  fbs   : List Fb
  scs   : List ScCh
  eos   : List Eo
  pfs   : List Pf
  vms   : List Vm
  cams  : List Cam
  stgs  : List Stg
  /-- R210: the permit inputs `STO_A` and `STO_B`, and the filtered global trip input (R202). -/
  permitA : Bool
  permitB : Bool
  gtrip : Bool
  /-- R495: VGATE stands above its lockout. -/
  vgate : Bool
  segs  : List Seg
  /-- R261: the identity cache: node position p of segment s at 8 s + p, then the eight stages. -/
  idents : List (Option Bytes)
  arms  : List Arm
  zones : List Zone
  claims : List ClaimReq
  saf   : Saf
  cap   : Cap
  io    : Io
  cans  : List Can
  tm    : Tm
  hp    : Hp
  pwr   : Pwr
  /-- The MODEL's own counter: each free value of `Config` is applied to it, and it advances. -/
  free  : Nat
  /-- What the block has sent in this step, in order. -/
  sent  : List Out
  deriving DecidableEq, Repr

def Dev.reset : Dev :=
  { stk := Stk.reset, nov := Nov.reset, cps := Cps.reset, fw := Fw.reset, axes := List.replicate 128 Axis.reset
    fbs := List.replicate 128 Fb.reset, scs := List.replicate 8 ScCh.reset, eos := List.replicate 4 Eo.reset
    pfs := List.replicate 128 Pf.reset, vms := List.replicate 16 Vm.reset, cams := List.replicate 256 Cam.reset
    stgs := List.replicate 8 Stg.reset, permitA := false, permitB := false, gtrip := false, vgate := true
    segs := List.replicate 16 Seg.reset, idents := List.replicate 136 none, arms := List.replicate 8 Arm.reset
    zones := List.replicate 64 Zone.reset, claims := [], saf := Saf.reset, cap := Cap.reset, io := Io.reset
    cans := List.replicate 4 Can.reset, tm := Tm.reset, hp := Hp.reset, pwr := Pwr.reset, free := 0, sent := [] }

/-- No event of this block is a fault of the model: an event that the spec gives no effect in a state changes
nothing there, and every error of the spec is a status, a flag or a state of its own. -/
inductive Fault where
  deriving DecidableEq, Repr

/-- Why a step has no meaning. -/
inductive Refusal where
  /-- Raised by an arm of `exec` whose row has no meaning yet; safe. No arm raises it now. -/
  | notModelled (mnemonic : String)
  deriving DecidableEq, Repr

/-- The state of the block. -/
structure State where
  dev   : Dev
  /-- R401: the device as it stood when the outlook records were last refreshed; a record is a view of it. -/
  shown : Dev
  /-- R394: the ring areas in device SRAM, 1 MB for each port: port n at address n x 2^20. Sparse, in
  canonical form (`Memory.wf`): addresses strictly rising, no byte 0. -/
  mem   : List Host.Cell
  /-- The commands that wait, first in, first out. -/
  pending : List Instr
  deriving DecidableEq, Repr

/-- The machine right after reset. -/
def State.reset : State := { dev := Dev.reset, shown := Dev.reset, mem := [], pending := [] }

end Sys2Proof.Machine
end

