-- ==== Sys2Proof/Machine/Status.lean ====
section
/-! DEFINITION. The status codes of completions (R38 and the chapters that add to it). -/

namespace Sys2Proof.Machine.ST

abbrev ok : Nat := 0x0000
abbrev noChange : Nat := 0x0001
abbrev badOpcode : Nat := 0x0101
abbrev badLength : Nat := 0x0102
abbrev wrongRing : Nat := 0x0103
abbrev tagInUse : Nat := 0x0104
abbrev badSequence : Nat := 0x0105
abbrev badObject : Nat := 0x0106
abbrev reserved : Nat := 0x0107
abbrev badValue : Nat := 0x0108
abbrev badReference : Nat := 0x0109
abbrev badCompartment : Nat := 0x010A
abbrev noSession : Nat := 0x0201
abbrev notCellOwner : Nat := 0x0202
abbrev notOwner : Nat := 0x0203
abbrev owned : Nat := 0x0204
abbrev noStopRight : Nat := 0x0205
abbrev disabled : Nat := 0x0301
abbrev busy : Nat := 0x0302
abbrev faulted : Nat := 0x0303
abbrev tripActive : Nat := 0x0304
abbrev cyclic : Nat := 0x0310
abbrev stopLatched : Nat := 0x0311
abbrev sessionActive : Nat := 0x0312
abbrev noMemory : Nat := 0x0401
abbrev ringLimit : Nat := 0x0402
abbrev budget : Nat := 0x0501
abbrev strokePassed : Nat := 0x0502
abbrev timeout : Nat := 0x0503
abbrev hwDma : Nat := 0x0602
abbrev hwBlock : Nat := 0x0603
abbrev safetyRefused : Nat := 0x0701
abbrev stoActive : Nat := 0x0702
abbrev abortReset : Nat := 0x0801
abbrev abortPort : Nat := 0x0802
abbrev abortSag : Nat := 0x0803
abbrev abortStop : Nat := 0x0804
abbrev abortHost : Nat := 0x0805
abbrev migrating : Nat := 0x0901
abbrev imageInvalid : Nat := 0x0902
abbrev internal : Nat := 0x0903
abbrev rolledBack : Nat := 0x0904
abbrev notStaged : Nat := 0x0905
abbrev compExists : Nat := 0x0370
abbrev resourceActive : Nat := 0x0371
abbrev blockInReset : Nat := 0x0372
abbrev notSafetyPort : Nat := 0x0206
abbrev bankActive : Nat := 0x0320
abbrev causeActive : Nat := 0x0321
abbrev modeConflict : Nat := 0x0322
abbrev homeFailed : Nat := 0x0330
abbrev infeasible : Nat := 0x0331
abbrev noMotorData : Nat := 0x0332
abbrev nodeMismatch : Nat := 0x0340
abbrev contended : Nat := 0x0341
abbrev nodeAbsent : Nat := 0x0342
abbrev armNotConfigured : Nat := 0x0350
abbrev jointRange : Nat := 0x0351
abbrev zoneHeld : Nat := 0x0352
abbrev guardTest : Nat := 0x0703
abbrev resetRequired : Nat := 0x0704
abbrev notCommitted : Nat := 0x0705
abbrev signature : Nat := 0x0706

end Sys2Proof.Machine.ST
end

