-- ==== Sys2Proof/Machine/Ops.lean ====
section
/-! DEFINITION. The named operations over the block's state: the ring-area memory, the tables of objects and
their owners, the event sources, and the judging and completing of a command (R33-R67, R373, R413). -/

namespace Sys2Proof.Machine

/-! ### Memory -/

/-- Whether the addresses of a memory rise strictly above `lo` and no byte is 0. -/
def Memory.rising : Nat → List Host.Cell → Bool
  | _, [] => true
  | lo, (a, b) :: r => decide (lo ≤ a) && decide (b ≠ 0) && Memory.rising (a + 1) r

/-- The canonical form of the ring-area memory. -/
def Memory.wf (m : List Host.Cell) : Bool := Memory.rising 0 m

/-- The byte at an address; an unlisted address reads as 0. -/
def Memory.read (m : List Host.Cell) (a : Nat) : Byte :=
  match m with
  | [] => 0
  | (k, b) :: r => if a = k then b else Memory.read r a

/-- One byte written, the canonical form kept. -/
def Memory.write (m : List Host.Cell) (a : Nat) (v : Byte) : List Host.Cell :=
  match m with
  | [] => if v = 0 then [] else [(a, v)]
  | (k, b) :: r =>
    if a < k then (if v = 0 then (k, b) :: r else (a, v) :: (k, b) :: r)
    else if a = k then (if v = 0 then r else (a, v) :: r)
    else (k, b) :: Memory.write r a v

/-- `n` bytes from address `a`. -/
def Memory.readN (m : List Host.Cell) (a : Nat) : Nat → Bytes
  | 0 => []
  | n + 1 => Memory.read m a :: Memory.readN m (a + 1) n

/-- Bytes written from address `a` on. -/
def Memory.writeN (m : List Host.Cell) (a : Nat) : Bytes → List Host.Cell
  | [] => m
  | b :: r => Memory.writeN (Memory.write m a b) (a + 1) r

/-- R394: the size of a port's ring area. -/
def areaSize : Nat := 2 ^ 20
/-- R394: the address of offset `o` of port `p`'s ring area. -/
def areaAddr (p o : Nat) : Nat := p * areaSize + o

/-! ### Objects -/

def Dev.ax (d : Dev) (i : Nat) : Axis := d.axes.getD i Axis.reset
def Dev.fb (d : Dev) (i : Nat) : Fb := d.fbs.getD i Fb.reset
def Dev.pf (d : Dev) (i : Nat) : Pf := d.pfs.getD i Pf.reset
def Dev.vm (d : Dev) (i : Nat) : Vm := d.vms.getD i Vm.reset
def Dev.cam (d : Dev) (i : Nat) : Cam := d.cams.getD i Cam.reset
def Dev.stg (d : Dev) (i : Nat) : Stg := d.stgs.getD i Stg.reset
def Dev.sc (d : Dev) (i : Nat) : ScCh := d.scs.getD i ScCh.reset
def Dev.eo (d : Dev) (i : Nat) : Eo := d.eos.getD i Eo.reset
def Dev.seg (d : Dev) (i : Nat) : Seg := d.segs.getD i Seg.reset
def Dev.arm (d : Dev) (i : Nat) : Arm := d.arms.getD i Arm.reset
def Dev.zone (d : Dev) (i : Nat) : Zone := d.zones.getD i Zone.reset
def Dev.can (d : Dev) (i : Nat) : Can := d.cans.getD i Can.reset
def Dev.comp (d : Dev) (i : Nat) : Comp := d.cps.comps.getD i Comp.reset
def Dev.ring (d : Dev) (i : Nat) : Ring := d.nov.rings.getD i Ring.reset
def Dev.prt (d : Dev) (i : Nat) : Port := d.hp.ports.getD i (Port.reset i)
def Dev.trig (d : Dev) (i : Nat) : Trig := d.cap.units.getD i Trig.reset
def Dev.chan (d : Dev) (i : Nat) : Chan := d.cap.chans.getD i Chan.reset
def Dev.eng (d : Dev) (i : Nat) : Eng := d.cap.engs.getD i Eng.reset
def Dev.reg (d : Dev) (i : Nat) : Reg := d.cap.regs.getD i Reg.reset
def Dev.di (d : Dev) (i : Nat) : Di := d.io.dis.getD i Di.reset
def Dev.dout (d : Dev) (i : Nat) : Do := d.io.dos.getD i Do.reset
def Dev.tcu (d : Dev) (i : Nat) : Tcu := d.tm.tcus.getD i Tcu.reset
def Dev.crcu (d : Dev) (i : Nat) : Crcu := d.tm.crcs.getD i Crcu.reset
def Dev.safAx (d : Dev) (i : Nat) : SafAx := d.saf.axes.getD i SafAx.reset
def Dev.safArm (d : Dev) (i : Nat) : SafArm := d.saf.arms.getD i SafArm.reset
def Dev.safIn (d : Dev) (i : Nat) : SafIn := d.saf.ins.getD i SafIn.reset
def Dev.safOut (d : Dev) (i : Nat) : SafOut := d.saf.outs.getD i SafOut.reset
def Dev.safCmp (d : Dev) (i : Nat) : SafCmp := d.saf.comps.getD i SafCmp.reset

def Dev.onAx (d : Dev) (i : Nat) (f : Axis → Axis) : Dev := { d with axes := upd d.axes i f }
def Dev.onFb (d : Dev) (i : Nat) (f : Fb → Fb) : Dev := { d with fbs := upd d.fbs i f }
def Dev.onPf (d : Dev) (i : Nat) (f : Pf → Pf) : Dev := { d with pfs := upd d.pfs i f }
def Dev.onVm (d : Dev) (i : Nat) (f : Vm → Vm) : Dev := { d with vms := upd d.vms i f }
def Dev.onCam (d : Dev) (i : Nat) (f : Cam → Cam) : Dev := { d with cams := upd d.cams i f }
def Dev.onStg (d : Dev) (i : Nat) (f : Stg → Stg) : Dev := { d with stgs := upd d.stgs i f }
def Dev.onSc (d : Dev) (i : Nat) (f : ScCh → ScCh) : Dev := { d with scs := upd d.scs i f }
def Dev.onEo (d : Dev) (i : Nat) (f : Eo → Eo) : Dev := { d with eos := upd d.eos i f }
def Dev.onSeg (d : Dev) (i : Nat) (f : Seg → Seg) : Dev := { d with segs := upd d.segs i f }
def Dev.onArm (d : Dev) (i : Nat) (f : Arm → Arm) : Dev := { d with arms := upd d.arms i f }
def Dev.onZone (d : Dev) (i : Nat) (f : Zone → Zone) : Dev := { d with zones := upd d.zones i f }
def Dev.onCan (d : Dev) (i : Nat) (f : Can → Can) : Dev := { d with cans := upd d.cans i f }
def Dev.onComp (d : Dev) (i : Nat) (f : Comp → Comp) : Dev := { d with cps := { d.cps with comps := upd d.cps.comps i f } }
def Dev.onRing (d : Dev) (i : Nat) (f : Ring → Ring) : Dev := { d with nov := { d.nov with rings := upd d.nov.rings i f } }
def Dev.onPort (d : Dev) (i : Nat) (f : Port → Port) : Dev := { d with hp := d.hp.port i f }
def Dev.onSrc (d : Dev) (i : Nat) (f : Src → Src) : Dev := { d with hp := d.hp.src i f }
def Dev.onTrig (d : Dev) (i : Nat) (f : Trig → Trig) : Dev := { d with cap := { d.cap with units := upd d.cap.units i f } }
def Dev.onChan (d : Dev) (i : Nat) (f : Chan → Chan) : Dev := { d with cap := { d.cap with chans := upd d.cap.chans i f } }
def Dev.onEng (d : Dev) (i : Nat) (f : Eng → Eng) : Dev := { d with cap := { d.cap with engs := upd d.cap.engs i f } }
def Dev.onReg (d : Dev) (i : Nat) (f : Reg → Reg) : Dev := { d with cap := { d.cap with regs := upd d.cap.regs i f } }
def Dev.onDi (d : Dev) (i : Nat) (f : Di → Di) : Dev := { d with io := { d.io with dis := upd d.io.dis i f } }
def Dev.onDo (d : Dev) (i : Nat) (f : Do → Do) : Dev := { d with io := d.io.setDo i f }
def Dev.onTcu (d : Dev) (i : Nat) (f : Tcu → Tcu) : Dev := { d with tm := { d.tm with tcus := upd d.tm.tcus i f } }
def Dev.onCrcu (d : Dev) (i : Nat) (f : Crcu → Crcu) : Dev := { d with tm := { d.tm with crcs := upd d.tm.crcs i f } }
def Dev.onPtp (d : Dev) (f : Ptp → Ptp) : Dev := { d with tm := { d.tm with ptp := f d.tm.ptp } }
def Dev.onSafAx (d : Dev) (i : Nat) (f : SafAx → SafAx) : Dev := { d with saf := { d.saf with axes := upd d.saf.axes i f } }
def Dev.onSafArm (d : Dev) (i : Nat) (f : SafArm → SafArm) : Dev := { d with saf := { d.saf with arms := upd d.saf.arms i f } }
def Dev.onSafIn (d : Dev) (i : Nat) (f : SafIn → SafIn) : Dev := { d with saf := { d.saf with ins := upd d.saf.ins i f } }
def Dev.onSafOut (d : Dev) (i : Nat) (f : SafOut → SafOut) : Dev := { d with saf := { d.saf with outs := upd d.saf.outs i f } }
def Dev.onSafCmp (d : Dev) (i : Nat) (f : SafCmp → SafCmp) : Dev := { d with saf := { d.saf with comps := upd d.saf.comps i f } }
def Dev.onPwr (d : Dev) (f : Pwr → Pwr) : Dev := { d with pwr := f d.pwr }

/-- The next free value's argument; the counter advances by `n`. -/
def Dev.skip (d : Dev) (n : Nat) : Dev := { d with free := d.free + n }

/-- The state with another device. -/
def State.withDev (s : State) (d : Dev) : State := { s with dev := d }

/-- R34: how many objects a class has. -/
def classCount (cls : Nat) : Option Nat :=
  [1, 128, 8, 16, 128, 8, 64, 128, 4, 32, 16, 16, 8, 128, 8, 4, 8, 16, 16, 256, 64, 16, 4][cls]?

/-- R373: the resource classes, in the order of the table. -/
def resourceClasses : List Nat :=
  [0x01, 0x02, 0x03, 0x05, 0x06, 0x07, 0x08, 0x09, 0x0A, 0x0B, 0x0D] ++
  [0x0E, 0x0F, 0x10, 0x11, 0x12, 0x13, 0x14, 0x15, 0x20, 0x21, 0x22]

/-- The place of a resource class in the table of R373. -/
def classPos (cls : Nat) : Option Nat := resourceClasses.findIdx? (· == cls)

/-- R373: the compartment that holds a resource. -/
def Dev.owner (d : Dev) (cls idx : Nat) : Option Nat :=
  match classPos cls with
  | some p => ((d.cps.owners.getD p []).getD idx none)
  | none => none

/-- R373: the owner of a resource set. -/
def Dev.setOwner (d : Dev) (cls idx : Nat) (o : Option Nat) : Dev :=
  match classPos cls with
  | some p => { d with cps := { d.cps with owners := upd d.cps.owners p (fun (l : List (Option Nat)) => l.set idx o) } }
  | none => d

/-- R36, R376: the compartment that holds a command's target. -/
def Dev.holder (d : Dev) (cls idx : Nat) : Option Nat :=
  if cls = 0x0C then some idx
  else if cls = 0x04 then d.owner 0x03 (idx / 8)
  else d.owner cls idx

/-- The indices of a class that compartment `k` holds. -/
def Dev.holds (d : Dev) (cls k : Nat) : List Nat :=
  match classPos cls with
  | some p =>
    let l := d.cps.owners.getD p []
    (List.range l.length).filter (fun (i : Nat) => l.getD i none == some k)
  | none => []

/-- R380: the block an object belongs to. -/
def blockOf (cls idx : Nat) : Option Nat :=
  match cls with
  | 0x03 => some idx
  | 0x04 => some (idx / 8)
  | 0x06 => some (0x10 + idx / 16)
  | 0x16 => some (0x10 + idx)
  | 0x08 => some (0x14 + idx)
  | 0x0E => some (0x18 + idx)
  | 0x05 => some (0x20 + idx)
  | 0x10 => some (0x28 + idx)
  | 0x0F => some (0x30 + idx)
  | _ => none

/-- R380: the state of a block. -/
def Dev.block (d : Dev) (b : Nat) : Nat := d.cps.blocks.getD b 0

/-- The lane-cycle clock: strokes per cell cycle, strokes per second, and the length of the stroke. -/
def Dev.cyc (d : Dev) : Nat := d.stk.cfg.cycle
def Dev.len (d : Dev) : Nat := d.stk.lenNow

/-- R8: the cell-time instant `ns` after the start of the present stroke. -/
def Dev.at_ (d : Dev) (ns : Nat) : Nat := (d.tm.now + ns) % cellSpan

/-! ### Rights -/

/-- R62: whether a port has an open session. -/
def Dev.isOpen (d : Dev) (p : Nat) : Bool := match d.nov.sessions[p]? with | some s => s.isOpen | none => false
/-- R376: the owner of compartment `k`. -/
def Dev.owns (d : Dev) (p k : Nat) : Bool := (d.comp k).state != 0 && (d.comp k).owner == p
/-- R370, R376: observer rights. -/
def Dev.observes (d : Dev) (p k : Nat) : Bool :=
  (d.comp k).state != 0 && ((d.comp k).owner == p || bit (d.comp k).observers p || d.cps.cellOwner == p)
/-- R376: stop rights. -/
def Dev.stops (d : Dev) (p k : Nat) : Bool := (d.comp k).state != 0 && ((d.comp k).owner == p || bit (d.comp k).stoppers p)

/-! ### Events -/

/-- R413, R415: the compartment of a source. -/
def Dev.srcHolder (d : Dev) (s : Nat) : Option Nat :=
  if s < 128 then d.owner 0x0D s
  else if s < 256 then d.owner 0x01 (s - 128)
  else if s < 272 then d.owner 0x03 (s - 256)
  else if s < 280 then d.owner 0x02 (s - 272)
  else if s < 288 then d.owner 0x05 (s - 280)
  else if s < 352 then d.owner 0x06 (s - 288)
  else if s < 356 then none
  else if s < 360 then d.owner 0x08 (s - 356)
  else if s < 392 then d.owner 0x09 (s - 360)
  else if s < 408 then d.owner 0x0A (s - 392)
  else if 416 ≤ s ∧ s < 424 then some (s - 416)
  else if 448 ≤ s ∧ s < 456 then some (s - 448)
  else if 464 ≤ s ∧ s < 472 then d.owner 0x0E (s - 464)
  else if 472 ≤ s ∧ s < 480 then some (s - 472)
  else none

/-- R390 `OL_CMP_SHARED`: the shared causes of a compartment. -/
def Dev.shared (d : Dev) (k : Nat) : Nat :=
  let ax := d.holds 0x01 k
  let fb := ax.any (fun (i : Nat) => (d.fb i).events != 0) || (d.holds 0x0F k).any (fun (i : Nat) => (d.eo i).events != 0)
  let pf := ax.any (fun (i : Nat) => (d.pf i).events != 0) || (d.holds 0x12 k).any (fun (i : Nat) => (d.vm i).events != 0)
  let rg := ax.any (fun (i : Nat) => (d.reg i).events != 0)
  maskOf [fb, pf, rg]

/-- R413: the cause bits of a source. The shared causes of a compartment (R391) stand at bits 16 to 18 of its
word (DESIGN CHOICE, log entry 13). -/
def Dev.causes (d : Dev) (s : Nat) : Nat :=
  if s < 128 then b2n (d.ring s).evError + 2 * b2n ((d.ring s).cqTail != (d.ring s).cqHead)
  else if s < 256 then (d.ax (s - 128)).events
  else if s < 272 then (d.seg (s - 256)).events
  else if s < 280 then (d.arm (s - 272)).events
  else if s < 288 then (d.stg (s - 280)).events
  else if s < 352 then (d.chan (s - 288)).events
  else if s < 356 then (d.eng (s - 352)).events
  else if s < 360 then (d.can (s - 356)).events
  else if s < 392 then (d.di (s - 360)).events
  else if s < 408 then (d.dout (s - 392)).events
  else if s = 408 then d.io.sumEvents
  else if s < 416 then 0
  else if s < 424 then (d.safCmp (s - 416)).events
  else if s < 448 then 0
  else if s < 456 then d.tm.causes.getD (s - 448) 0
  else if s = 456 then d.tm.ptp.events
  else if s < 464 then 0
  else if s < 472 then (d.crcu (s - 464)).events
  else if s < 480 then (d.comp (s - 472)).events + 2 ^ 16 * d.shared (s - 472)
  else if s = 480 then d.pwr.events
  else if s < 488 then 0
  else if s < 492 then (d.prt (s - 488)).events
  else 0

/-- R413: sensing is level only. -/
def Dev.asserted (d : Dev) (s : Nat) : Bool := d.causes s != 0

/-- A source. -/
def Dev.src (d : Dev) (s : Nat) : Src := d.hp.srcs.getD s Src.reset

/-- R416: whether a source is pending. -/
def Dev.srcPending (d : Dev) (s : Nat) : Bool := (d.src s).route.on && (d.src s).serv.isNone && d.asserted s

/-- R416: a source that is no longer pending will count anew. -/
def Dev.settleSrc (d : Dev) (s : Nat) : Dev :=
  if d.srcPending s then d else d.onSrc s (fun (x : Src) => { x with pend := false })

/-- R413: cause bits of a source served. Bit 1 of a ring pair and the shared causes of a compartment are not
served so. -/
def Dev.ack (d : Dev) (s mask : Nat) : Dev :=
  let d :=
    if s < 128 then d.onRing s (fun (r : Ring) => { r with evError := r.evError && !bit mask 0 })
    else if s < 256 then d.onAx (s - 128) (fun (a : Axis) => { a with events := clearMask a.events mask })
    else if s < 272 then d.onSeg (s - 256) (fun (x : Seg) => { x with events := clearMask x.events mask })
    else if s < 280 then d.onArm (s - 272) (fun (x : Arm) => { x with events := clearMask x.events mask })
    else if s < 288 then d.onStg (s - 280) (fun (x : Stg) => { x with events := clearMask x.events mask })
    else if s < 352 then d.onChan (s - 288) (fun (x : Chan) => { x with events := clearMask x.events mask })
    else if s < 356 then d.onEng (s - 352) (fun (x : Eng) => { x with events := clearMask x.events mask })
    else if s < 360 then d.onCan (s - 356) (fun (x : Can) => { x with events := clearMask x.events mask })
    else if s < 392 then d.onDi (s - 360) (fun (x : Di) => { x with events := clearMask x.events mask })
    else if s < 408 then d.onDo (s - 392) (fun (x : Do) => { x with events := clearMask x.events mask })
    else if s = 408 then { d with io := { d.io with sumEvents := clearMask d.io.sumEvents mask } }
    else if 416 ≤ s ∧ s < 424 then d.onSafCmp (s - 416) (fun (x : SafCmp) => { x with events := clearMask x.events mask })
    else if 448 ≤ s ∧ s < 456 then
      { d with tm := { d.tm with causes := upd d.tm.causes (s - 448) (fun (m : Nat) => clearMask m mask) } }
    else if s = 456 then d.onPtp (fun (x : Ptp) => { x with events := clearMask x.events mask })
    else if 464 ≤ s ∧ s < 472 then d.onCrcu (s - 464) (fun (x : Crcu) => { x with events := clearMask x.events mask })
    else if 472 ≤ s ∧ s < 480 then d.onComp (s - 472) (fun (x : Comp) => { x with events := clearMask x.events mask })
    else if s = 480 then d.onPwr (fun (x : Pwr) => { x with events := clearMask x.events mask })
    else if 488 ≤ s ∧ s < 492 then d.onPort (s - 488) (fun (x : Port) => { x with events := clearMask x.events mask })
    else d
  d.settleSrc s

/-- R391: a cause of compartment `k`. -/
def Dev.compEvent (d : Dev) (k b : Nat) : Dev := d.onComp k (fun (x : Comp) => { x with events := setBit x.events b })

/-- A cause on every compartment of a list. -/
def Dev.compEvents (d : Dev) (ks : List Nat) (b : Nat) : Dev :=
  ks.foldl (fun (d : Dev) (k : Nat) => d.compEvent k b) d

/-- R413, R416: whether a port may serve a source's causes. -/
def Dev.mayServe (d : Dev) (p s : Nat) : Bool :=
  if s < 128 then (d.ring s).state != 0 && (d.ring s).port == p
  else match d.srcHolder s with
    | some k => d.owns p k
    | none => d.cps.cellOwner == p

/-- R487: a journal entry, into the ring of 16,384; during drawdown into the save set. -/
def Dev.log (d : Dev) (code source detail : Nat) : Dev :=
  let e : JEntry := ⟨d.pwr.nextSeq, code, source, d.stk.number, d.tm.now, detail⟩
  d.onPwr (fun (p : Pwr) =>
    match p.draft with
    | some s => { p with nextSeq := p.nextSeq + 1, draft := some { s with journal := s.journal ++ [e] } }
    | none => { p with nextSeq := p.nextSeq + 1, journal := (p.journal ++ [e]).drop (p.journal.length + 1 - 16384) })

/-! ### Judging a command -/

/-- A failing check: the status and the detail. -/
abbrev Verdict := Option (Nat × Nat)

/-- R39: the first failing check. -/
def firstFail : List Verdict → Verdict
  | [] => none
  | some v :: _ => some v
  | none :: r => firstFail r

/-- A check: the status where the condition does not hold. -/
def need (b : Bool) (status detail : Nat) : Verdict := if b then none else some (status, detail)
/-- R38: a field in range, or `ST_BAD_VALUE` with the field's offset. -/
def inRange (b : Bool) (off : Nat) : Verdict := need b ST.badValue off
/-- R39: reserved bytes that must be zero. -/
def rsv (p : Bytes) (o n : Nat) : Verdict := need (allZero p o n) ST.reserved 0

/-- When a command takes effect: at its decode (a query), at a lift latch point (R12), or at a planning point
(R157). -/
inductive Timing where
  | now | latch | plan
  deriving DecidableEq, Repr

/-- R39 step 5: whose right a command needs. -/
inductive Right where
  /-- Any port with a session. -/
  | any
  | owner
  /-- Owner or observer. -/
  | observer
  | cellOwner
  /-- R56. -/
  | stop
  /-- Judged by the command itself, with its values. -/
  | own
  deriving DecidableEq, Repr

/-- What carrying a command out gives. -/
structure Eff where
  dev    : Dev
  status : Nat := 0
  detail : Nat := 0
  result : Bytes := []
  hold   : Hold := .none
  /-- R46: an `effective_stroke` other than that of the command's timing. -/
  eff    : Option Nat := none
  /-- R357: bytes for the host's buffer. -/
  data   : Option (Nat × Bytes) := none

/-- What the spec says of one opcode. -/
structure Spec where
  op     : Nat
  /-- The ring classes it may travel in. -/
  rings  : List Nat
  len    : Nat → Bool
  classes : List Nat
  right  : Right
  timing : Timing
  /-- R388: runs while its compartment migrates. -/
  exempt : Bool := false
  /-- Judged against its object at the point of its effect only (R107, R115, R205, R372, R428). -/
  atEffect : Bool := false
  /-- R36, R55: a layout that depends on the target. -/
  form   : Cmd → Verdict := fun _ => none
  rights : Cmd → Dev → Verdict := fun _ _ => none
  values : Cmd → Dev → Verdict := fun _ _ => none
  object : Cmd → Dev → Verdict := fun _ _ => none
  resource : Cmd → Dev → Verdict := fun _ _ => none
  budget : Cmd → Dev → Verdict := fun _ _ => none
  apply  : Cmd → Dev → Eff

/-- The payload of a fixed length. -/
def exactly (n : Nat) : Nat → Bool := fun k => k == n

/-- R35: flag bits of a command. -/
def cmdByRef (c : Cmd) : Bool := bit c.flags 0
def cmdFenced (c : Cmd) : Bool := bit c.flags 1
def cmdTimed (c : Cmd) : Bool := bit c.flags 2

/-- R36: whether the `compartment` field fits the target. -/
def Dev.compField (d : Dev) (op : Nat) (c : Cmd) : Bool :=
  let area := op / 256
  if c.cls = 0 then c.comp == 0xFF
  else if op = 0x090C ∨ op = 0x090D then decide (c.comp < 8)
  else if c.cls = 0x16 then
    if op = 0x0B09 then c.comp == 0xFF
    else if c.comp = 0xFF then d.cps.cellOwner == c.port.val
    else if op = 0x0B0A then decide (c.comp < 8)
    else (d.holds 0x06 c.comp).any (fun (n : Nat) => n / 16 == c.idx)
  else
    let h := d.holder c.cls c.idx
    let same := (match h with | some k => c.comp == k | none => c.comp == 0xFF)
    if area = 0x01 ∨ area = 0x02 ∨ area = 0x10 ∨ area = 0x11 then c.comp == 0xFF || same else same

/-- R39 step 4. -/
def Dev.checkTarget (d : Dev) (sp : Spec) (c : Cmd) : Verdict :=
  match classCount c.cls with
  | none => some (ST.badObject, 0)
  | some n =>
    -- R306: the zone commands of the host name zone 0
    if c.idx ≥ n ∨ !sp.classes.contains c.cls ∨ ((sp.op = 0x090C ∨ sp.op = 0x090D) ∧ c.idx ≠ 0) then some (ST.badObject, 0)
    else need (d.compField sp.op c) ST.badCompartment 0

/-- R39 step 5, R376, R392. A compartment that does not exist is judged in step 7 (R372). -/
def Dev.checkRights (d : Dev) (sp : Spec) (c : Cmd) : Verdict :=
  if sp.op != 0x0101 && !d.isOpen c.port.val then some (ST.noSession, 0)
  else
    let h := d.holder c.cls c.idx
    let gone := c.cls == 0x0C && (d.comp c.idx).state == 0
    match sp.right with
    | .any => none
    | .own => sp.rights c d
    | .cellOwner => need (d.cps.cellOwner == c.port.val) ST.notCellOwner 0
    | .owner =>
      match h with
      | some k => need (gone || d.owns c.port.val k) ST.notOwner 0
      | none => some (ST.notOwner, 0)
    | .observer =>
      match h with
      | some k => need (gone || d.observes c.port.val k) ST.notOwner 0
      | none => some (ST.notOwner, 0)
    | .stop =>
      match h with
      | some k => need (gone || d.stops c.port.val k) ST.noStopRight 0
      | none => some (ST.noStopRight, 0)

/-- R39 step 7, the part common to all commands: a compartment that does not exist (R372), one that migrates
(R388), a block in reset (R381). -/
def Dev.checkObject (d : Dev) (sp : Spec) (c : Cmd) : Verdict :=
  firstFail [
    need (!(c.cls == 0x0C && (d.comp c.idx).state == 0 && sp.op != 0x0202 && sp.op != 0x0203)) ST.disabled 0,
    (match d.holder c.cls c.idx with
     | some k => need ((d.comp k).state != 3 || sp.exempt) ST.migrating 0
     | none => none),
    (match blockOf c.cls c.idx with
     | some b => need (d.block b == 0 || sp.timing == .now) ST.blockInReset 0
     | none => none),
    sp.object c d]

/-- R39 steps 5 to 9 again, at the point where a command takes effect. -/
def Dev.rejudge (d : Dev) (sp : Spec) (c : Cmd) : Verdict :=
  firstFail [d.checkRights sp c, sp.values c d, d.checkObject sp c, sp.resource c d, sp.budget c d]

/-- R47: the latch point that comes next. -/
def Dev.latchStroke (d : Dev) : Nat :=
  match d.stk.phase with
  | .beacon => d.stk.number
  | .suction => d.stk.number
  | _ => d.stk.number + 1

/-- R157: the first stroke of the cell cycle that the next planning point plans. -/
def Dev.planStroke (d : Dev) : Nat :=
  let first := d.stk.number - d.stk.cyclePhase
  if d.stk.cyclePhase = 0 ∧ d.latchStroke = d.stk.number then first + d.cyc else first + 2 * d.cyc

/-- R46: the `effective_stroke` of a command that passes its checks. -/
def Dev.effStroke (d : Dev) (sp : Spec) (c : Cmd) : Nat :=
  let base := match sp.timing with
    | .now => d.stk.number
    | .latch => d.latchStroke
    | .plan => d.planStroke
  if cmdTimed c then max base c.atStroke else base

/-- R47, R157: the target stroke of an `at_stroke` command; that of a planning command is the first stroke of a cell
cycle, and its planning point must still come. -/
def Dev.checkStroke (d : Dev) (sp : Spec) (c : Cmd) : Verdict :=
  if !cmdTimed c then none
  else if c.atStroke < d.latchStroke then some (ST.strokePassed, 0)
  else
    let plan := sp.timing == .plan
    firstFail [
      inRange (decide (c.atStroke ≤ d.stk.number + 2 ^ 24)) 0,
      inRange (!(plan && (c.atStroke + d.stk.cyclePhase - d.stk.number) % d.cyc != 0)) 0,
      need (!(plan && decide (c.atStroke < d.planStroke))) ST.strokePassed 0]

/-- R482, R483: what fault halt and recovery mode let pass. -/
def Dev.gate (d : Dev) (op : Nat) (port : Nat) : Verdict :=
  let base := op == 0x0101 || op == 0x0106 || op == 0x0F06
  if d.pwr.faultHalt then need base ST.internal 0
  else if d.pwr.recovery then
    need ((base || op == 0x1101 || op == 0x1102 || op == 0x1103) && (port == 0 || port == 3)) ST.internal 0
  else none

/-- R39 steps 1 and 2 of a packet whose payload is inline. -/
def Dev.checkForm (d : Dev) (sp : Spec) (c : Cmd) : Verdict :=
  firstFail [
    need (c.flags / 8 == 0) ST.reserved 0,
    need (!(cmdByRef c && 2 ≤ c.port.val)) ST.badReference 0,
    need (!(cmdTimed c && sp.op / 256 == 0)) ST.badReference 0,
    need (sp.len c.payload.length && (cmdByRef c || decide (c.payload.length + (if cmdTimed c then 8 else 0) ≤ 4080)))
      ST.badLength 0,
    sp.form c,
    need (sp.rings.contains (d.ring c.ring.val).cls) ST.wrongRing 0]

/-- R44, R52: step 3. -/
def Dev.checkSeq (d : Dev) (c : Cmd) : Verdict :=
  let e := (d.ring c.ring.val).expSeq
  firstFail [
    need (c.seq == e) ST.badSequence (e % 65536),
    need (!d.nov.flights.any (fun (f : Flight) => f.cmd.ring == c.ring && f.cmd.tag == c.tag && f.pool != .lost)) ST.tagInUse 0]

/-- R39: all the checks of a command, in their order. -/
def Dev.judge (d : Dev) (sp : Spec) (c : Cmd) : Verdict :=
  firstFail [d.checkForm sp c, d.checkSeq c, d.gate sp.op c.port.val, d.checkTarget sp c, d.checkRights sp c,
    d.checkStroke sp c, sp.values c d, d.checkObject sp c, sp.resource c d, sp.budget c d]

/-! ### Completing a command -/

/-- A command in flight that has finished. -/
def Dev.post (d : Dev) (c : Cmd) (op : Nat) (pool : Pool) (status detail : Nat) (result : Bytes) (eff : Nat)
    (data : Option (Nat × Bytes)) : Dev :=
  { d with nov := { d.nov with flights := d.nov.flights ++ [⟨c, op, pool, .post, .none, status, detail, result, eff, data, d.nov.taken⟩] } }

/-- R52: a command that has taken effect: it finishes, or runs on until its event. -/
def Eff.finish (e : Eff) (c : Cmd) (op : Nat) (pool : Pool) (base : Nat) : Dev :=
  let eff := e.eff.getD base
  match e.hold with
  | .none => e.dev.post c op pool e.status e.detail e.result eff e.data
  | h =>
    { e.dev with nov := { e.dev.nov with
        flights := e.dev.nov.flights ++ [⟨c, op, pool, .hold, h, e.status, e.detail, e.result, eff, e.data, e.dev.nov.taken⟩] } }

/-- R60, R157: what a planning command of an axis or virtual master finds in force. -/
def Dev.notePlan (d : Dev) (c : Cmd) : Dev :=
  if c.cls = 0x01 then { d with pfs := upd d.pfs c.idx Pf.note }
  else if c.cls = 0x12 then { d with vms := upd d.vms c.idx Vm.note }
  else d

/-- A command carried out. -/
def Spec.carry (sp : Spec) (c : Cmd) (d : Dev) : Eff :=
  if sp.timing == .plan && (sp.apply c d).status == 0 then sp.apply c (d.notePlan c) else sp.apply c d

/-- A command judged, and carried out where it passes. -/
def Dev.submit (d : Dev) (sp : Spec) (c : Cmd) (pool : Pool) : Dev :=
  match d.judge sp c with
  | some (st, det) => d.post c sp.op pool st det [] d.stk.number none
  | none => (sp.carry c d).finish c sp.op pool (d.effStroke sp c)

/-- R465, R468: the device takes commands only while it runs. -/
def Dev.running (d : Dev) : Bool := d.pwr.supply == .running

/-- R381: the port answers: the device runs and the block of the port is not in reset. -/
def Dev.portUp (d : Dev) (p : Nat) : Bool := d.running && d.block (0x34 + p) == 0

/-- A packet can come only on a ring of its port that is fetched from (R40, R45, R65, R66). -/
def Dev.carries (d : Dev) (c : Cmd) : Bool :=
  let r := d.ring c.ring.val
  d.running && (r.state == 1 || r.state == 2) && r.port == c.port.val && !r.closing

/-- R44: whatever the outcome, the ring expects the next sequence number; one more packet has been taken. -/
def Dev.expect (d : Dev) (c : Cmd) : Dev :=
  let d := d.onRing c.ring.val (fun (r : Ring) => { r with expSeq := (c.seq + 1) % 2 ^ 32 })
  { d with nov := { d.nov with taken := d.nov.taken + 1 } }

/-- A step begins: nothing has been sent in it. -/
def State.fresh (s : State) : State := { s with dev := { s.dev with sent := [] } }

/-- R472: an axis of the restored configuration has entered a running state: the set is consumed. -/
def Dev.consume (d : Dev) : Dev :=
  match d.pwr.source with
  | none => d
  | some n =>
    let had (i : Nat) : Bool := match d.pwr.areas.getD n none with | some a => (a.set.axes.getD i Axis.reset).cfg.configured | none => false
    if (List.range 128).any (fun (i : Nat) => decide (2 ≤ (d.ax i).state) && decide ((d.ax i).state ≤ 4) && had i) then
      d.onPwr (fun (p : Pwr) =>
        { p with areas := upd p.areas n (fun (a : Option SaveArea) => a.map (fun (x : SaveArea) => { x with consumed := true })), source := none })
    else d

/-- The step of a command packet of the table. -/
def State.run (s : State) (sp : Spec) (c : Cmd) : State :=
  let s := s.fresh
  if s.dev.carries c then { s with dev := ((s.dev.submit sp c .none).expect c).consume } else s

/-- R46, R51: commands that run until an event finish, in their order. -/
def Dev.finishHold (d : Dev) (h : Hold → Bool) (status detail : Nat) (result : Bytes) (eff : Option Nat) : Dev :=
  let hit (f : Flight) : Bool := f.stage == .hold && h f.hold
  let done := (d.nov.flights.filter hit).map (fun (f : Flight) =>
    { f with stage := Stage.post, hold := Hold.none, status := status, detail := detail, result := result
             eff := eff.getD (if status ≤ 1 then f.eff else d.stk.number) })
  { d with nov := { d.nov with flights := d.nov.flights.filter (fun (f : Flight) => !hit f) ++ done } }

/-- Commands not yet carried out finish with a status. -/
def Dev.abort (d : Dev) (p : Flight → Bool) (status : Nat) : Dev :=
  let hit (f : Flight) : Bool := f.stage != .post && p f
  let done := (d.nov.flights.filter hit).map (fun (f : Flight) =>
    { f with stage := Stage.post, hold := Hold.none, status := status, detail := 0, result := [], eff := d.stk.number })
  { d with nov := { d.nov with flights := d.nov.flights.filter (fun (f : Flight) => !hit f) ++ done } }

end Sys2Proof.Machine
end

