-- ==== Sys2Proof/Machine/SegOps.lean ====
section
/-! DEFINITION. One Finaval segment: frames, schedule tables and their budgets, acceptance, delay measurement,
ident records and the services of slack (R217-R265). -/

namespace Sys2Proof.Machine

/-- R10: the phase boundaries in force: end of suction, latch, discharge start, slack start. -/
def StkCfg.phases (c : StkCfg) : Nat × Nat × Nat × Nat :=
  if c.defaultPhases then
    match c.code with
    | 0 => (14000, 14000, 20000, 28000)
    | 1 => (34000, 34000, 46000, 58000)
    | 2 => (34000, 34000, 64000, 76000)
    | _ => (34000, 34000, 94000, 106000)
  else (c.sucEnd, c.latch, c.discharge, c.slack)

def StkCfg.sucEndNs (c : StkCfg) : Nat := c.phases.1
def StkCfg.latchNs (c : StkCfg) : Nat := c.phases.2.1
def StkCfg.disNs (c : StkCfg) : Nat := c.phases.2.2.1
def StkCfg.slackNs (c : StkCfg) : Nat := c.phases.2.2.2

/-- R17, R18: the byte-times of suction, discharge and slack. -/
def StkCfg.sucBt (c : StkCfg) : Nat := (c.sucEndNs - 2000) / 80
def StkCfg.disBt (c : StkCfg) : Nat := (c.slackNs - c.disNs) / 80
def StkCfg.slackBt (c : StkCfg) : Nat := (strokeNs c.code - c.slackNs) / 80

/-- R218, R219: the bytes of a frame from `type` to its CRC. -/
def mkFrame (type addr seq : Nat) (payload : Bytes) : Bytes :=
  let h := [byteOf type, byteOf addr, byteOf seq] ++ payload
  if type = 0x03 ∨ type = 0x05 then h ++ e32 (crc32c h) else h ++ e16 (crc16 h)

/-- R220: the payload length a frame of a type carries, by its number of axes. -/
def suctionLen (a : Nat) : Nat := 9 + 12 * a

/-- R231 checks 4 to 6 on a received frame: the index of the failing counter (4 symbol, 5 crc, 6 header), or
none. `long` frames end in CRC-32C. -/
def frameFault (symOk : Bool) (f : Bytes) (type addr seq : Nat) (lenOk : Nat → Bool) : Option Nat :=
  let n := if u8 f 0 = 0x03 ∨ u8 f 0 = 0x05 then 4 else 2
  if !symOk then some 4
  else if f.length < 3 + n then some 5
  else
    let body := f.take (f.length - n)
    let want := if n = 4 then crc32c body else crc16 body
    if uLE f (f.length - n) n ≠ want then some 5
    else if u8 f 0 ≠ type ∨ u8 f 1 ≠ addr ∨ u8 f 2 ≠ seq ∨ !(lenOk (f.length - n - 3)) then some 6
    else none

/-- R231: the first failing check of a frame whose SOF came `dt` ns after the expected instant. -/
def acceptFault (dt : Int) (symOk : Bool) (f : Bytes) (type addr seq : Nat) (lenOk : Nat → Bool) : Option Nat :=
  if dt < -160 then some 1 else if 160 < dt then some 2 else frameFault symOk f type addr seq lenOk

/-- R228: the sum of `axes` over the suction entries of a table. -/
def tableAxes (es : List SchEntry) : Nat := ((es.filter (fun e => e.type == 2)).map (·.axes)).sum

/-- R228: whether entry i of a table is valid under a stroke configuration, given the entries before it. -/
def entryOk (c : StkCfg) (es : List SchEntry) (i : Nat) : Bool :=
  match es[i]? with
  | none => false
  | some e =>
    let before := es.take i
    let within (a z : Nat) : Bool := decide (a ≤ e.start * 80) && decide ((e.start + e.len) * 80 ≤ z)
    let apart := before.all (fun b => decide (e.start + e.len ≤ b.start) || decide (b.start + b.len ≤ e.start))
    apart &&
    match e.type with
    | 2 => within 2000 c.sucEndNs && e.dir == 1 && (e.axes == 1 || e.axes == 2) && e.len == 24 + 12 * e.axes
        && decide (e.pos ≤ 7) && before.all (fun b => b.type != 2 || b.pos != e.pos)
    | 3 => within c.disNs c.slackNs && e.dir == 0 && e.axes == 0 && e.pos == 0xFF && e.start == cdivN c.disNs 80
        && e.len == 28 + 7 * tableAxes es && before.all (fun b => b.type != 3)
    | 4 => within c.slackNs (strokeNs c.code) && e.dir == 2 && e.axes == 0 && (decide (e.pos ≤ 7) || e.pos == 0xFF)
        && decide (37 ≤ e.len)
    | _ => false

/-- R228: the first failing entry of a table; the number of entries when only the discharge entry is missing. -/
def tableFault (c : StkCfg) (es : List SchEntry) : Option Nat :=
  match (List.range es.length).find? (fun i => !(entryOk c es i)) with
  | some i => some i
  | none => if es.any (fun e => e.type == 3) then none else some es.length

/-- R230: the suction entries of an automatic table, packed from a byte-time. -/
def autoSuction : Nat → Nat → List Nat → List SchEntry
  | _, _, [] => []
  | p, bt, a :: r =>
    if a = 0 then autoSuction (p + 1) bt r
    else ⟨bt, 24 + 12 * a, 2, p, 1, a⟩ :: autoSuction (p + 1) (bt + 24 + 12 * a) r

/-- R230: an automatic table. -/
def autoTable (c : StkCfg) (counts : List Nat) : List SchEntry :=
  let s := autoSuction 0 25 counts
  let w := cdivN c.slackNs 80
  s ++ [⟨cdivN c.disNs 80, 28 + 7 * tableAxes s, 3, 0xFF, 0, 0⟩, ⟨w, strokeNs c.code / 80 - w, 4, 0xFF, 2, 0⟩]

/-- R17, R18: byte-times used in suction, discharge and slack. -/
def sucUsed (es : List SchEntry) : Nat := ((es.filter (fun e => e.type == 2)).map (fun e => 24 + 12 * e.axes)).sum
def disUsed (es : List SchEntry) : Nat := 28 + 7 * tableAxes es
def slackUsed (es : List SchEntry) : Nat := ((es.filter (fun e => e.type == 4)).map (·.len)).sum

/-- R230: the table of a segment under a new stroke configuration. -/
def SchTable.rebuild (t : SchTable) (c : StkCfg) : SchTable :=
  if t.auto then { t with entries := autoTable c t.counts }
  else { t with entries := t.entries.map (fun e => if e.type = 3 then { e with start := cdivN c.disNs 80 } else e) }

/-- R230: the phase code (0x2, 0x4, 0x5) that an entry of a rebuilt explicit table overruns. -/
def SchTable.overrun (t : SchTable) (c : StkCfg) : Option Nat :=
  let bad (ty a z : Nat) : Bool :=
    t.entries.any (fun e => e.type == ty && (decide (e.start * 80 < a) || decide (z < (e.start + e.len) * 80)))
  if t.auto then none
  else if bad 2 2000 c.sucEndNs then some 2
  else if bad 3 c.disNs c.slackNs then some 4
  else if bad 4 c.slackNs (strokeNs c.code) then some 5
  else none

/-- R230: a segment under a new stroke configuration: a table rebuilt or moved takes a new `table_ver`. -/
def Seg.retable (s : Seg) (c : StkCfg) : Seg :=
  match s.table with
  | none => s
  | some t =>
    let u := t.rebuild c
    { s with table := some u, ver := if t.auto || u.entries != t.entries then (s.ver + 1) % 256 else s.ver }

/-- The entries of a segment's table, none without one. -/
def Seg.entries (s : Seg) : List SchEntry := match s.table with | some t => t.entries | none => []
/-- The suction entry of a position. -/
def Seg.suctionOf (s : Seg) (p : Nat) : Option SchEntry := s.entries.find? (fun e => e.type == 2 && e.pos == p)
/-- Node position p. -/
def Seg.node (s : Seg) (p : Nat) : NodePos := s.pos.getD p NodePos.reset
/-- A change of node position p. -/
def Seg.onNode (s : Seg) (p : Nat) (f : NodePos → NodePos) : Seg := { s with pos := upd s.pos p f }

/-- R269: a change of `seg_state` with its event. -/
def Seg.toState (s : Seg) (st : Nat) : Seg :=
  if s.state = st then s else { s with state := st, strokes := 0, events := setBit s.events 1 }

/-- R231: counter i of a position. -/
def NodePos.bump (n : NodePos) (i : Nat) : NodePos := { n with counters := upd n.counters i (fun x => sat32 (x + 1)) }

/-- R240: d from a round trip R in ns. -/
def echoDelay (r : Nat) : Int := Int.fdiv ((r : Int) - 1040 + 1) 2

/-- R240: a measurement applied to a position: the position, and whether it adds to `delay_jump`. -/
def NodePos.measure (n : NodePos) (d : Int) : NodePos × Bool :=
  if d < 0 ∨ 360 < d then (n, true)
  else
    let v := d.toNat
    match n.delay with
    | none => ({ n with delay := some v, candidate := none }, false)
    | some u =>
      let near (a b k : Nat) : Bool := decide (a ≤ b + k) && decide (b ≤ a + k)
      let use : NodePos × Bool := ({ n with delay := some v, candidate := none }, false)
      match n.candidate with
      | some c =>
        if near v c 4 then use
        else if near v u 16 then ({ n with delay := some v, candidate := none }, true)
        else ({ n with candidate := some v }, true)
      | none => if near v u 16 then use else ({ n with candidate := some v }, false)

/-- R257, R258: a position gives up its compensation and slot. -/
def NodePos.leave (n : NodePos) (st : Nat) : NodePos :=
  { n with
    state := st, delay := none, candidate := none, okRun := 0, missRun := 0, echoRun := 0, delivered := false
    slotDue := false, slotDone := false, cruising := false, read := false, found := false, summary := none, slotOk := false }

/-- R252: the back-off time in ms. -/
def backoff (serial : Nat) (seg contentions : Nat) : Nat :=
  1 + crc32c (e64 serial ++ [byteOf seg, byteOf (contentions % 256)]) % 64

/-- R259: the entries of an ident record between offsets; none where one runs past the end. -/
def tlvs (r : Bytes) : Nat → Nat → Nat → Option (List (Nat × Nat × Nat))
  | 0, o, z => if o = z then some [] else none
  | k + 1, o, z =>
    if o = z then some []
    else if z < o + 4 then none
    else
      let len := u16 r (o + 2)
      let o' := o + 4 + (len + 3) / 4 * 4
      if z < o' then none
      else match tlvs r k o' z with
        | some l => some ((u16 r o, o + 4, len) :: l)
        | none => none

/-- R259: the entries of a record (tag, value offset, length). -/
def identTags (r : Bytes) : Option (List (Nat × Nat × Nat)) := tlvs r 1024 8 (u16 r 2 - 4)

/-- R259: whether a record is valid. -/
def identValid (r : Bytes) : Bool :=
  let n := u16 r 2
  if n < 16 ∨ 4096 < n ∨ n % 4 ≠ 0 ∨ r.length < n then false
  else
    u16 r 0 == 1 && uLE r (n - 4) 4 == crc32 (r.take (n - 4)) &&
    match identTags r with
    | none => false
    | some l =>
      l.any (fun t => t.1 == 0x0001) && l.any (fun t => t.1 == 0x0010) &&
      l.all (fun t => decide (0x8000 ≤ t.1) ||
        (let same := l.filter (fun u => u.1 == t.1)
         if t.1 == 0x0011 || t.1 == 0x0012 then
           decide ((same.filter (fun u => u8 r u.2.1 == u8 r t.2.1)).length ≤ 1)
         else decide (same.length ≤ 1)))

/-- R260: the offset of the value of a tag. -/
def identTag (r : Bytes) (tag : Nat) : Option Nat :=
  match identTags r with
  | some l => (l.find? (fun t => t.1 == tag)).map (fun t => t.2.1)
  | none => none

/-- R260: the value offset of a per-axis tag (0x0011, 0x0012) for an axis. -/
def identAxisTag (r : Bytes) (tag axis : Nat) : Option Nat :=
  match identTags r with
  | some l => (l.find? (fun t => t.1 == tag && u8 r t.2.1 == axis)).map (fun t => t.2.1)
  | none => none

/-- R260: identity serial; current and voltage full scales; supported strokes and laws. -/
def identSerial (r : Bytes) : Nat := match identTag r 0x0001 with | some o => u64 r (o + 8) | none => 0
def identIfs (r : Bytes) : Int := match identTag r 0x0010 with | some o => i32 r (o + 4) | none => 0
def identVfs (r : Bytes) : Int := match identTag r 0x0010 with | some o => i32 r (o + 8) | none => 0
def identLaws (r : Bytes) : Nat := match identTag r 0x0010 with | some o => u8 r (o + 1) | none => 0
def identStrokes (r : Bytes) : Nat := match identTag r 0x0010 with | some o => u8 r (o + 3) | none => 0
def identFlags (r : Bytes) : Nat := match identTag r 0x0010 with | some o => u8 r (o + 2) | none => 0

/-- R262: the parts of a record that are compared: the defined tags, without serial and revisions. -/
def identCompared (r : Bytes) : List (Nat × Bytes) :=
  match identTags r with
  | none => []
  | some l => (l.filter (fun t => decide (t.1 ≤ 0x001F))).map
      (fun t => (t.1, if t.1 = 0x0001 then slice r t.2.1 8 else slice r t.2.1 t.2.2))

/-- R263: the byte-times of an exchange. -/
def exchangeBt (lq lr : Nat) : Nat := 37 + lq + lr

/-- R264: the request data of a service after the 4-byte header. -/
def Svc.request (v : Svc) (n : Nat) : Bytes :=
  match v.service with
  | 1 => [byteOf v.space, 0] ++ e16 v.offset
  | 2 => [byteOf v.space, 0] ++ e16 v.offset ++ v.data.take n
  | _ => v.data

/-- R263: how many data bytes an exchange of a service carries in `room` byte-times: reply data of a READ,
request data of a WRITE; none where it does not fit. -/
def Svc.fit (v : Svc) (room : Nat) : Option Nat :=
  match v.service with
  | 1 => if room < exchangeBt 8 4 + 1 then none else some (min 1024 (min v.left (room - exchangeBt 8 4)))
  | 2 => if room < exchangeBt 8 4 + 1 then none else some (min 52 (min v.data.length (room - exchangeBt 8 4)))
  | _ => if room < exchangeBt (4 + v.data.length) 4 then none else some v.data.length

/-- R248: whether the device sends and hears the stroke layout on a segment; `STARTING` begins at a boundary (R253). -/
def Seg.cyclic (s : Seg) : Bool := (s.state == 3 && s.strokes != 0) || s.state == 4 || s.state == 5

/-- A segment's suction entries, by start. -/
def Seg.suctions (s : Seg) : List SchEntry :=
  (s.entries.filter (fun (e : SchEntry) => e.type == 2)).mergeSort (fun (a b : SchEntry) => decide (a.start ≤ b.start))

/-- R13: whether a suction slot of the segment has not ended in this stroke. -/
def Seg.slotOpen (s : Seg) : Bool := s.cyclic && s.suctions.any (fun (e : SchEntry) => !(s.node e.pos).closed)

end Sys2Proof.Machine
end

