-- ==== Sys2Proof/Machine/StgOps.lean ====
section
/-! DEFINITION. One local stage: the PWM period, shadow transfers, duties, samples, trips, the interlock, the
high-side supply and the event points (R190-R210). -/

namespace Sys2Proof.Machine

/-- The configuration of half-bridge k. -/
def Stg.hbCfg (s : Stg) (k : Nat) : HbCfg := s.cfg.hbs.getD k ⟨500, 0, 0, 0, 10, 0⟩
/-- Half-bridge k. -/
def Stg.hb (s : Stg) (k : Nat) : Hb := s.hbs.getD k Hb.reset

/-- R214: the shunt gain g. -/
def shuntGain (g : Nat) : Nat := match g with | 0 => 5 | 1 => 10 | 2 => 20 | _ => 40

/-- R190: the on-time of the high-side command: none, or its start and end after the boundary. -/
def hsCommand (p c : Nat) : Option (Nat × Nat) :=
  if c = 0 then none else if p ≤ c then some (0, p) else some ((p - c) / 2, (p - c) / 2 + c)

/-- R191, R196: the longest stretch for which the low side is on in a period; `lowBefore` says whether it was on
at the boundary. -/
def lowStretch (p c dead mode : Nat) (lowBefore : Bool) : Nat :=
  if mode = 1 ∨ mode = 3 then 0
  else match hsCommand p c with
    | none => if lowBefore then p else p - dead
    | some (a, z) => max (if lowBefore then a else a - dead) (p - z - dead)

/-- Whether the low side is on at the end of a period. -/
def lowAtEnd (p c dead mode : Nat) : Bool :=
  !(mode == 1 || mode == 3) &&
  match hsCommand p c with
  | none => true
  | some (_, z) => decide (z + dead < p)

/-- R193: the compare of a duty in a period of P ns. -/
def dutyCompare (d : Int) (p : Nat) : Nat := min ((d * p + 16384).toNat / 32768) (p - 1)

/-- R101, R192: the length of period `i` of `p` in a stroke of `len` ns. -/
def subPeriod (len p i : Nat) : Nat := if i + 1 < p then len / p else len - (p - 1) * (len / p)

/-- R199: a shunt code in Q15 of the current span. -/
def shuntQ15 (code offset : Int) (gain uohm : Nat) (span : Int) (inv : Bool) : Int :=
  let den := shuntGain gain * uohm * span.toNat
  let v := if den = 0 then 0 else clampI (-32767) 32767 (rdivUp ((code - offset) * 5000000000) den)
  if inv then -v else v

/-- R199: a bus-voltage code in Q15 of the voltage span. -/
def vbusQ15 (code : Nat) (span : Int) : Int :=
  if span ≤ 0 then 0 else clampI (-32767) 32767 (rdivUp ((code : Int) * 160000) span.toNat)

/-- R202, R204: each half-bridge takes its safe level, where there is gate supply to drive it. -/
def Stg.safeDrives (s : Stg) : Stg :=
  let lvl (k : Nat) (h : Hb) : Hb :=
    let d : Drive := if !s.gateOk then .off else match (s.hbCfg k).safe with
      | 1 => .safeLow
      | 2 => if h.uv then .off else .safeHigh
      | _ => .off
    { h with drive := d, lowless := 0 }
  { s with hbs := (List.range 4).map (fun k => lvl k (s.hb k)) }

/-- R202, R204: a trip source forces the outputs off and each half-bridge takes its safe level; a second source
only latches its cause. `cause` is a bit of OL_STG_FAULTS. -/
def Stg.trip (s : Stg) (cause : Nat) : Stg :=
  if s.mode = 0 then s
  else
    let s := { s with faults := setBit s.faults cause }
    if s.tripped then s
    else
      { s.safeDrives with
        tripped := true, conducting := false, precharging := false, precharged := false, events := setBit s.events 0 }

/-- R203, R204: a V_DS detection on half-bridge k. -/
def Stg.vds (s : Stg) (k : Nat) : Stg :=
  if (s.hbCfg k).vds = 0 then s
  else if s.tripped ∧ ((s.hb k).drive = .safeLow ∨ (s.hb k).drive = .safeHigh) then
    { s with
      faults := setBit (setBit s.faults (2 + k)) (6 + k), hbs := upd s.hbs k (fun h => { h with drive := .off }) }
  else s.trip (2 + k)

/-- R202: whether an enabled trip input is asserted. -/
def Stg.tripAsserted (s : Stg) : Bool :=
  (bit s.cfg.tripFlags 0 && s.tripLive) || (bit s.cfg.tripFlags 1 && s.gtripLive)

/-- R201: the interlock blocks half-bridge k to the end of the period. -/
def Stg.interlock (s : Stg) (k : Nat) : Stg :=
  { s with
    blocked := sat32 (s.blocked + 1), faults := setBit s.faults (16 + k), events := setBit s.events 1
    hbs := if s.tripped then s.hbs else upd s.hbs k (fun h => { h with drive := .blocked }) }

/-- R207: a floating supply falls below its threshold. -/
def Stg.uvLow (s : Stg) (k : Nat) : Stg :=
  let s' := { s with hbs := upd s.hbs k (fun h => { h with
    uv := true, hsHeld := true, drive := if h.drive = .safeHigh then .off else h.drive }) }
  if s.precharging then s'
  else { s' with faults := setBit s'.faults (20 + k), events := setBit s'.events 2 }

/-- R207: a floating supply has recovered; the high side resumes at the next boundary. -/
def Stg.uvHigh (s : Stg) (k : Nat) : Stg :=
  { s with hbs := upd s.hbs k (fun h => { h with uv := false }) }

/-- All outputs off. -/
def Stg.off (s : Stg) : Stg :=
  { s with
    conducting := false, precharging := false, precharged := false
    hbs := s.hbs.map (fun h => { h with drive := .off, lowless := 0, lowEnd := false }) }

/-- R206: the refresh of half-bridge k, once its count has reached `refresh_n`. -/
def Stg.refreshHb (s : Stg) (k : Nat) : Stg :=
  if s.cfg.hsSupply = 0 ∧ s.conducting ∧ !s.tripped ∧ s.gateOk ∧ s.cfg.refreshN ≤ (s.hb k).lowless
      ∧ (s.hb k).drive = .pwm then
    { s with
      refreshes := sat32 (s.refreshes + 1)
      hbs := upd s.hbs k (fun h => { h with drive := .refresh, lowless := 0 }) }
  else s

/-- R206: the count of half-bridge k for the period that ends. -/
def Stg.countLow (s : Stg) (k : Nat) : Stg :=
  let h := s.hb k
  let c := s.hbCfg k
  if h.drive = .pwm ∨ h.drive = .refresh then
    let long := h.drive = .refresh ∨ 200 ≤ lowStretch s.period h.cmp c.dead h.mode h.lowEnd
    { s with hbs := upd s.hbs k (fun h => { h with
      lowless := if long then 0 else h.lowless + 1, lowEnd := lowAtEnd s.period h.cmp c.dead h.mode }) }
  else s

/-- R195-R197: the shadows transfer, unless the stage is locked. -/
def Stg.transfer (s : Stg) : Stg :=
  if s.locked then s
  else
    let wrote := s.hbs.any (fun h => h.cmpSh.isSome)
    { s with
      period := s.periodSh.getD s.period, periodSh := none
      hbs := s.hbs.map (fun h => { h with
        cmp := h.cmpSh.getD h.cmp, mode := h.modeSh.getD h.mode, cmpSh := none, modeSh := none })
      needCompare := s.needCompare && !wrote
      points := (List.range 6).map (fun i => (s.pointsSh.getD i none).getD (s.points.getD i EvPt.reset))
      pointsSh := List.replicate 6 none }

/-- R188: the half-bridges a law uses. -/
def lawHbs (law : Nat) : Nat := match law with | 0 => 3 | 1 => 4 | _ => 2

/-- R193: pending duties load into the compares of the law's half-bridges. -/
def Stg.loadDuties (s : Stg) (law : Nat) : Stg :=
  match s.dutyPend with
  | none => s
  | some ds => { s with
      dutyPend := none
      hbs := (List.range 4).map (fun k =>
        let h := s.hb k
        if k < lawHbs law then { h with cmp := dutyCompare (ds.getD k 0) s.period, mode := 0 }
        else { h with cmp := 0, mode := 3 }) }

/-- R208: driven half-bridges take PWM, after a precharge in bootstrap mode. -/
def Stg.beginDrive (s : Stg) : Stg :=
  if s.conducting then s
  else if s.cfg.hsSupply = 0 ∧ 0 < s.cfg.precharge ∧ !s.precharged then
    { s with precharging := true, hbs := s.hbs.map (fun h => { h with drive := .precharge }) }
  else
    { s with
      conducting := true, precharging := false, precharged := false
      hbs := s.hbs.map (fun h => { h with drive := if h.mode = 3 then .off else .pwm }) }

/-- R194: whether point i fires in this period. -/
def Stg.pointFires (s : Stg) (i : Nat) : Bool :=
  let e := s.points.getD i EvPt.reset
  let edge := i < 2 || (match hsCommand s.period (s.hb (i - 2)).cmp with
    | none => false
    | some (a, z) => !(a == 0 && z == s.period))
  e.prescale != 0 && e.count % e.prescale == 0 && edge

/-- R194: the instants of event point i in a period, from its start: the boundary, the centre, or the command edges. -/
def Stg.pointAt (s : Stg) (i : Nat) : List Nat :=
  match i with
  | 0 => [0]
  | 1 => [s.period / 2]
  | _ =>
    (match hsCommand s.period (s.hb (i - 2)).cmp with
    | some (a, z) =>
      let e := (s.points.getD i EvPt.reset).edge
      (if e = 0 ∨ e = 2 then [a] else []) ++ (if e = 1 ∨ e = 2 then [z] else [])
    | none => [])

/-- R194: the trigger lines the event points of this period pulse, with the instants from its start. -/
def Stg.firedLines (s : Stg) : List (Nat × Nat) :=
  ((List.range 6).filter s.pointFires).flatMap (fun (i : Nat) =>
    let l := (s.points.getD i EvPt.reset).line
    if l < 16 then (s.pointAt i).map (fun (x : Nat) => (l, x)) else [])

/-- R194: the event points count a period; a firing point with `host` asserts EV_STG_PWM. -/
def Stg.countPoints (s : Stg) : Stg :=
  let host := (List.range 6).any (fun i => s.pointFires i && (s.points.getD i EvPt.reset).host)
  { s with
    points := s.points.map (fun e => { e with count := e.count + 1 })
    events := if host then setBit s.events 3 else s.events }

/-- R190-R208: a period boundary. `len` is the length of the period that starts in LOOP, `law` the law of the
bound axis, `on` whether the controlling function drives the outputs (R188, R196). -/
def Stg.boundary (s : Stg) (len law : Nat) (on : Bool) : Stg :=
  if s.mode = 0 then s
  else
    let s := (List.range 4).foldl Stg.countLow s
    let s := { s with hbs := s.hbs.map (fun (h : Hb) => { h with
      drive := if h.drive = Drive.blocked ∨ h.drive = Drive.refresh then Drive.pwm else h.drive, hsHeld := h.uv }) }
    let s := s.transfer
    let s := if s.mode = 1 then ({ s with period := len }).loadDuties law else s
    let drives := on && s.ready && !s.tripped && s.gateOk && !(s.mode == 2 && s.needCompare)
    let s := if s.tripped then s else if drives then s.beginDrive else s.off
    let s := { s with hbs := s.hbs.map (fun (h : Hb) => { h with
      drive := if h.drive = Drive.pwm ∧ h.mode = 3 then Drive.off else if h.drive = Drive.off ∧ h.mode ≠ 3 ∧ s.conducting then Drive.pwm else h.drive }) }
    s.countPoints

/-- R214: a disable: outputs off, shadows, lock and event configuration discarded; latched causes survive. -/
def Stg.disable (s : Stg) : Stg :=
  let s := s.off
  { s with
    mode := 0, period := 0, periodSh := none, locked := false, ready := false, measuring := false, needCompare := true
    hbs := s.hbs.map (fun (h : Hb) => { h with cmp := 0, mode := 3, cmpSh := none, modeSh := none })
    points := List.replicate 6 EvPt.reset, pointsSh := List.replicate 6 none, dutyPend := none }

/-- R205: an accepted clear; the outputs go off at the next boundary. -/
def Stg.clearTrip (s : Stg) : Stg :=
  { s with tripped := false, faults := clearMask s.faults 0x3FF, needCompare := s.mode == 2 || s.needCompare }

/-- R209: switch states follow the permit inputs and the channel commands; a change asserts EV_STG_STO. -/
def Stg.switches (s : Stg) (permitA permitB : Bool) : Stg :=
  let a := !permitA || s.cmdA
  let b := !permitB || s.cmdB
  let ch := a != s.swA || b != s.swB
  let s := { s with swA := a, swB := b, events := if ch then setBit s.events 4 else s.events }
  if a || b then { s.off with gateOk := false } else s

end Sys2Proof.Machine
end

