-- ==== Sys2Proof/Machine/Motion.lean ====
section
/-! DEFINITION. Motion: when an axis is computed, how its setpoint source ends, faults, ramps, stop effects on
axes and virtual masters, master chains, and the planning of a cell cycle (R103-R116, R156-R186, R504, R505). -/

namespace Sys2Proof.Machine

/-- R310: the channel B position of an axis. -/
def SafAx.pB (s : SafAx) : Int := s.pB0 + floorFrac (s.cB * s.cfg.bNum) s.cfg.bDen

/-- R318: what the arms keep of the last cell cycle's positions of axis `i` shifted, of channel A or B. -/
def Dev.shiftArms (d : Dev) (i : Nat) (a : Bool) (sh : Int) : Dev :=
  { d with saf := { d.saf with arms := d.saf.arms.mapIdx (fun (k : Nat) (s : SafArm) =>
      let js := match (d.arm k).cfg with | some c => c.joints.map (fun (j : Joint) => j.axis) | none => []
      let move (l : List Int) : List Int := l.mapIdx (fun (j : Nat) (x : Int) => if js.getD j 128 = i then x + sh else x)
      if a then { s with lastA := move s.lastA } else { s with lastB := move s.lastB }) } }

/-- R134, R311: the position of axis `i` is set to `x`: a shift of all that earlier positions left, a new channel B
reference. -/
def Dev.setPosition (d : Dev) (i : Nat) (x : Int) : Dev :=
  let sh := x - (d.fb i).pAct
  let d := d.onFb i (fun (f : Fb) => { f.setPos x with setTo := some x })
  let d := d.onAx i (fun (a : Axis) => { a with pFresh := a.pFresh + sh, pPrev := a.pPrev + sh })
  let d := (d.shiftArms i true sh).shiftArms i false (x - (d.safAx i).pB)
  d.onSafAx i (fun (s : SafAx) =>
    let shB := x - s.pB
    { s with
      histA := s.histA.map (· + sh), histB := s.histB.map (· + shB), sdiExt := s.sdiExt.map (· + sh)
      sdiExtB := s.sdiExtB.map (· + shB), pB0 := x, cB := 0 })

/-- Strokes per second. -/
def Dev.fs (d : Dev) : Nat := strokesPerSec d.stk.cfg.code

/-- R12: the instant of the latch point that comes next. -/
def Dev.latchAt (d : Dev) : Nat :=
  if d.latchStroke = d.stk.number then d.at_ d.stk.cfg.latchNs else d.at_ (d.len + d.stk.cfg.latchNs)

/-- R103: whether the loops of an axis are computed. -/
def Axis.computed (a : Axis) : Bool :=
  !a.torqueOff && ((decide (2 ≤ a.state) && decide (a.state ≤ 4)) || (a.state == 5 && a.ramping))

/-- R103, R110, R113: whether a computed axis runs the law of `AUTO`. -/
def Axis.autoLaw (a : Axis) : Bool := a.state == 4 || a.overlay || (a.state == 5 && a.ramping)

/-- R293: the enabled arm that has an axis as a joint, and the joint. -/
def Dev.armOf (d : Dev) (axis : Nat) : Option (Nat × Nat) :=
  (List.range 8).findSome? (fun (k : Nat) =>
    let m := d.arm k
    match m.cfg with
    | some c => if m.state = 0 then none else (c.joints.findIdx? (fun (j : Joint) => j.axis == axis)).map (fun (j : Nat) => (k, j))
    | none => none)

/-- R278: whether an axis is a joint of an arm whose enable is planned. -/
def Dev.jointSoon (d : Dev) (axis : Nat) : Bool :=
  d.arms.any (fun (m : Arm) => m.enabling &&
    (match m.cfg with | some c => c.joints.any (fun (j : Joint) => j.axis == axis) | none => false))

/-- The joint axes of an arm. -/
def Arm.axes (m : Arm) : List Nat := match m.cfg with | some c => c.joints.map (·.axis) | none => []

/-! ### Sources that end -/

/-- R164, R172: a relation ends: its trims are discarded. -/
def Pf.loseRel (p : Pf) : Pf :=
  match p.rel with
  | some r =>
    if r.engaged then
      { p with rel := none, lost := true, events := setBit p.events 4, pendTrim := 0, appTrim := 0, gearSynced := false }
    else { p with rel := none }
  | none => p

/-- R164, R504: the setpoint source of an axis ends. -/
def Pf.endSource (p : Pf) : Pf :=
  { p.loseRel with
    source := 0, gen := ⟨none, []⟩, hold := false, soft := false, resuming := false, holdCycle := false, leave := none
    homeState := if p.home.isSome then 3 else p.homeState, home := none
    stepDir := { p.stepDir with enabled := false } }

/-- Both knot pairs hold a position. -/
def Pf.rest (p : Pf) (x : Int) : Pf := { p with cur := Knots.hold x, next := Knots.hold x, inPlace := true }

/-- R176, R173: a cam table is in use while a relation reads it. -/
def Dev.camsUse (d : Dev) : Dev :=
  let used := d.pfs.flatMap (fun (p : Pf) => match p.rel with
    | some r => if r.isCam then r.table :: r.nextTable.toList else []
    | none => [])
  { d with cams := (List.range d.cams.length).map (fun (i : Nat) =>
      let t := d.cam i
      if used.contains i then { t with state := if t.state = 2 then 3 else t.state }
      else { t with state := if t.state = 3 then 2 else t.state }) }

/-- R60, R504: the commands of an axis (class 0x01) or virtual master (0x12) that have not taken effect finish
with a status; area 0x00, releases and what takes effect at this very latch point stay. -/
def Dev.abortOf (d : Dev) (cls idx status : Nat) : Dev :=
  d.abort (fun (f : Flight) =>
    f.cmd.cls == cls && f.cmd.idx == idx && f.op / 256 != 0 &&
    match f.stage with
    | .pending => decide (d.stk.number < f.eff)
    | .hold => (match f.hold with
      | .stroke => true | .move _ _ => true | .rel _ => true | .home _ => true | _ => false)
    | _ => false) status

/-- R363, R366: what a relation's end does to the axis's registration: it is disabled, and its latch is free. -/
def Dev.endReg (d : Dev) (i : Nat) : Dev :=
  let r := d.reg i
  if r.enabled then
    let d := d.onReg i (fun (r : Reg) => { r with enabled := false, events := r.events ||| 4 })
    match r.cfg with
    | some c => d.onPf c.axis (fun (p : Pf) => { p with latches := upd p.latches c.latch (fun (l : Latch) => { l with armed := false, hits := [] }) })
    | none => d
  else d

/-- R164, R504: the source of axis `i` ends, with its pending and queued commands. -/
def Dev.endSource (d : Dev) (i status : Nat) : Dev :=
  let d := if (match (d.pf i).unplan.rel with | some r => r.engaged | none => false) then d.endReg i else d
  ((d.abortOf 0x01 i status).onPf i (fun (p : Pf) => p.unplan.endSource)).camsUse

/-- R123: the injection of an axis ends; its channels stop. -/
def Dev.endInj (d : Dev) (i : Nat) (early : Bool) : Dev :=
  match (d.ax i).inj with
  | none => d
  | some j =>
    let d := d.onAx i (fun (a : Axis) =>
      { a with inj := none, events := setBit a.events 3, flags := if early then setBit a.flags 6 else a.flags })
    { d with cap := j.chans.foldl (fun (c : Cap) (ch : Nat × Nat) => c.stop ch.1 false) d.cap }

/-! ### Ramps and faults -/

/-- The node position of a remote axis: segment, position, node axis. -/
def Axis.node (a : Axis) : Nat × Nat × Nat :=
  let o := a.cfg.powerObject % 2 ^ 24
  (o / 8, o % 8, a.cfg.nodeAxis)

/-- The stage of a local axis. -/
def Axis.stage (a : Axis) : Nat := a.cfg.powerObject % 2 ^ 24

/-- Whether an axis is remote. -/
def Axis.remote (a : Axis) : Bool := a.cfg.configured && a.cfg.source == 0
/-- Whether an axis is local. -/
def Axis.local_ (a : Axis) : Bool := a.cfg.configured && a.cfg.source == 1

/-- R13: whether lift takes axis `i` later, when the slots of its segment have ended. -/
def Dev.late (d : Dev) (i : Nat) : Bool := let a := d.ax i; a.remote && (d.seg a.node.1).slotOpen

/-- R105, R110: the p_act with which a setpoint begins at a latch point: that of the previous stroke, as for vel_fb. An axis
that lift takes later has no newer one. -/
def Dev.latchPos (d : Dev) (i : Nat) : Int :=
  if d.late i then (d.fb i).pAct else (d.ax i).pPrev

/-- R163, R110: the ramp of axis `i` starts: from p_cmd and v_set where the axis follows a setpoint, from p_act
and vel_fb in a manual state. -/
def Dev.startRamp (d : Dev) (i : Nat) (decel : Int) : Dev :=
  let a := d.ax i
  let auto := a.state = 4 ∨ a.overlay = true ∨ a.ramping = true
  let r : Ramp :=
    if auto then Ramp.start a.loop.pCmd a.loop.vSet decel d.fs
    else
      let pa := d.latchPos i
      -- vel_fb of 2^-15 velocity spans, in pu per stroke x 2^32
      ⟨pa * (2 ^ 32 : Nat), a.loop.velFb * ((2 ^ (a.cfg.velSpan + 17) : Nat) : Int), rampD decel d.fs⟩
  let d := d.onPf i (fun (p : Pf) => { p with ramp := some r })
  if auto then d
  else d.onAx i (fun (a : Axis) =>
    { a with
      overlay := a.state == 2 || a.state == 3
      preVel := a.state == 2, preIp := a.state == 3
      loop := { a.loop with ip := 0, vSet := 0 } })

/-- R114: torque goes off at an axis. -/
def Dev.axTorqueOff (d : Dev) (i : Nat) : Dev :=
  (d.onAx i (fun (a : Axis) => { a with torqueOff := true, ramping := false, overlay := false })).onPf i
    (fun (p : Pf) => { p with ramp := none })

/-- R113: axis `i` faults with a code; `ramp` selects the ramp reaction. -/
def Dev.axFault (d : Dev) (i code : Nat) (ramp : Bool) : Dev :=
  let a := d.ax i
  if a.state = 5 then
    if a.ramping ∧ ¬ ramp then
      (d.onAx i (fun (a : Axis) => { a with flags := setBit a.flags 5 })).axTorqueOff i
    else d
  else if a.state = 0 then d
  else
    -- an axis without torque has nothing to ramp
    let ramp := ramp && a.computed
    let d := d.endInj i true
    let d := if a.state = 4 then d.endSource i ST.faulted else d.onPf i Pf.endSource
    let d := if ramp then (d.startRamp i a.lim.qsDecel).onPf i (fun (p : Pf) => { p with source := 7 })
      else d.axTorqueOff i
    d.onAx i (fun (a : Axis) =>
      { a with state := 5, faultCode := code, events := setBit a.events 0, ramping := ramp, overlay := false })

/-- R504: axis `i` loses its source because torque goes off for a cause other than a fault. -/
def Dev.axRelease (d : Dev) (i status : Nat) : Dev := ((d.endInj i true).endSource i status).axTorqueOff i

/-! ### Stop effects -/

/-- R110, R114, R164: a stop effect begins on an axis that is no joint of an enabled arm. `code` is the `stop`
code of R124 and is stronger than the one in force. -/
def Dev.stopAxis (d : Dev) (i code : Nat) : Dev :=
  let a := d.ax i
  let d := (d.endInj i true).abortOf 0x01 i ST.abortStop
  let d := d.onPf i (fun (p : Pf) => let q := p.unplan; { q with gen := { q.gen with queue := [] } })
  let p := d.pf i
  let d := d.onAx i (fun (a : Axis) => { a with stop := code, qsCount := 0 })
  let ramped (decel : Int) : Dev :=
    if a.computed ∧ ¬ a.ramping then
      ((d.endSource i ST.abortStop).startRamp i decel).onPf i (fun (p : Pf) => { p with source := 7 })
    else d.endSource i ST.abortStop
  match code with
  | 5 => (d.endSource i ST.abortStop).axTorqueOff i
  | 2 =>
    if a.state = 4 ∧ a.computed ∧ (p.source ≤ 3 ∨ p.source = 7) then
      let d := d.onPf i (fun (p : Pf) => { p with hold := p.source != 7, resuming := false, holdCycle := true })
      match p.source, p.gen.run with
      | 1, some m => if p.ramp.isNone then d.startRamp i m.req.decel else d
      | _, _ => d
    else ramped a.lim.haltDecel
  | 1 => ramped a.lim.haltDecel
  | _ => ramped a.lim.qsDecel

/-- R167: a stop effect on a virtual master. -/
def Dev.stopVm (d : Dev) (v code : Nat) : Dev :=
  let d := (d.abortOf 0x12 v ST.abortStop).onVm v (fun (m : Vm) => let m := m.unplan; { m with stop := code, resuming := false })
  let m := d.vm v
  if m.source ≠ 0 ∨ ¬ m.enabled then d
  else if code = 5 then
    d.onVm v (fun (m : Vm) => { m with gen := ⟨none, []⟩, ramp := none, dPos := 0, vel := 0, cur := Knots.hold m.pos, next := Knots.hold m.pos })
  else
    d.onVm v (fun (m : Vm) =>
      { m with gen := if code = 2 then { m.gen with queue := [] } else ⟨none, []⟩, ramp := some (Ramp.start m.pos m.vel m.decel d.fs) })

/-- An object of the master chains: axis n, or virtual master n - 128. -/
abbrev Obj := Nat

/-- R167, R169: the object an object follows. -/
def Dev.follows (d : Dev) (o : Obj) : Option Obj :=
  if o < 128 then
    match (d.pf o).rel with
    | some r => some (if r.mCls = 0x12 then 128 + r.mIdx else r.mIdx)
    | none => none
  else
    let m := d.vm (o - 128)
    if m.enabled ∧ m.source ≠ 0 then some m.object else none

/-- All objects. -/
def allObjs : List Obj := List.range 144

/-- R60, R166: the object an object follows in the plans that are in force. -/
def Dev.followsNow (d : Dev) (o : Obj) : Option Obj :=
  if o < 128 then
    match (d.pf o).unplan.rel with
    | some r => if r.engaged then some (if r.mCls = 0x12 then 128 + r.mIdx else r.mIdx) else none
    | none => none
  else
    let m := (d.vm (o - 128)).unplan
    if m.enabled ∧ m.source ≠ 0 then some m.object else none

/-- R166: the objects a set of objects extends to: the masters of its members, and the followers of each master
of the chain. -/
def Dev.chain (d : Dev) : Nat → List Obj → List Obj
  | 0, s => s
  | k + 1, s =>
    let ups := s.filterMap d.followsNow
    let masters := (ups ++ s.filter (fun (o : Obj) => decide (128 ≤ o))).eraseDups
    let downs := allObjs.filter (fun (o : Obj) => match d.followsNow o with | some m => masters.contains m | none => false)
    let s' := (s ++ ups ++ downs).eraseDups
    if s'.length = s.length then s else d.chain k s'

/-- R166: the objects a feed hold on axis `i` extends to; the axis alone where it follows no master. -/
def Dev.holdSet (d : Dev) (i : Nat) : List Obj :=
  match d.followsNow i with
  | some _ => d.chain 144 [i]
  | none => [i]

/-- The stop code in force on an object. -/
def Dev.stopOf (d : Dev) (o : Obj) : Nat := if o < 128 then (d.ax o).stop else (d.vm (o - 128)).stop

/-- R57: an effect only strengthens what is in force. -/
def Dev.strengthen (d : Dev) (o : Obj) (code : Nat) : Dev :=
  if d.stopOf o < code then (if o < 128 then d.stopAxis o code else d.stopVm (o - 128) code) else d

/-- R58, R164: a stop category or halt on an axis is released. -/
def Dev.releaseAxis (d : Dev) (i : Nat) : Dev :=
  let a := d.ax i
  if a.stop = 0 ∨ a.stop = 2 then d
  else
    let d := d.onAx i (fun (a : Axis) => { a with stop := 0, qsCount := 0 })
    if a.torqueOff ∧ 2 ≤ a.state ∧ a.state ≤ 4 then
      let x := (d.fb i).pAct
      (d.onAx i (fun (a : Axis) => { a with torqueOff := false, loop := { a.loop.zeroed with pCmd := x, vSet := 0 } })).onPf i
        (fun (p : Pf) => { (p.rest x) with cmd := x, vel := 0 })
    else d

/-- R58: a stop on a virtual master is released; a ramp runs on to rest. -/
def Dev.releaseVm (d : Dev) (v : Nat) : Dev :=
  d.onVm v (fun (m : Vm) => if m.stop = 2 then m else { m with stop := 0 })

/-! ### Planning a cell cycle -/

/-- A ramp after `k` strokes. -/
def Ramp.after : Nat → Ramp → Ramp
  | 0, r => r
  | k + 1, r => Ramp.after k r.step

/-- The velocity of a ramp in pu per cell cycle. -/
def Ramp.velCycle (r : Ramp) (n : Nat) : Int := Int.fdiv (r.v * n) (2 ^ 32)

/-- R167: the knots of the next cell cycle from a ramp's values at its boundaries. -/
def Ramp.knots (r : Ramp) (n : Nat) : Knots :=
  let a := r.after n
  let b := a.after n
  ⟨a.pos, a.velCycle n, b.pos, b.velCycle n⟩

/-- R280: the knots of a joint that the span after the one in use gives. -/
def Dev.jointKnots (d : Dev) (k j : Nat) (x : Int) : Knots :=
  match (d.arm k).spans with
  | _ :: s :: _ => s.knots.getD j (Knots.hold x)
  | [s] => Knots.hold (s.knots.getD j (Knots.hold x)).p1
  | [] => Knots.hold x

/-- R167, R505: the knots an axis gives a follower in the next cell cycle; `val` 1 takes p_act, `prev` the knots
of this cycle. -/
def Dev.axisKnots (d : Dev) (i val : Nat) (prev : Option Knots) : Knots :=
  let p := d.pf i
  if val = 1 then
    let f := d.fb i
    extrapolate f.pAct (d.ax i).delta d.cyc prev
  else
    match p.source, p.ramp with
    | 7, _ => extrapolate p.cmd p.vel d.cyc prev
    | 4, _ => extrapolate p.cmd p.vel d.cyc prev
    | 0, _ => Knots.hold p.cmd
    | 5, _ => (match d.armOf i with | some (k, j) => d.jointKnots k j p.cmd | none => Knots.hold p.cmd)
    | _, some r => if p.resuming then p.next else r.knots d.cyc
    | _, none => p.next

/-- The knots of a relation's master in the next cell cycle. -/
def Dev.masterKnots (d : Dev) (r : Rel) : Knots :=
  if r.mCls = 0x12 then
    let m := d.vm r.mIdx
    match m.ramp with | some q => if m.resuming then m.next else q.knots d.cyc | none => m.next
  else d.axisKnots r.mIdx r.mVal r.mKnots

/-- A fraction with a positive denominator. -/
def normFrac (a b : Int) : Int × Nat := if b < 0 then (-a, (-b).toNat) else (a, b.toNat)

/-- R169, R175: the value and slope of a relation at master position `m`, without the phase; and whether a
non-periodic cam table is left. -/
def Dev.relValue (d : Dev) (r : Rel) (m : Int) : Int × (Int × Int) × Bool :=
  if r.isCam then
    let v := (d.cam r.table).value (m - r.xOff)
    (r.b + v.1, v.2.1, v.2.2)
  else (r.b + gearG r.no r.do_ r.nn r.dn r.len (m - r.mc), gearSlope r.no r.do_ r.nn r.dn r.len (m - r.mc), false)

/-- R176: whether a waiting relation engages at a cycle that starts at master position `m`. -/
def Rel.due (r : Rel) (m : Int) : Bool :=
  match r.waitAt with
  | none => true
  | some e =>
    match r.firstM with
    | none => m == e
    | some f => if f ≤ e then decide (e ≤ m) else decide (m ≤ e)

/-- R169, R176: a relation engages at master position `m` with the slave at `p`. -/
def Dev.engage (d : Dev) (r : Rel) (m p : Int) : Rel :=
  let phi := { r.phi with now := 0, nowV := 0, goal := 0 }
  if r.isCam then
    { r with engaged := true, b := p - ((d.cam r.table).value (m - r.xOff)).1, mc := m, phi := phi }
  else { r with engaged := true, b := p, mc := m, phi := phi }

/-- R170: a ratio change at master position `m` with the slave at `p`. -/
def Rel.rebase (r : Rel) (m p : Int) : Rel :=
  match r.ratio with
  | some (num, den, len) =>
    let s := gearSlope r.no r.do_ r.nn r.dn r.len (m - r.mc)
    let o := normFrac s.1 s.2
    { r with no := o.1, do_ := o.2, nn := num, dn := den, len := len, b := p - r.phi.now, mc := m, ratio := none }
  | none => r

/-- R177: the table change at a period boundary that the master passes from `m0` to `m1`. -/
def Dev.camSwitch (d : Dev) (r : Rel) (m0 m1 : Int) : Rel :=
  match r.nextTable with
  | none => r
  | some t2 =>
    let t := d.cam r.table
    let x0 := (t.pt 0).x
    let X := (t.pt (t.n - 1)).x - x0
    if X ≤ 0 then r
    else
      let k0 := Int.fdiv (m0 - r.xOff - x0) X
      let k1 := Int.fdiv (m1 - r.xOff - x0) X
      if k0 = k1 then r
      else
        let bd := r.xOff + x0 + (if k0 < k1 then k0 + 1 else k0) * X
        let u := d.cam t2
        let xOff := bd - (u.pt 0).x
        { r with
          table := t2, nextTable := none, xOff := xOff
          b := r.b + (t.value (bd - r.xOff)).1 - (u.value (bd - xOff)).1 }

/-- R161: a queued move of an object has started: its command takes effect at stroke `eff`. -/
def Dev.startQueued (d : Dev) (cls idx eff : Nat) : Dev :=
  let hit (f : Flight) : Bool := f.stage == .hold && f.hold == .move cls idx
  match d.nov.flights.findIdx? hit with
  | some k => { d with nov := { d.nov with flights := upd d.nov.flights k (fun (f : Flight) => { f with hold := .stroke, eff := eff }) } }
  | none => d

/-- The first stroke of the next cell cycle, at a planning point. -/
def Dev.nextCycle (d : Dev) : Nat := d.stk.number - d.stk.cyclePhase + d.cyc

/-- R160, R161: source 1 in the next cell cycle, from the state (p, v) and the acceleration `a0` at the scale of the
profiles. -/
def Dev.planMove (d : Dev) (i : Nat) (p v a0 : Int) : Dev :=
  let g := (d.pf i).gen.plan d.cyc d.fs p v a0 d.free
  let d := (d.skip 2).onPf i (fun (q : Pf) =>
    { q with
      gen := g.1, next := g.2.1, events := if g.2.2.1 then setBit q.events 0 else q.events
      source := if g.1.run.isNone && g.1.queue.isEmpty then 0 else 1 })
  if g.2.2.2 then d.startQueued 0x01 i d.nextCycle else d

/-- R169-R177: sources 2 and 3 in the next cell cycle, from the state (p, v). -/
def Dev.planRel (d : Dev) (i : Nat) (r : Rel) (p v : Int) : Dev :=
  let mk := d.masterKnots r
  let r := { r with mKnots := some mk, firstM := some (r.firstM.getD mk.p0) }
  if !r.engaged && !r.due mk.p0 then
    d.onPf i (fun (q : Pf) => { q with rel := some r, next := if q.source = 0 then Knots.hold p else q.next })
  else if !r.engaged && (d.pf i).source != 0 && r.waitAt.isSome then
    (d.finishHold (fun (h : Hold) => h == .rel i) ST.busy 0 [] none).onPf i (fun (q : Pf) => { q with rel := none })
  else
    let fresh := !r.engaged
    let r := if fresh then d.engage r mk.p0 p else r
    let r := r.rebase mk.p0 p
    let r := if r.isCam then d.camSwitch r mk.p0 mk.p1 else r
    let ph := r.phi.plan d.cyc d.fs d.free
    let r := { r with phi := ph.1 }
    let v0 := d.relValue r mk.p0
    let v1 := d.relValue r mk.p1
    let k : Knots :=
      ⟨p, if !r.isCam ∧ r.len = 0 then slopeVel v0.2.1.1 v0.2.1.2 mk.v0 (d.free + 2) + ph.2.v0 else v,
       v1.1 + ph.2.p1, slopeVel v1.2.1.1 v1.2.1.2 mk.v1 (d.free + 3) + ph.2.v1⟩
    let synced := !r.isCam && gearReached r.len (mk.p1 - r.mc)
    let d := if fresh ∧ r.waitAt.isSome then
        { d with nov := { d.nov with flights := d.nov.flights.map (fun (f : Flight) =>
            if f.stage == .hold && f.hold == .rel i then { f with hold := .stroke, eff := d.nextCycle } else f) } }
      else d
    (d.skip 4).onPf i (fun (q : Pf) =>
      { q with
        source := if r.isCam then 3 else 2, rel := some r, next := k
        gearSynced := synced, events := if synced && !q.gearSynced then setBit q.events 1 else q.events
        camRange := q.camRange || v1.2.2 })

/-- R181: the result of a homing that has succeeded. -/
def Dev.homeDone (d : Dev) (i : Nat) (h : Home) : Dev :=
  let d := d.finishHold (fun (x : Hold) => x == .home i) ST.ok 0 [] none
  let d := d.setPosition i h.position
  let d := d.onAx i (fun (a : Axis) => { a with loop := { a.loop with pCmd := h.position, vSet := 0 } })
  d.onPf i (fun (q : Pf) =>
    { (q.rest h.position) with source := 0, home := none, homeState := 2, events := setBit q.events 3, cmd := h.position, vel := 0 })

/-- R181: a homing that has used up its travel. -/
def Dev.homeFail (d : Dev) (i : Nat) : Dev :=
  let d := d.finishHold (fun (x : Hold) => x == .home i) ST.homeFailed 0 [] none
  let d := d.onPf i (fun (q : Pf) => { q with source := 7, home := none, homeState := 3, events := setBit q.events 3 })
  d.startRamp i (d.ax i).lim.haltDecel

/-- R181: source 6 at a planning point. -/
def Dev.planHome (d : Dev) (i : Nat) (h : Home) (p v : Int) : Dev :=
  let judged := decide (h.blank < h.cycles)
  let stalled := if judged ∧ Config.stallCycle d.free = true then h.stalled + 1 else 0
  let h := { h with cycles := h.cycles + 1, stalled := stalled }
  let d := d.skip 1
  if 0 < h.count ∧ h.count ≤ stalled then d.homeDone i h
  else if h.maxTravel ≤ (((d.pf i).cmd - h.start).natAbs : Int) then d.homeFail i
  else
    let m0 := if h.prof.k = 0 then h.prof.req.start p v 0 else h.prof
    let g := m0.plan d.cyc d.fs p v d.free
    (d.skip 2).onPf i (fun (q : Pf) => { q with home := some { h with prof := g.1 }, next := g.2.1 })

/-- R157, R160: position and velocity at the start of the next cell cycle, at a planning point. -/
def Pf.planState (p : Pf) (n : Nat) : Int × Int :=
  match p.ramp with
  | some r => let e := r.after n; (e.pos, e.velCycle n)
  | none => (p.cur.p1, p.cur.v1)

/-- R159, R163: the acceleration of a ramp, in pu per cell cycle squared at the scale of the profiles. -/
def Ramp.accCycle (r : Ramp) (n : Nat) : Int :=
  Int.fdiv ((if 0 < r.v then -r.d else if r.v < 0 then r.d else 0) * (n * n : Nat) * profScale) (2 ^ 32)

/-- R159, R165: the acceleration at the start of the next cell cycle where a ramp leads to it. -/
def rampAcc (r : Option Ramp) (n : Nat) : Int := match r with | some r => (r.after n).accCycle n | none => 0

/-- R157, R160-R177: the knots of axis `i` for the next cell cycle. -/
def Dev.planAxis (d : Dev) (i : Nat) : Dev :=
  let a := d.ax i
  let p := d.pf i
  if a.state = 0 then d
  else if !(a.state == 4 && a.computed) then
    d.onPf i (fun (q : Pf) => { q with next := Knots.hold (if a.computed then q.cmd else (d.fb i).pAct) })
  else
    let n := d.cyc
    let s := p.planState n
    match p.source with
    | 1 =>
      if p.ramp.isSome ∨ p.hold then
        if p.resuming then
          let g : Gen := { p.gen with run := p.gen.run.map Prof.restart }
          (d.onPf i (fun (q : Pf) => { q with gen := g })).planMove i s.1 s.2 (rampAcc p.ramp n)
        else d.onPf i (fun (q : Pf) => { q with next := Knots.hold s.1 })
      else d.planMove i s.1 s.2 0
    | 6 => (match p.home with | some h => d.planHome i h s.1 s.2 | none => d)
    | 7 => d.onPf i (fun (q : Pf) => { q with next := Knots.hold q.cmd })
    | 4 => d.onPf i (fun (q : Pf) => { q with next := Knots.hold q.cmd })
    | 5 => d.onPf i (fun (q : Pf) => { q with next := Knots.hold q.cmd })
    | _ => (match p.rel with
      | some r => d.planRel i r s.1 s.2
      | none => d.onPf i (fun (q : Pf) => { q with next := Knots.hold s.1 }))

/-- R167: the knots of a virtual master for the next cell cycle. -/
def Dev.planVm (d : Dev) (v : Nat) : Dev :=
  let m := d.vm v
  if !m.enabled then d
  else
    match m.source with
    | 0 =>
      (match m.startAt with
      | some x => d.onVm v (fun (m : Vm) => { m with next := Knots.hold x, startAt := none })
      | none =>
        let s : Int × Int := match m.ramp with
          | some r => let e := r.after d.cyc; (e.pos, e.velCycle d.cyc)
          | none => (m.cur.p1, m.cur.v1)
        if m.ramp.isSome ∧ ¬ m.resuming then d.onVm v (fun (m : Vm) => { m with next := Knots.hold s.1 })
        else if m.stop = 2 ∧ ¬ m.resuming then d.onVm v (fun (m : Vm) => { m with next := Knots.hold s.1 })
        else
          let g0 := if m.resuming then { m.gen with run := m.gen.run.map Prof.restart } else m.gen
          let g := g0.plan d.cyc d.fs s.1 s.2 (rampAcc m.ramp d.cyc) d.free
          let d := (d.skip 2).onVm v (fun (m : Vm) =>
            { m with gen := g.1, next := g.2.1, events := if g.2.2.1 then setBit m.events 0 else m.events })
          if g.2.2.2 then d.startQueued 0x12 v d.nextCycle else d)
    | 1 =>
      let k := d.axisKnots m.object 0 (if m.primed then some m.cur else none)
      d.onVm v (fun (m : Vm) => { m with next := k, primed := true })
    | _ =>
      let k := d.axisKnots m.object 1 (if m.primed then some m.cur else none)
      d.onVm v (fun (m : Vm) => { m with next := k, primed := true })

/-- How far an object stands from the root of its master chain (R167: roots are planned first). -/
def Dev.depth (d : Dev) : Nat → Obj → Nat
  | 0, _ => 0
  | k + 1, o => match d.follows o with | some m => 1 + d.depth k m | none => 0

/-- All objects, the roots of the master chains first. -/
def Dev.rootFirst (d : Dev) : List Obj :=
  let ds := allObjs.map (fun (o : Obj) => (o, d.depth 144 o))
  let top := ds.foldl (fun (m : Nat) (x : Obj × Nat) => max m x.2) 0
  (List.range (top + 1)).flatMap (fun (k : Nat) => (ds.filter (fun (x : Obj × Nat) => x.2 == k)).map (·.1))

/-- R157: a planning point: the knots of the next cell cycle, root first. -/
def Dev.planAll (d : Dev) : Dev :=
  (d.rootFirst.foldl (fun (d : Dev) (o : Obj) => if o < 128 then d.planAxis o else d.planVm (o - 128)) d).camsUse

/-- R92, R165, R166, R186: the first stroke of a cell cycle: the knots change over, holds that were resumed end,
and disengagements taken by the planner begin. -/
def Dev.turnAxis (d : Dev) (i : Nat) : Dev :=
  let p := d.pf i
  let late := !p.inPlace
  let k := if late then Knots.hold p.cur.p1 else p.next
  let d := d.onPf i (fun (q : Pf) => { q with cur := k, inPlace := true, holdCycle := false, prior := none })
  let d := if late then d.onAx i (fun (a : Axis) => { a with flags := setBit a.flags 4 }) else d
  let d := if p.resuming then
      (d.onAx i (fun (a : Axis) => { a with stop := if a.stop = 2 then 0 else a.stop, overlay := false })).onPf i
        (fun (q : Pf) => { q with resuming := false, hold := false, soft := false, ramp := if q.hold || q.soft then none else q.ramp })
    else d
  match p.leave with
  | some dec =>
    let x := p.cmd
    let d := d.endReg i
    let d := d.onPf i (fun (q : Pf) =>
      { (q.rest x) with rel := none, leave := none, gearSynced := false, pendTrim := 0, appTrim := 0, source := 7, hold := false })
    d.startRamp i dec
  | none => d

/-- The first stroke of a cell cycle for a virtual master. -/
def Dev.turnVm (d : Dev) (v : Nat) : Dev :=
  d.onVm v (fun (m : Vm) =>
    let m := { m with cur := m.next, prior := none }
    if m.resuming then { m with resuming := false, stop := 0, ramp := none } else m)

/-- R166, R167: the ramped state of an axis over the cell cycle that starts now: position and velocity at its start and
at its end. -/
def Dev.rampedAxis (d : Dev) (i : Nat) : Int × Int × Int × Int :=
  match (d.pf i).ramp with
  | some q => let e := q.after d.cyc; (q.pos, q.velCycle d.cyc, e.pos, e.velCycle d.cyc)
  | none => let k := (d.pf i).cur; (k.p0, k.v0, k.p1, k.v1)

/-- R166, R167: a held master of source 1 goes on along the ramp of its axis. -/
def Dev.reholdVm (d : Dev) (v : Nat) : Dev :=
  let m := d.vm v
  if m.enabled && m.source == 1 && m.stop == 2 && !m.resuming then
    let r := d.rampedAxis m.object
    d.onVm v (fun (m : Vm) => { m with cur := ⟨r.1, r.2.1, r.2.2.1, r.2.2.2⟩ })
  else d

/-- R166: from the cell cycle after a hold began, followers are evaluated on the ramped master: the knots of the
cycle that starts now, replanned. -/
def Dev.reholdAxis (d : Dev) (i : Nat) : Dev :=
  let p := d.pf i
  match p.rel with
  | some r =>
    if r.engaged && p.hold && !p.resuming then
      let now : Int × Int × Int × Int :=
        if r.mCls = 0x12 then
          let m := d.vm r.mIdx
          match m.ramp with
          | some q => let e := q.after d.cyc; (q.pos, q.velCycle d.cyc, e.pos, e.velCycle d.cyc)
          | none => (m.cur.p0, m.cur.v0, m.cur.p1, m.cur.v1)
        else d.rampedAxis r.mIdx
      let v1 := d.relValue r now.2.2.1
      let v0 := slopeVel v1.2.1.1 v1.2.1.2 now.2.1 d.free
      (d.skip 2).onPf i (fun (q : Pf) =>
        { q with cur := ⟨q.cmd - q.appTrim, v0, v1.1 + r.phi.now, slopeVel v1.2.1.1 v1.2.1.2 now.2.2.2 (d.free + 1)⟩ })
    else d
  | none => d

/-! ### The setpoint of a stroke -/

/-- The increment of p_cmd that knots plan for the stroke with cycle phase `j`. -/
def Knots.inc (k : Knots) (j n : Nat) : Int := interpPos k j n - (if j = 0 then k.p0 else interpPos k (j - 1) n)

/-- R166: the planned and the given increment of a relation's master in this stroke. -/
def Dev.masterInc (d : Dev) (r : Rel) : Int × Int :=
  let j := d.stk.cyclePhase
  if r.mCls = 0x12 then let m := d.vm r.mIdx; (m.cur.inc j d.cyc, m.dPos)
  else let p := d.pf r.mIdx; (p.cur.inc j d.cyc, p.vel)

/-- R163: one stroke of a ramp of an axis. Without a position loop only the velocity ramps (R110). -/
def Dev.rampAxis (d : Dev) (i : Nat) (r : Ramp) : Dev :=
  let r' := r.step
  let x := if (d.ax i).cfg.posLoop = 0 then (d.fb i).pAct else r'.pos
  d.onPf i (fun (q : Pf) => { q with vel := r'.pos - r.pos, cmd := x, ramp := some r', rampWas := some (r, q.cmd, q.vel) })

/-- R163: a ramp that has reached zero velocity ends: the axis holds p_cmd, with source 0 unless a feed hold stands over its
source. What is planned for the next cell cycle stands. -/
def Pf.rampEnd (p : Pf) : Pf :=
  match p.ramp with
  | some r =>
    if r.v ≠ 0 then p
    else if p.resuming && (p.hold || p.soft) then { p with ramp := none, cur := Knots.hold p.cmd }
    else { (p.rest p.cmd) with ramp := none, source := if p.hold then p.source else 0, soft := false }
  | none => p

/-- R92, R163, R166, R172, R183: p_cmd and v_set of an axis for the stroke; `t` is the latch instant. -/
def Dev.setAxis (d : Dev) (i t : Nat) : Dev :=
  let d := d.onPf i (fun (q : Pf) => { q with rampWas := none })
  let a := d.ax i
  let p := d.pf i
  if a.state = 0 then d
  else if !a.computed || !a.autoLaw then
    let x := (d.fb i).pAct
    d.onPf i (fun (q : Pf) => { (q.rest x) with cmd := x, vel := 0 })
  else
    let j := d.stk.cyclePhase
    match p.ramp with
    | some r => d.rampAxis i r
    | none =>
      if p.source = 5 then d
      else if a.cfg.posLoop = 0 then d.onPf i (fun (q : Pf) => { q with cmd := (d.fb i).pAct, vel := 0 })
      else if p.source = 4 then
        let x := p.stepDir.pos t (strokeNs d.stk.cfg.code)
        d.onPf i (fun (q : Pf) => { q with vel := x - q.cmd, cmd := x })
      else
        match p.rel with
        | some r =>
          if r.engaged then
            let mv := trimMove r.trimStep p.pendTrim
            let ap := p.appTrim + mv
            if p.holdCycle then
              let inc := d.masterInc r
              let own := p.cur.inc j d.cyc
              let dx := if inc.1 = 0 then 0 else
                (if 0 < inc.1 then rdivUp (own * inc.2) inc.1.toNat else rdivUp (-(own * inc.2)) (-inc.1).toNat)
              d.onPf i (fun (q : Pf) => { q with vel := dx, cmd := q.cmd + dx + mv, pendTrim := q.pendTrim - mv, appTrim := ap })
            else
              d.onPf i (fun (q : Pf) =>
                { q with vel := interpVel q.cur j d.cyc, cmd := interpPos q.cur j d.cyc + ap, pendTrim := q.pendTrim - mv, appTrim := ap })
          else d.onPf i (fun (q : Pf) => { q with vel := interpVel q.cur j d.cyc, cmd := interpPos q.cur j d.cyc })
        | none => d.onPf i (fun (q : Pf) => { q with vel := interpVel q.cur j d.cyc, cmd := interpPos q.cur j d.cyc })

/-- R166, R167: in the cell cycle in which a feed hold begins, a master of source 1 that is held takes the increments
of its axis. -/
def Dev.heldVm (d : Dev) (m : Vm) : Bool :=
  m.source == 1 && m.stop == 2 && !m.resuming && (d.pf m.object).holdCycle

/-- R167: the per-stroke value of a virtual master. -/
def Dev.setVm (d : Dev) (v : Nat) : Dev :=
  let m := d.vm v
  if !m.enabled then d
  else if d.heldVm m then
    let x := (d.pf m.object).vel
    d.onVm v (fun (m : Vm) => { m with dPos := x, vel := x, pos := m.pos + x })
  else
    match m.ramp with
    | some r =>
      let r' := r.step
      let x := r'.pos
      d.onVm v (fun (m : Vm) =>
        let m := { m with dPos := x - m.pos, vel := x - m.pos, pos := x, ramp := some r' }
        if r'.v = 0 then { m with ramp := none, cur := Knots.hold x, next := Knots.hold x } else m)
    | none =>
      let x := interpPos m.cur d.stk.cyclePhase d.cyc
      d.onVm v (fun (m : Vm) => { m with dPos := x - m.pos, vel := interpVel m.cur d.stk.cyclePhase d.cyc, pos := x })

/-- The setpoints of a stroke, root first. -/
def Dev.setpoints (d : Dev) (t : Nat) : Dev :=
  d.rootFirst.foldl (fun (d : Dev) (o : Obj) => if o < 128 then d.setAxis o t else d.setVm (o - 128)) d

end Sys2Proof.Machine
end

