-- ==== Sys2Proof/Machine/CellOps.lean ====
section
/-! DEFINITION. The arms of the cell at the positions of their joints: TCP speeds, the arm record's once-per-cycle values,
zones touched, and what a cell cycle leaves for the next one (R277, R300, R303, R318, R325). -/

namespace Sys2Proof.Machine

/-- The positions of the joints of an arm, of channel A (R307). -/
def Dev.armPos (d : Dev) (k : Nat) : List Int := (d.arm k).axes.map (fun (i : Nat) => (d.fb i).pAct)
/-- The positions of the joints of an arm, of channel B (R310). -/
def Dev.armPosB (d : Dev) (k : Nat) : List Int := (d.arm k).axes.map (fun (i : Nat) => (d.safAx i).pB)

/-- R318: the mean TCP speed of an arm between two sets of joint positions, one cell cycle apart. -/
def Dev.tcpMean (d : Dev) (k : Nat) (was now : List Int) : Int :=
  let m := d.arm k
  if was.length = now.length then meanSpeed (m.tcp was).pos (m.tcp now).pos d.fs d.cyc else 0

/-- R303, R318: the TCP speed of an arm at the first lift latch point of a cell cycle. -/
def Dev.tcpSpeed (d : Dev) (k : Nat) : Int := d.tcpMean k (d.safArm k).lastA (d.armPos k)

/-- R325: the largest speed of a sphere centre of an arm over the last cell cycle, in channel B. -/
def Dev.sphereSpeed (d : Dev) (k : Nat) : Int :=
  let m := d.arm k
  let was := (d.safArm k).lastB
  let now := d.armPosB k
  if was.length = now.length then
    (((m.caps was).zip (m.caps now)).map (fun (c : (V3 × V3 × Int) × (V3 × V3 × Int)) =>
      meanSpeed (sphereOf c.1).1 (sphereOf c.2).1 d.fs d.cyc)).foldl (fun (a b : Int) => max a b) 0
  else 0

/-- R318: whether the mean TCP speed of an arm is above its limit, in channel A or in channel B. -/
def Dev.tcpTooFast (d : Dev) (k : Nat) : Bool :=
  let s := d.safArm k
  let lim := gFx s.slsTcp
  let two := (d.arm k).axes.all (fun (i : Nat) => (d.safAx i).cfg.bSource != 0xFF && (d.safAx i).cfg.bDen != 0)
  !leBand (d.tcpSpeed k) lim gSlack d.free 0 ||
    (two && !leBand (d.tcpMean k s.lastB (d.armPosB k)) (lim + (Config.tcpTolB : Nat)) gSlack d.free 1)

/-- R300: whether an arm touches a zone at the present positions of its joints, or its planned path in the present run
touches it again. A flushed path touches nothing. -/
def Dev.armTouches (d : Dev) (k z : Nat) : Bool :=
  let m := d.arm k
  m.touches (d.zone z) (d.armPos k) d.free z ||
    (!(m.spans.isEmpty && m.yard.segs.isEmpty) && bit (Config.armTouches d.free) z)

/-- R277, R303: the values of the arm record at 0x30 to 0x7F: TCP position, orientation and speed, T_stop and S_stop. -/
def Dev.armPose (d : Dev) (k : Nat) : List Nat :=
  let m := d.arm k
  let f := d.free
  let t := m.tcp (d.armPos k)
  let v := d.tcpSpeed k
  let q := m.live v m.rate d.fs f 131
  [t.pos.1, t.pos.2.1, t.pos.2.2, t.w, t.v.1, t.v.2.1, t.v.2.2, v, q.1, q.2].mapIdx (fun (i : Nat) (x : Int) => toFpNear x f i)

/-- R303: the record of an arm refreshed at the first lift latch point of a cell cycle, once the arm is described. -/
def Dev.armRecord (d : Dev) (k : Nat) : Dev :=
  let m := d.arm k
  if m.cfg.isSome && m.tools.isSome && m.model.isSome then
    (d.skip 1).onArm k (fun (m : Arm) => { m with pose := d.armPose k ++ m.pose.drop 10 })
  else d

/-- R318, R325: the positions of a cell cycle kept for the next one. -/
def Dev.armKeep (d : Dev) (k : Nat) : Dev :=
  let a := d.armPos k
  let b := d.armPosB k
  if (d.arm k).cfg.isSome then d.onSafArm k (fun (s : SafArm) => { s with lastA := a, lastB := b }) else d

end Sys2Proof.Machine
end

