-- ==== Sys2Proof/Machine/Lift.lean ====
section
/-! DEFINITION. What lift does with one axis: its feedback instant, age and measurements, its faults, and the run
of its law; and the fast runs of local stages (R95-R102, R112, R113, R117-R119, R130-R134, R182, R224). -/

namespace Sys2Proof.Machine

/-- R87: of the axes a condition names, the enabled one, or the first. -/
def Dev.bound (d : Dev) (p : Axis → Bool) : Option Nat :=
  match (List.range 128).find? (fun (i : Nat) => (d.ax i).state != 0 && p (d.ax i)) with
  | some i => some i
  | none => (List.range 128).find? (fun (i : Nat) => p (d.ax i))

/-- The axis bound to a stage. -/
def Dev.stageAxis (d : Dev) (s : Nat) : Option Nat := d.bound (fun (a : Axis) => a.local_ && a.stage == s)

/-- The axis bound to a node axis. -/
def Dev.nodeAxisOf (d : Dev) (seg pos na : Nat) : Option Nat := d.bound (fun (a : Axis) => a.remote && a.node == (seg, pos, na))

/-- The node position record of a remote axis, and its axis entry. -/
def Dev.nodeOf (d : Dev) (a : Axis) : NodePos := let n := a.node; (d.seg n.1).node n.2.1
def Dev.entryOf (d : Dev) (a : Axis) : NodeAxis := (d.nodeOf a).axes.getD a.node.2.2 ⟨0, 0, 0, 0, 0⟩
/-- The ident record in the identity cache for a remote axis. -/
def Dev.identOf (d : Dev) (a : Axis) : Bytes :=
  let n := a.node
  ((d.idents.getD (8 * n.1 + n.2.1) none).getD [])

/-- R117: whether this stroke delivered a remote axis's data. -/
def Dev.freshData (d : Dev) (a : Axis) : Bool := !a.remote || (d.nodeOf a).slotOk

/-- R224: a code times a full scale over a span, rounded half up and clamped. -/
def scaleQ15 (code num den : Int) : Int := if den ≤ 0 then 0 else clampI (-32767) 32767 (rdivUp (code * num) den.toNat)

/-- R100, R199, R224: the measured inputs of a computed axis. -/
def Dev.measure (d : Dev) (a : Axis) : AxIn :=
  if a.remote then
    let e := d.entryOf a
    let r := d.identOf a
    ⟨scaleQ15 e.ia (identIfs r) a.cfg.curSpan, scaleQ15 e.ib (identIfs r) a.cfg.curSpan,
     scaleQ15 ((d.nodeOf a).vbus : Int) (identVfs r) (2 * a.cfg.voltSpan)⟩
  else
    let s := d.stg a.stage
    let ch (k : Nat) : Int :=
      shuntQ15 (s.codes.getD k 0) (s.offsets.getD k 0) s.cfg.gain s.cfg.shunt a.cfg.curSpan (bit (s.hbCfg k).flags 0)
    ⟨ch 0, ch (if a.cfg.law = 0 then 1 else 2), vbusQ15 s.codeV a.cfg.voltSpan⟩

/-- R143, R144: the remote cause of an axis follows the last accepted entry. -/
def Dev.noteRemote (d : Dev) (i : Nat) : Dev :=
  let a := d.ax i
  let f := d.fb i
  if f.configured && f.cfg.source == 0 && a.remote && d.freshData a then
    if bit (d.entryOf a).status 0 then d.onFb i (fun (f : Fb) => f.causeOn 8) else d.onFb i (fun (f : Fb) => f.causeOff 8)
  else d

/-- R130: the count increment an axis takes at its feedback instant. -/
def Dev.fbCount (d : Dev) (i : Nat) : Dev :=
  let a := d.ax i
  let f := d.fb i
  match f.cfg.source with
  | 0 =>
    if a.remote && d.freshData a then
      let e := d.entryOf a
      let c : Int := e.count
      let dc := match f.base with | some b => toS 32 (toU 32 (c - b)) | none => 0
      let d := d.onFb i (fun (f : Fb) => ({ f with base := some c }).count dc)
      (d.onFb i (fun (f : Fb) => { f with snap := f.pendC })).noteRemote i
    else d
  | 1 =>
    let s := (d.sc f.cfg.index).at_ f.centre
    let dc := match f.base with | some b => s - b | none => 0
    d.onFb i (fun (f : Fb) => let g := ({ f with base := some s }).count dc; { g with snap := g.pendC })
  | _ => d

/-- R117-R119, R130, R132, R134: the feedback instant of an axis: its age, its position (predicted at age 1 or
more), and the change from which vel_fb is formed. -/
def Dev.takePosition (d : Dev) (i : Nat) : Dev :=
  let a0 := d.ax i
  let age := if !a0.remote || a0.state == 0 || d.freshData a0 then 0 else min 255 (a0.age + 1)
  let d := d.onAx i (fun (a : Axis) =>
    { a with
      age := age, flags := if age = 0 then a.flags else setBit a.flags 3
      events := if age = 2 then setBit a.events 1 else a.events })
  if !(d.fb i).configured then d
  else
    let d := d.fbCount i
    let f := d.fb i
    let was := f.pAct
    if age ≠ 0 ∧ f.cfg.source = 0 then
      let x := clampI f.softMin f.softMax (a0.pFresh + (age : Int) * a0.delta)
      match f.setTo with
      | some y =>
        (d.onFb i (fun (f : Fb) => { f with pAct := y, setTo := none })).onAx i
          (fun (a : Axis) => { a with pPrev := y - a.delta, dVel := a.delta, pFresh := a.pFresh + (y - x) })
      | none => (d.onFb i (fun (f : Fb) => { f with pAct := x })).onAx i (fun (a : Axis) => { a with pPrev := was, dVel := x - was })
    else
      let back := a0.age ≠ 0 ∧ f.cfg.source = 0
      let f := if back then { f with pAct := a0.pFresh } else f
      let g := { f.feed f.snap with pendC := f.pendC - f.snap, snap := 0 }
      match f.setTo with
      | some x =>
        let g := { g.setPos x with setTo := none }
        let dv := if back then Int.tdiv g.dp (a0.age + 1 : Nat) else g.dp
        (d.onFb i (fun _ => g)).onAx i (fun (a : Axis) => { a with pPrev := x - g.dp, dVel := dv, delta := dv, pFresh := x })
      | none =>
        let dv := if back then Int.tdiv (g.pAct - a0.pFresh) (a0.age + 1 : Nat) else g.pAct - was
        (d.onFb i (fun _ => g)).onAx i (fun (a : Axis) => { a with pPrev := was, dVel := dv, delta := dv, pFresh := g.pAct })

/-- R179: how long a trigger may come after its tag: the longest debounce time of R422, and a margin. -/
def pastNs : Nat := 70000000

/-- Entries, newest first, no older than `pastNs` at `now`, and the two before them. -/
def keepPast {α : Type} (t : α → Nat) (now : Nat) (l : List α) : List α :=
  let fresh (x : α) : Bool := decide (now ≤ t x + pastNs)
  l.takeWhile fresh ++ (l.dropWhile fresh).take 2

/-- R117-R119, R130, R132, R134: the feedback instant of an axis, kept for the latches (R179). -/
def Dev.feedback (d : Dev) (i : Nat) : Dev :=
  let d := d.takePosition i
  let now := d.at_ 0
  d.onFb i (fun (f : Fb) =>
    if !f.configured then f
    else
      let src := f.cfg.source
      let e : FbAt :=
        { t := if src = 0 then now else f.centre, len := d.len, p := f.pAct
          c := if src = 1 then f.base.getD 0 else f.c - f.pendC, rem := f.rem, stale := (d.ax i).age != 0 }
      { f with
        past := keepPast (fun (x : FbAt) => x.t) now (e :: f.past)
        counts := keepPast (fun (x : Nat × Int) => x.1) now f.counts })

/-- R131, R142: the electrical angle of an axis at cell time `t`. -/
def Dev.theta (d : Dev) (i t : Nat) : Int :=
  let f := d.fb i
  if f.cfg.source = 3 then thetaHall f (t - f.lastEdge)
  else thetaCount (f.c - f.pendC) f.cfg.cpr f.cfg.polePairs f.cfg.thetaOffset

/-- The present fault causes of an axis other than R112, R118 and R106: the code and whether its reaction is a
ramp, by ascending code (R113). -/
def Dev.axCauses (d : Dev) (i : Nat) (m : AxIn) : List (Nat × Bool) :=
  let a := d.ax i
  let s := d.stg a.stage
  let ovr (q : Int) : Bool := a.lim.iTrip != 0 && decide (a.lim.iTrip * 32768 < q.natAbs * a.cfg.curSpan)
  let chans := if a.remote then (if a.cfg.law = 2 then [m.ia] else [m.ia, m.ib])
    else (List.range (lawHbs a.cfg.law)).map (fun (k : Nat) =>
      shuntQ15 (s.codes.getD k 0) (s.offsets.getD k 0) s.cfg.gain s.cfg.shunt a.cfg.curSpan (bit (s.hbCfg k).flags 0))
  let v := m.vbus * a.cfg.voltSpan
  let fresh := a.age = 0
  [ ((2, false), a.state != 1 && (d.fb i).since != 0),
    ((4, false), decide fresh && chans.any ovr),
    ((5, a.lim.reactVbus == 1), decide (v < a.lim.vbusMin * 32768)),
    ((6, a.lim.reactVbus == 1), decide (a.lim.vbusMax * 32768 < v)),
    ((7, false), a.remote && bit (d.nodeOf a).status 0),
    ((8, false), a.local_ && s.tripped) ].filterMap (fun (x : (Nat × Bool) × Bool) => if x.2 then some x.1 else none)

/-- R113: the faults found in a stroke: the lowest code, and torque off where any reaction is torque off. -/
def Dev.axJudge (d : Dev) (i : Nat) (m : AxIn) : Dev :=
  if (d.ax i).state = 0 then d
  else
    match d.axCauses i m with
    | [] => d
    | c :: r => d.axFault i c.1 ((c :: r).all (·.2))

/-- R144: the causes live from a feedback instant on. -/
def Dev.sinceInstant (d : Dev) (i : Nat) : Dev := d.onFb i (fun (f : Fb) => { f with since := f.live })

/-- R113, R144: the faults of a stroke are judged; the causes of the next one begin with those still live. -/
def Dev.axFaults (d : Dev) (i : Nat) (m : AxIn) : Dev := (d.axJudge i m).sinceInstant i

/-- R88: the converted limits and the rest of what a law run reads. -/
def Dev.lawEnv (d : Dev) (i : Nat) (g : Option (Nat × Int)) : LawEnv :=
  let a := d.ax i
  let il := match (d.pf i).home with | some h => h.current | none => a.lim.iLimit
  { cfg := a.cfg, c := a.coefs, hooks := a.hooks, vLim := toQ15 a.lim.velLimit (2 ^ a.cfg.velSpan * d.fs)
    iLim := toQ15 il a.cfg.curSpan.toNat, strokeNum := d.stk.number, inj := g }

/-- R88: a current in mA in Q15 of the axis's span, limited to ±i_lim (R95). -/
def LawEnv.cur (e : LawEnv) (ma : Int) : Int := clampI (-e.iLim) e.iLim (toQ15 ma e.cfg.curSpan.toNat)

/-- R121, R123: the injection value of the stroke; the signal steps on until its duration is over. -/
def Dev.injAdvance (d : Dev) (i : Nat) : Dev × Option (Nat × Int) :=
  match (d.ax i).inj with
  | some j =>
    if j.duration ≤ j.k then (d.onAx i (fun (a : Axis) => { a with inj := some { j with g := 0 } }), none)
    else
      let r := injStep j
      (d.onAx i (fun (a : Axis) => { a with inj := some r.2 }), some (j.point, r.1))
  | none => (d, none)

/-- R182: whether an axis is an open-loop stepper. -/
def Dev.openLoop (d : Dev) (i : Nat) : Bool := (d.pf i).step.openLoop

/-- R93-R99: the law of a computed axis for the stroke; `th` the angle, `vfb` vel_fb, `ref` the manual velocity
reference in Q15; a `fast` axis leaves its current part to the fast runs. -/
def axisLaw (a : Axis) (p : Pf) (e : LawEnv) (m : AxIn) (pAct th vfb ref : Int) (fast : Bool) : LawRun :=
  let was := a.loop.velFb
  let r : LawRun :=
    { v := ⟨{ a.loop with velFb := vfb, follow := 0 }, a.users, ((e.strokeNum % 32768 : Nat) : Int)⟩, hf := a.hookFlags
      errSat := false, iLim := false, vLim := false, duties := a.duties }
  let pre : Presets := ⟨a.preVel, a.preIp⟩
  let fresh := a.age == 0
  let r :=
    if p.step.openLoop then
      let id := if p.step.holdDelay ≤ p.step.still then p.step.holdMa else p.step.runMa
      let r := r.onLoop (fun (l : AxLoop) => { l with iqRef := 0, idRef := e.cur id, vSet := p.vel, pCmd := p.cmd })
      if p.step.fb then r.onLoop (fun (l : AxLoop) => { l with follow := p.cmd - pAct }) else r
    else if a.autoLaw then
      let r := if a.cfg.posLoop = 0 then
          let q := reduceF p.vel e.cfg.velSpan
          { r.onLoop (fun (l : AxLoop) => { l with
              vSet := p.vel, pCmd := p.cmd, accFf := 0, velRef := clampI (-e.vLim) e.vLim q.1 }) with errSat := q.2 }
        else posLoopStep e pre (posErrStep e p.cmd pAct p.vel r)
      let r := velLoopStep e pre r.v.loop.accFf was r
      r.onLoop (fun (l : AxLoop) => { l with idRef := e.cur a.lim.idAuto })
    else if a.state = 3 then
      let r := r.onLoop (fun (l : AxLoop) => { l with
        accFf := 0, velFf := 0, posErr := 0, vSet := 0, pCmd := pAct
        velRef := clampI (-e.vLim) e.vLim (sat (ref + e.injAt 1)) })
      let r := velLoopStep e pre 0 was r
      r.onLoop (fun (l : AxLoop) => { l with idRef := e.cur a.manId })
    else
      let r := r.onLoop (fun (l : AxLoop) => { l with posErr := 0, vSet := 0, pCmd := pAct })
      let r := manCurStep e (toQ15 a.manIq e.cfg.curSpan.toNat) r
      r.onLoop (fun (l : AxLoop) => { l with idRef := e.cur a.manId })
  if fast then r.onLoop (fun (l : AxLoop) => { l with theta := th, vbus := m.vbus }) else curLoop e m th fresh r

/-- Whether an axis runs its current part in fast runs (R101). -/
def Axis.fast (a : Axis) : Bool := a.local_ && decide (2 ≤ a.cfg.fastK)

/-- R111: standstill_vel in Q15. -/
def Dev.ssQ15 (d : Dev) (a : Axis) : Int := toQ15 a.lim.ssVel (2 ^ a.cfg.velSpan * d.fs)

/-- R103, R106, R111, R112, R116, R182: an axis in lift, `t` the latch instant. An axis that is not computed only
follows its position. -/
def Dev.runAxis (d : Dev) (i t : Nat) : Dev :=
  let a := d.ax i
  let f := d.fb i
  if a.state = 0 then d
  else
    let vfb := reduce a.dVel a.cfg.velSpan
    let m := if a.age = 0 then d.measure a else a.meas
    if !a.computed then
      d.onAx i (fun (a : Axis) =>
        { a with
          meas := m, prev := a.loop, prevUsers := a.users, prevFe := a.feCount
          loop := { a.loop with pCmd := f.pAct, vSet := 0, follow := 0, velFb := vfb }
          iLimited := false, vLimited := false, errSat := false })
    else
      let inj := d.injAdvance i
      let d := inj.1
      let a := d.ax i
      let p := d.pf i
      let e := d.lawEnv i inj.2
      let ref := toQ15 a.manVel (2 ^ a.cfg.velSpan * d.fs)
      let st := if p.step.openLoop then p.step.advance p.cmd else (p.step, false)
      let th := if p.step.openLoop then wrapS 16 (64 * st.1.mu + f.cfg.thetaOffset) else d.theta i t
      let r := axisLaw a p e m f.pAct th vfb ref a.fast
      let judged := if p.step.openLoop then p.step.fb else (a.autoLaw && a.cfg.posLoop != 0)
      let fe := if !judged ∨ a.lim.feLimit = 0 then a.feCount
        else if a.lim.feLimit < r.v.loop.follow.natAbs then a.feCount + 1 else 0
      let slow := decide ((vfb.natAbs : Int) ≤ d.ssQ15 a)
      let man := a.state == 2 || a.state == 3
      let d := d.onPf i (fun (q : Pf) =>
        { q with
          step := { st.1 with still := if a.loop.pCmd = p.cmd then q.step.still + 1 else 0 }, stepLag := q.stepLag || st.2 })
      let d := if p.step.openLoop ∧ ¬ p.step.fb then d.onFb i (fun (f : Fb) => { f with pAct := p.cmd }) else d
      d.onAx i (fun (a : Axis) =>
        { a with
          prev := a.loop, prevUsers := a.users, prevFe := a.feCount
          loop := r.v.loop, users := r.v.users, hookFlags := r.hf, meas := m, duties := r.duties
          preVel := false, preIp := false, feCount := fe
          ssCount := if slow then a.ssCount + 1 else 0, standstill := a.standstill && slow
          qsCount := if a.stop = 4 ∨ a.ramping then a.qsCount + 1 else a.qsCount
          manCount := if man then a.manCount + 1 else 0
          iLimited := r.iLim, vLimited := r.vLim, errSat := r.errSat
          flags := a.flags ||| maskOf [r.errSat, r.iLim, r.vLim] })

/-- R25, R116: the results of an axis whose lift is not complete are discarded; a ramp has not advanced. -/
def Dev.discard (d : Dev) (i : Nat) : Dev :=
  (d.onAx i (fun (a : Axis) => { a with loop := a.prev, users := a.prevUsers, feCount := a.prevFe })).onPf i (fun (p : Pf) =>
    match p.rampWas with
    | some (r, x, v) => { p with ramp := some r, cmd := x, vel := v, rampWas := none }
    | none => p)

/-- R102: a fast run of a local axis at a PWM center, at instant `t`. The duties load at the end of the period. -/
def Dev.fastRun (d : Dev) (i t : Nat) : Dev :=
  let a := d.ax i
  if !a.computed || !a.fast then d
  else
    let m := d.measure a
    let d := match (d.axCauses i m).find? (fun (c : Nat × Bool) => c.1 == 4) with
      | some _ => d.axFault i 4 false
      | none => d
    let a := d.ax i
    if !a.computed then d
    else
      let inLift := d.stk.phase == .lift
      let iq := if inLift then a.prev.iqRef else a.loop.iqRef
      let id := if inLift then a.prev.idRef else a.loop.idRef
      let e := d.lawEnv i (a.inj.map (fun (j : Inj) => (j.point, j.g)))
      let th := if d.openLoop i then wrapS 16 (64 * (d.pf i).step.mu + (d.fb i).cfg.thetaOffset) else d.theta i t
      let r : LawRun :=
        { v := ⟨{ a.loop with iqRef := iq, idRef := id }, a.users, ((d.stk.number % 32768 : Nat) : Int)⟩, hf := a.hookFlags
          errSat := false, iLim := false, vLim := false, duties := a.duties }
      let r := curLoop e m th true r
      let d := d.onAx i (fun (a : Axis) =>
        { a with
          loop := { r.v.loop with iqRef := a.loop.iqRef, idRef := a.loop.idRef }, users := r.v.users, hookFlags := r.hf
          meas := m, duties := r.duties, vLimited := a.vLimited || r.vLim
          flags := if r.vLim then setBit a.flags 2 else a.flags })
      d.onStg a.stage (fun (s : Stg) => { s with dutyPend := some r.duties })

end Sys2Proof.Machine
end

