-- ==== Sys2Proof/Machine/ArmMotion.lean ====
section
/-! DEFINITION. Arms in motion: stop effects and faults of whole arms, the path clock of a stroke, and the planning
point: spans, yard, claims and separation (R279-R302). -/

namespace Sys2Proof.Machine

/-- R294: an arm faults. -/
def Dev.armFault (d : Dev) (k code : Nat) : Dev :=
  let m := d.arm k
  if m.state = 0 ∨ m.state = 5 then d
  else
    let d := d.onArm k (fun (m : Arm) =>
      { m with state := 5, faultCode := code, events := setBit m.events 0, quick := true, target := 0, resuming := false
               flags := if code = 2 then setBit m.flags 1 else m.flags })
    if code = 2 then
      let d := m.axes.foldl (fun (d : Dev) (i : Nat) =>
        if (d.ax i).computed then (d.startRamp i (d.ax i).lim.qsDecel).onPf i (fun (p : Pf) => { p with source := 7 }) else d) d
      d.onArm k (fun (m : Arm) => { m.flush with rate := 0 })
    else d

/-- R293: a stop effect on a whole arm. -/
def Dev.stopArm (d : Dev) (k code : Nat) : Dev :=
  let m := d.arm k
  let d := d.abortOf 0x02 k ST.abortStop
  let d := m.axes.foldl (fun (d : Dev) (i : Nat) =>
    (((d.endInj i true).abortOf 0x01 i ST.abortStop).onAx i (fun (a : Axis) => { a with stop := code, qsCount := 0 }))) d
  let d := d.onArm k (fun (m : Arm) =>
    { m with
      stop := code, resuming := false, quick := code == 4 || code == 3
      state := if m.state = 5 then 5 else if code = 2 then 3 else 4 })
  if code = 5 then
    let d := m.axes.foldl (fun (d : Dev) (i : Nat) => d.axRelease i ST.abortStop) d
    d.onArm k (fun (m : Arm) => { m.flush with rate := 0 })
  else d

/-- R57, R293: an effect only strengthens what is in force on the arm. -/
def Dev.strengthenArm (d : Dev) (k code : Nat) : Dev :=
  if (d.arm k).state ≠ 0 ∧ (d.arm k).stop < code then d.stopArm k code else d

/-- R58, R293: a stop on an arm is released. -/
def Dev.releaseArm (d : Dev) (k : Nat) : Dev :=
  let m := d.arm k
  if m.state = 0 ∨ m.stop = 0 ∨ m.stop = 2 then d
  else
    let d := m.axes.foldl Dev.releaseAxis d
    d.onArm k (fun (m : Arm) =>
      if m.state ≠ 4 then { m with stop := 0 }
      else if m.rate = 0 then { m.flush with stop := 0, state := 1, releasing := false }
      else { m with stop := 0, releasing := true })

/-- R283: the target rate of an arm, and whether it ramps at r_step_q, which a protective stop and a separation decrease
do under a halt or a feed hold as well (DEDUCED, log entry 218). -/
def Arm.aim (m : Arm) : Nat × Bool :=
  let near := m.protective || decide (m.sepK * 1024 < m.rate)
  if m.stop ≠ 0 ∨ m.state = 5 ∨ m.releasing then (0, m.quick || near)
  else if m.protective then (0, true)
  else (m.sepK * 1024, near)

/-- R284, R290: `n` segments end: the next one is in use. -/
def Arm.passSegs (m : Arm) : Nat → Arm
  | 0 => m
  | n + 1 =>
    let segs := m.yard.segs.drop 1
    let m := { m with yard := { m.yard with segs := segs, checked := m.yard.checked - 1 } }
    (match segs with
    | s :: _ =>
      { m with segId := segIdOf s, tool := segTool s
               markSeg := if segMarker s then segIdOf s else m.markSeg
               events := if segMarker s then setBit m.events 5 else m.events }
    | [] => m).passSegs n

/-- R290: the fill falls to the low float with nothing left to fetch. -/
def Arm.floatLow (m : Arm) (was : Nat) : Arm :=
  let f := m.yard.segs.length
  if m.yard.low < was ∧ f ≤ m.yard.low ∧ (m.yard.loc = 1 ∨ m.yard.left = 0) then
    { m with events := setBit m.events 1 }
  else m

/-- R281-R283: the path clock of an arm at a lift latch point, and its joints' setpoints. -/
def Dev.armStroke (d : Dev) (k : Nat) : Dev :=
  let m := d.arm k
  if m.state = 0 then d
  else
    -- R317: SS1 ramps the path as `STOP_CAT1` does
    let aim := if (d.safArm k).ss1 then (0, true) else m.aim
    let st := m.steps
    let r := rateStep m.rate aim.1 (if aim.2 then st.1 else st.2) st.2
    let c := clockStep m.spans m.tau r d.cyc
    let was := m.yard.segs.length
    let d := d.onArm k (fun (m : Arm) =>
      (({ m with rate := r, target := aim.1, spans := c.1, tau := c.2.1 }).passSegs c.2.2.1).floatLow was)
    if c.2.2.2 ∧ m.state ≠ 5 then d.armFault k 2
    else
      match m.cfg, (d.arm k).spans with
      | some g, s :: _ =>
        (List.range g.joints.length).foldl (fun (d : Dev) (j : Nat) =>
          let i := match g.joints[j]? with | some q => q.axis | none => 128
          if (d.pf i).source = 5 ∧ (d.pf i).ramp.isNone then
            let x := spanPos (s.knots.getD j (Knots.hold (d.pf i).cmd)) (d.arm k).tau d.cyc
            d.onPf i (fun (p : Pf) => { p with vel := x - p.cmd, cmd := x })
          else d) d
      | some g, [] =>
        g.joints.foldl (fun (d : Dev) (q : Joint) =>
          if (d.pf q.axis).source = 5 ∧ (d.pf q.axis).ramp.isNone then d.onPf q.axis (fun (p : Pf) => { p with vel := 0 }) else d) d
      | none, _ => d

/-- R279, R290, R293: an arm after its joints have run: a joint that has gone faults the arm; standstill and what
happens at it. -/
def Dev.armSettle (d : Dev) (k : Nat) : Dev :=
  let m := d.arm k
  if m.state = 0 then d
  else
    let gone := m.axes.any (fun (i : Nat) => (d.ax i).state != 4)
    let dead := m.axes.any (fun (i : Nat) => (d.ax i).torqueOff)
    let d := if gone ∨ (dead ∧ m.stop ≠ 5 ∧ m.stop ≠ 4) then d.armFault k 1 else d
    let m := d.arm k
    let still := (m.rate = 0 ∨ m.spans.isEmpty) ∧ m.axes.all (fun (i : Nat) => (d.ax i).standstill || !(d.ax i).computed)
    let atEnd := m.spans.isEmpty ∧ m.yard.segs.isEmpty ∧ m.state = 2
    let d := d.onArm k (fun (m : Arm) =>
      { m with standstill := decide still, events := if decide still && !m.standstill then setBit m.events 7 else m.events })
    if still then
      if m.stop = 4 ∨ m.stop = 3 ∨ m.stop = 1 ∨ m.state = 5 then
        let d := if m.stop = 4 then m.axes.foldl Dev.axTorqueOff d else d
        d.onArm k (fun (m : Arm) => { m.flush with rate := 0 })
      else if m.releasing then d.onArm k (fun (m : Arm) => { m.flush with state := 1, releasing := false })
      else if atEnd then d.onArm k (fun (m : Arm) =>
        { m with state := 1, segId := 0, events := setBit m.events 2, yard := { m.yard with state := if m.yard.state = 1 then 0 else m.yard.state } })
      else d
    else d

/-! ### The planning point of an arm -/

/-- R285: the segments of the yard that no span planned so far ends. -/
def Arm.rest_ (m : Arm) : List Bytes := m.yard.segs.drop (m.spans.map (·.ends)).sum

/-- R285: the position of joint `j` at the end of a list of segments that starts at `p`: of the target of the last
segment that is no dwell, where that is a joint move; open for a Cartesian one. -/
def Joint.endOf (q : Joint) (j : Nat) (segs : List Bytes) (p : Int) : Option Int :=
  match segs.reverse.find? (fun (s : Bytes) => segKind s != 4) with
  | some s => if segKind s = 0 then some (q.posOf (u64 s (32 + 8 * j))) else none
  | none => some p

/-- R274, R285: the most by which a joint moves in a cell cycle of `n` strokes. -/
def Joint.reach (q : Joint) (n fs : Nat) : Int :=
  Int.fdiv (fpVal (q.word 80) * ((fpVal (q.word 120)).natAbs : Int) * n) (fpOne * fpOne * fs) + 1

/-- R273, R274: the axis positions at the two ends of a joint's range, the lower one first. -/
def Joint.ends (q : Joint) : Int × Int :=
  let a := q.posOf (q.word 64)
  let b := q.posOf (q.word 72)
  (min a b, max a b)

/-- R280, R285: the knot of a joint at the end of a span from (p, v): where the planner puts it is free, within the
limits of the joint; the end of the path is that of its last segment. -/
def Joint.knot (q : Joint) (c : Int × Int) (p v : Int) (goal : Option Int) (last still : Bool) (n fs : Nat) : Knots :=
  let r := q.reach n fs
  let x := clampI (p - r) (p + r) (clampI q.ends.1 q.ends.2 c.1)
  if still then Knots.hold p
  else if last then ⟨p, v, goal.getD x, 0⟩
  else ⟨p, v, x, clampI (-r) r c.2⟩

/-- R280: one span appended, from the state in which the spans so far end; `rest`: the arm comes to rest before the
end of its path. -/
def Dev.addSpan (d : Dev) (k : Nat) (rest : Bool) : Dev :=
  let m := d.arm k
  let f := d.free
  let segs := m.rest_
  let js := match m.cfg with | some g => g.joints | none => []
  let from_ (j : Nat) (q : Joint) : Int × Int := match m.spans.getLast? with
    | some s => let k := s.knots.getD j (Knots.hold 0); (k.p1, k.v1)
    | none => ((d.pf q.axis).cmd, 0)
  let goals := js.mapIdx (fun (j : Nat) (q : Joint) => (q, from_ j q, q.endOf j segs (from_ j q).1))
  -- R291: the path ends where all joints can reach its end in this cycle
  let ready := goals.all (fun (g : Joint × (Int × Int) × Option Int) =>
    match g.2.2 with | some x => decide (((x - g.2.1.1).natAbs : Int) ≤ g.1.reach d.cyc d.fs) | none => true)
  let want := min segs.length (Config.armSegsDone f)
  let done := if rest then 0 else if want = segs.length ∧ ready = false then want - 1 else want
  let last := rest || decide (done = segs.length)
  -- R285: the arm rests in a dwell
  let still := !last && decide (done = 0) && segs.head?.any (fun (s : Bytes) => segKind s == 4)
  let knots := goals.mapIdx (fun (j : Nat) (g : Joint × (Int × Int) × Option Int) =>
    g.1.knot (Config.armKnot f j) g.2.1.1 g.2.1.2 (if rest then none else g.2.2) last still d.cyc d.fs)
  (d.skip 1).onArm k (fun (m : Arm) => { m with spans := m.spans ++ [⟨knots, 65536, 65536, done, last⟩] })

/-- R280: spans appended until at least 3 lie ahead, or the path ends. -/
def Dev.addSpans (d : Dev) (k : Nat) (rest : Bool) : Nat → Dev
  | 0 => d
  | n + 1 =>
    let m := d.arm k
    let ends := match m.spans.getLast? with | some s => s.last | none => false
    if 4 ≤ m.spans.length ∨ ends = true then d
    else if m.yard.segs.length ≤ (m.spans.map (·.ends)).sum then d
    else (d.addSpan k rest).addSpans k rest n

/-- R287: the yard ends at its segment `i`, which is invalid. -/
def Arm.pathError (m : Arm) (i : Nat) : Arm :=
  { m with
    yard := { m.yard with segs := m.yard.segs.take i, checked := min i m.yard.checked, state := 3 }
    flags := setBit m.flags 0, events := setBit m.events 4, errSeg := segIdOf (m.yard.segs.getD i []) }

/-- The three FP64 words at offset `o` of a segment, as a position. -/
def segPos (s : Bytes) (o : Nat) : V3 := gV3 (fpWords s o 3) 0

/-- R285: where the path stands before segment `i`: the end of the last segment before it that is no dwell, or the
present setpoints of an arm without spans; none where the path is under way. -/
def Dev.pathAt (d : Dev) (k i : Nat) : Option V3 :=
  let m := d.arm k
  match (m.yard.segs.take i).reverse.find? (fun (s : Bytes) => segKind s != 4) with
  | some s =>
    if segKind s = 0 then
      (match m.cfg with
      | some g => some ({ m with tool := segTool s }.tcp (g.joints.mapIdx (fun (j : Nat) (q : Joint) => q.posOf (u64 s (32 + 8 * j))))).pos
      | none => none)
    else some (segPos s 32)
  | none => if m.spans.isEmpty then some (m.tcp (m.axes.map (fun (x : Nat) => (d.pf x).cmd))).pos else none

/-- R287: whether three positions lie within 0.01 mm of one line: the least height of their triangle is at most twice
that. -/
def nearLine (a b c : V3) : Bool :=
  let n := V3.by (b.sub a) (c.sub a)
  let l := max (b.sub a).len (max (c.sub b).len (a.sub c).len)
  -- |n| is twice the area, at the square of the scale: height = |n| / longest side
  decide (n.len * 100 ≤ 2 * l * gOne)

/-- R287: whether segment `i` of the yard is invalid: by its fields, by the range of a joint, by an arc's positions, or
by the kinematics of a Cartesian path, which are free. -/
def Dev.segInvalid (d : Dev) (k i : Nat) : Bool :=
  let m := d.arm k
  let s := m.yard.segs.getD i []
  let js := match m.cfg with | some g => g.joints | none => []
  let tools := match m.tools with | some l => l.map (·.tool) | none => []
  !segFieldsOk s js.length tools ||
  (match segKind s with
  | 0 => !(js.mapIdx (fun (j : Nat) (q : Joint) =>
      let w := u64 s (32 + 8 * j)
      fpLeq (q.word 64) w && fpLeq w (q.word 72))).all id
  | 2 => (match d.pathAt k i with | some p => nearLine p (segPos s 104) (segPos s 32) | none => false) || Config.armSegInvalid (d.free + i)
  | 4 => false
  | _ => Config.armSegInvalid (d.free + i))

/-- R287: the planner takes the segments of the yard that it has not validated yet, up to the first invalid one. -/
def Dev.validate (d : Dev) (k : Nat) : Dev :=
  let n := (d.arm k).yard.segs.length
  let bad := (List.range n).find? (fun (i : Nat) => decide ((d.arm k).yard.checked ≤ i) && d.segInvalid k i)
  let d := d.skip n
  match bad with
  | some i => d.onArm k (fun (m : Arm) => (m.pathError i) |> fun (m : Arm) => { m with yard := { m.yard with checked := i } })
  | none => d.onArm k (fun (m : Arm) => { m with yard := { m.yard with checked := n } })

/-- R300: the zones a requester holds. -/
def Dev.heldBy (d : Dev) (who : Nat) : Nat := maskOf ((List.range 64).map (fun (z : Nat) => (d.zone z).holder == some who))

/-- R297 step 1, R299, R300: zones are released at a planning point; a disabled arm keeps its own. -/
def Dev.claimRelease (d : Dev) : Dev :=
  let hostOut := (d.claims.filter (fun (c : ClaimReq) => c.who == 9)).foldl (fun (m : Nat) (c : ClaimReq) => m ||| c.zones) 0
  let d := { d with claims := d.claims.filter (fun (c : ClaimReq) => c.who != 9) }
  let d := { d with zones := (List.range 64).map (fun (z : Nat) =>
    let x := d.zone z
    if x.holder = some 8 ∧ bit hostOut z then { x with holder := none } else x) }
  (List.range 8).foldl (fun (d : Dev) (k : Nat) =>
    let out (z : Nat) : Bool := !d.armTouches k z
    (d.skip 1) |> fun (d : Dev) => { d with zones := d.zones.mapIdx (fun (z : Nat) (x : Zone) =>
      if x.holder = some k ∧ (d.arm k).state ≠ 0 ∧ out z then { x with holder := none } else x) }) d

/-- R297: one request granted where its zones are free (and, for a run request, in no older waiting one). -/
def Dev.claimTry (d : Dev) (c : ClaimReq) : Dev :=
  let free := (bitsSet c.zones 64).all (fun (z : Nat) => (d.zone z).holder.isNone)
  let older := d.claims.any (fun (o : ClaimReq) =>
    !o.ext && o.who != c.who && (decide (o.since < c.since) || (o.since == c.since && decide (o.who < c.who))) && (o.zones &&& c.zones) != 0)
  if free ∧ (c.ext ∨ ¬ older) then
    let d := { d with
      zones := d.zones.mapIdx (fun (z : Nat) (x : Zone) => if bit c.zones z then { x with holder := some c.who } else x)
      claims := d.claims.filter (fun (o : ClaimReq) => o != c) }
    if c.who < 8 then d.onArm c.who (fun (m : Arm) => { m with events := setBit m.events 6 })
    else
      match ((bitsSet c.zones 64).head?).bind (fun (z : Nat) => d.owner 0x14 z) with
      | some k => d.finishHold (fun (h : Hold) => h == .zone k) ST.ok 0 [] (some d.stk.number)
      | none => d
  else d

/-- Claims by age, then by requester. -/
def claimOrder (l : List ClaimReq) : List ClaimReq :=
  l.mergeSort (fun (a b : ClaimReq) => decide (a.since < b.since) || (a.since == b.since && decide (a.who ≤ b.who)))

/-- R297 steps 2 and 3. -/
def Dev.claimGrant (d : Dev) : Dev :=
  let ext := claimOrder (d.claims.filter (·.ext))
  let d := ext.foldl Dev.claimTry d
  let run := claimOrder (d.claims.filter (fun (c : ClaimReq) => !c.ext))
  run.foldl Dev.claimTry d

/-- R296: the request an arm makes at a planning point; and whether it waits before a run whose end is not yet in the
yard. -/
def Dev.claimAsk (d : Dev) (k : Nat) : Dev × Bool :=
  let m := d.arm k
  if m.state ≠ 2 ∨ d.claims.any (fun (c : ClaimReq) => c.who == k) then (d, false)
  else
    let held := d.heldBy k
    let meets := Config.armMeets d.free % 2 ^ 64
    let ends := Config.armRunEnds d.free
    let first := Config.armMeetsAt d.free
    let d := d.skip 1
    let zs := maskOf ((List.range 64).map (fun (z : Nat) => bit meets z && !bit held z &&
      (d.zone z).defined && d.owner 0x14 z == d.owner 0x02 k))
    if zs = 0 then (d, false)
    else if held = 0 then
      (if ends then { d with claims := d.claims ++ [⟨k, zs, d.stk.number / d.cyc, false⟩] } else d, !ends)
    else if (bitsSet held 64).all (fun (h : Nat) => (bitsSet zs 64).all (fun (z : Nat) => decide (h < z))) then
      ({ d with claims := d.claims ++ [⟨k, zs, d.stk.number / d.cyc, true⟩] }, false)
    else
      -- a path that needs a lower index is invalid from where it first touches that zone
      let past := (m.spans.map (·.ends)).sum
      let left := m.yard.segs.length - past
      (if 0 < left then d.onArm k (fun (m : Arm) => m.pathError (past + first % left)) else d, false)

/-- R280, R287, R288, R291, R296-R301: the planning point of an arm. -/
def Dev.planArm (d : Dev) (k : Nat) : Dev :=
  let m := d.arm k
  if m.state = 0 then d
  else
    let d := d.onArm k (fun (m : Arm) => { m with sepK := m.sepNext, yard := { m.yard with fetched := 0 } })
    let d := if m.state = 1 ∨ m.state = 2 then d.validate k else d
    let d := if m.state = 1 ∧ !(d.arm k).yard.segs.isEmpty then
        d.onArm k (fun (m : Arm) => { m with
          state := 2, segId := segIdOf (m.yard.segs.getD 0 []), tool := segTool (m.yard.segs.getD 0 [])
          markSeg := if segMarker (m.yard.segs.getD 0 []) then segIdOf (m.yard.segs.getD 0 []) else m.markSeg
          events := if segMarker (m.yard.segs.getD 0 []) then setBit m.events 5 else m.events })
      else d
    let (d, before) := d.claimAsk k
    let wait := before || d.claims.any (fun (c : ClaimReq) => c.who == k)
    let d := d.onArm k (fun (m : Arm) => { m with claimWait := wait && m.state == 2, yardLimited := m.state == 2 && Config.armYardLimited d.free })
    let d := d.skip 1
    let rest := wait || (d.arm k).override == 0
    let d := if (d.arm k).state = 2 ∧ !(rest && (d.arm k).spans.isEmpty) then d.addSpans k rest 4 else d
    let js := match m.cfg with | some g => g.joints | none => []
    (d.skip 1).onArm k (fun (m : Arm) => { m with spans := spanSteps js d.cyc d.fs d.free m.spans })

/-- R297-R300: the planning point of the robot cell. -/
def Dev.planArms (d : Dev) : Dev :=
  let d := d.claimRelease
  let d := d.claimGrant
  let d := (List.range 8).foldl Dev.armRecord d
  let d := (List.range 8).foldl Dev.planArm d
  (List.range 8).foldl Dev.armKeep d

/-- R59, R278: the strongest stop effect in force on the joints of an arm. -/
def Dev.jointStop (d : Dev) (k : Nat) : Nat := (d.arm k).axes.foldl (fun (m : Nat) (i : Nat) => max m (d.ax i).stop) 0

/-- R278: an arm whose enable was planned takes its joints at the first stroke of the cycle. A stop in force on a
joint is in force on the arm (DEDUCED, log entry 136). -/
def Dev.armTakes (d : Dev) (k : Nat) : Dev :=
  let stop := d.jointStop k
  let d := (d.arm k).axes.foldl (fun (d : Dev) (i : Nat) =>
    (d.onPf i (fun (p : Pf) => { (p.rest p.cmd) with source := 5, vel := 0 })).onAx i (fun (a : Axis) => { a with stop := stop })) d
  d.onArm k (fun (m : Arm) =>
    { m with
      enabling := false, state := if stop = 0 then 1 else if stop = 2 then 3 else 4, stop := stop, tool := 0, rate := 0
      target := 0, quick := false, tau := 0, spans := [], segId := 0, faultCode := 0, releasing := false, resuming := false
      sepK := 64, sepNext := 64, claimWait := false, yardLimited := false, protective := false })

/-- R165, R293: a resumed arm at the first stroke of a cell cycle. -/
def Dev.turnArm (d : Dev) (k : Nat) : Dev :=
  let m := d.arm k
  if m.enabling then d.armTakes k
  else if m.resuming then
    let d := m.axes.foldl (fun (d : Dev) (i : Nat) => d.onAx i (fun (a : Axis) => { a with stop := 0 })) d
    d.onArm k (fun (m : Arm) =>
      { m with resuming := false, stop := 0, state := if m.spans.isEmpty ∧ m.yard.segs.isEmpty then 1 else 2 })
  else d

end Sys2Proof.Machine
end

