-- ==== Sys2Proof/Machine/Sha.lean ====
section
/-! DEFINITION. SHA-256 and HMAC-SHA-256, which tag the datagrams of H2 (R403, R404), and the ECDSA P-256 signature of
a firmware image (R384). The spec names them by their standard names only; the functions here are those of FIPS 180-4,
RFC 2104 and FIPS 186-5 (PRESUMED, log entries 12 and 194). -/

namespace Sys2Proof.Machine

/-- The round constants. -/
def shaK : List Nat :=
  [0x428a2f98, 0x71374491, 0xb5c0fbcf, 0xe9b5dba5, 0x3956c25b, 0x59f111f1, 0x923f82a4, 0xab1c5ed5] ++
  [0xd807aa98, 0x12835b01, 0x243185be, 0x550c7dc3, 0x72be5d74, 0x80deb1fe, 0x9bdc06a7, 0xc19bf174] ++
  [0xe49b69c1, 0xefbe4786, 0x0fc19dc6, 0x240ca1cc, 0x2de92c6f, 0x4a7484aa, 0x5cb0a9dc, 0x76f988da] ++
  [0x983e5152, 0xa831c66d, 0xb00327c8, 0xbf597fc7, 0xc6e00bf3, 0xd5a79147, 0x06ca6351, 0x14292967] ++
  [0x27b70a85, 0x2e1b2138, 0x4d2c6dfc, 0x53380d13, 0x650a7354, 0x766a0abb, 0x81c2c92e, 0x92722c85] ++
  [0xa2bfe8a1, 0xa81a664b, 0xc24b8b70, 0xc76c51a3, 0xd192e819, 0xd6990624, 0xf40e3585, 0x106aa070] ++
  [0x19a4c116, 0x1e376c08, 0x2748774c, 0x34b0bcb5, 0x391c0cb3, 0x4ed8aa4a, 0x5b9cca4f, 0x682e6ff3] ++
  [0x748f82ee, 0x78a5636f, 0x84c87814, 0x8cc70208, 0x90befffa, 0xa4506ceb, 0xbef9a3f7, 0xc67178f2]

/-- The initial hash value. -/
def shaInit : List Nat :=
  [0x6a09e667, 0xbb67ae85, 0x3c6ef372, 0xa54ff53a, 0x510e527f, 0x9b05688c, 0x1f83d9ab, 0x5be0cd19]

/-- Rotation right of a 32-bit word. -/
def rotr (n k : Nat) : Nat := (n >>> k) ||| ((n <<< (32 - k)) % 2 ^ 32)

/-- The 64 words of a block's schedule, given its first 16, newest first. -/
def shaSchedule : Nat → List Nat → List Nat
  | 0, w => w
  | k + 1, w =>
    let a := w.getD 14 0
    let b := w.getD 1 0
    let s0 := rotr a 7 ^^^ rotr a 18 ^^^ (a >>> 3)
    let s1 := rotr b 17 ^^^ rotr b 19 ^^^ (b >>> 10)
    shaSchedule k (((w.getD 15 0 + s0 + w.getD 6 0 + s1) % 2 ^ 32) :: w)

/-- One round; `kw` is the round constant plus the schedule word. -/
def shaRound (h : List Nat) (kw : Nat) : List Nat :=
  match h with
  | [a, b, c, d, e, f, g, x] =>
    let s1 := rotr e 6 ^^^ rotr e 11 ^^^ rotr e 25
    let ch := (e &&& f) ^^^ ((2 ^ 32 - 1 - e) &&& g)
    let t1 := x + s1 + ch + kw
    let s0 := rotr a 2 ^^^ rotr a 13 ^^^ rotr a 22
    let mj := (a &&& b) ^^^ (a &&& c) ^^^ (b &&& c)
    [(t1 + s0 + mj) % 2 ^ 32, a, b, c, (d + t1) % 2 ^ 32, e, f, g]
  | _ => h

/-- A big-endian 32-bit word. -/
def be32 (p : Bytes) (o : Nat) : Nat := ((u8 p o * 256 + u8 p (o + 1)) * 256 + u8 p (o + 2)) * 256 + u8 p (o + 3)
/-- The bytes of a big-endian number. -/
def encBE (n v : Nat) : Bytes := (enc n v).reverse

/-- One block of 64 bytes. -/
def shaBlock (h : List Nat) (p : Bytes) : List Nat :=
  let w := (shaSchedule 48 ((List.range 16).map (fun (i : Nat) => be32 p (4 * i))).reverse).reverse
  let r := (shaK.zip w).foldl (fun (h : List Nat) (kw : Nat × Nat) => shaRound h (kw.1 + kw.2)) h
  (h.zip r).map (fun (x : Nat × Nat) => (x.1 + x.2) % 2 ^ 32)

/-- The blocks of a padded message, `n` of them. -/
def shaBlocks : Nat → List Nat → Bytes → List Nat
  | 0, h, _ => h
  | n + 1, h, p => shaBlocks n (shaBlock h (p.take 64)) (p.drop 64)

/-- SHA-256 of a byte string. -/
def sha256 (p : Bytes) : Bytes :=
  let padLen := (119 - p.length % 64) % 64
  let q := p ++ [0x80] ++ zeros padLen ++ encBE 8 (8 * p.length)
  (shaBlocks (q.length / 64) shaInit q).flatMap (encBE 4)

/-- HMAC-SHA-256 (R403, R404). -/
def hmac (key msg : Bytes) : Bytes :=
  let k := slice (if key.length > 64 then sha256 key else key) 0 64
  sha256 (k.map (fun (b : Byte) => b ^^^ 0x5c) ++ sha256 (k.map (fun (b : Byte) => b ^^^ 0x36) ++ msg))

/-- R403: the 16-byte tag of a datagram's header and body. -/
def dgTag (key p : Bytes) : Bytes := (hmac key p).take 16

/-! ### ECDSA P-256 -/

/-- The field prime, the order of the base point and the constant `b` of the curve `y² = x³ − 3x + b`. -/
def ecP : Nat := 2 ^ 256 - 2 ^ 224 + 2 ^ 192 + 2 ^ 96 - 1
def ecN : Nat := 0xffffffff00000000ffffffffffffffffbce6faada7179e84f3b9cac2fc632551
def ecB : Nat := 0x5ac635d8aa3a93e7b3ebbd55769886bc651d06b0cc53b0f63bce3c3e27d2604b
/-- The base point. -/
def ecG : Nat × Nat :=
  (0x6b17d1f2e12c4247f8bce6e563a440f277037d812deb33a0f4a13945d898c296,
   0x4fe342e2fe1a7f9b8ee7eb4a7c0f9e162bce33576b315ececbb6406837bf51f5)

/-- `a` to the power of the low `k` bits of `e`, modulo `m`. -/
def powMod (m a : Nat) : Nat → Nat → Nat
  | 0, _ => 1
  | k + 1, e => let h := powMod m (a * a % m) k (e / 2); if e % 2 = 1 then a * h % m else h

/-- The inverse modulo a prime `m` of 256 bits. -/
def invMod (m a : Nat) : Nat := powMod m (a % m) 256 (m - 2)

/-- A point on the curve: its coordinates below the prime, and the equation. -/
def ecOn (q : Nat × Nat) : Bool :=
  decide (q.1 < ecP) && decide (q.2 < ecP) && q.2 * q.2 % ecP == (q.1 * q.1 * q.1 + (ecP - 3) * q.1 + ecB) % ecP

/-- The sum of two points; `none` is the point at infinity. -/
def ecAdd (p q : Option (Nat × Nat)) : Option (Nat × Nat) :=
  match p, q with
  | none, _ => q
  | _, none => p
  | some (x1, y1), some (x2, y2) =>
    if x1 = x2 ∧ (y1 + y2) % ecP = 0 then none
    else
      let l := if x1 = x2 then (3 * x1 * x1 + ecP - 3) * invMod ecP (2 * y1) % ecP
               else (y2 + ecP - y1) * invMod ecP (x2 + ecP - x1) % ecP
      let x := (l * l + 2 * ecP - x1 - x2) % ecP
      some (x, (l * (x1 + ecP - x) + ecP - y1) % ecP)

/-- The multiple of a point by the low `k` bits of a number. -/
def ecMul (q : Option (Nat × Nat)) : Nat → Nat → Option (Nat × Nat)
  | 0, _ => none
  | k + 1, e => let h := ecMul (ecAdd q q) k (e / 2); if e % 2 = 1 then ecAdd q h else h

/-- A big-endian number of bytes. -/
def natBE (p : Bytes) : Nat := p.foldl (fun (n : Nat) (b : Byte) => n * 256 + b.toNat) 0

/-- R384: the signature `r`, `s` (64 bytes) over the digest of `msg` holds under the public key `x`, `y` (64 bytes). -/
def ecdsaHolds (key msg sig : Bytes) : Bool :=
  let q := (natBE (key.take 32), natBE (key.drop 32))
  let r := natBE (sig.take 32)
  let s := natBE (sig.drop 32)
  let w := invMod ecN s
  key.length == 64 && sig.length == 64 && ecOn q && decide (0 < r) && decide (r < ecN) && decide (0 < s) && decide (s < ecN) &&
  (match ecAdd (ecMul (some ecG) 256 (natBE (sha256 msg) * w % ecN)) (ecMul (some q) 256 (r * w % ecN)) with
   | some (x, _) => x % ecN == r
   | none => false)

end Sys2Proof.Machine
end

