-- ==== Sys2Proof/Machine/EvOps.lean ====
section
/-! DEFINITION. The event controller: pending events, thresholds, holds and messages; and the datagrams the device sends
on H2 (R403-R408, R411, R415-R419). -/

namespace Sys2Proof.Machine

/-- Something sent in this step. -/
def Dev.send (d : Dev) (o : Out) : Dev := { d with sent := d.sent ++ [o] }

/-- A change of what H2 holds. -/
def Dev.onH2 (d : Dev) (f : H2 → H2) : Dev := { d with hp := { d.hp with h2 := f d.hp.h2 } }

/-- R403, R405: a datagram of the transport session of H2, where there is one. -/
def Dev.h2Send (d : Dev) (kind : Nat) (body : Bytes) : Dev :=
  match d.hp.h2.session with
  | some x =>
    let p := e8 kind ++ e8 0 ++ e16 body.length ++ e32 x.id ++ e64 x.next ++ body
    (d.onH2 (fun (h : H2) => { h with session := some { x with next := x.next + 1 } })).send (.dgram (p ++ dgTag x.key p))
  | none => d

/-- A vector of a port. -/
def Dev.vec (d : Dev) (p v : Nat) : Vec := (d.prt p).vecs.getD v Vec.reset
/-- A change of one vector. -/
def Dev.onVec (d : Dev) (p v : Nat) (f : Vec → Vec) : Dev := { d with hp := d.hp.vec p v f }

/-- The pending sources of a vector of a port, in their order (R415, R416). -/
def Dev.vecSources (d : Dev) (p v : Nat) : List Nat :=
  (List.range 1024).filter (fun (s : Nat) =>
    let r := (d.src s).route
    r.on && r.port == p && r.vec == v && d.srcPending s)

/-- R416, R418, R419: whether a vector can issue its message. -/
def Dev.canIssue (d : Dev) (p v : Nat) : Bool :=
  d.isOpen p && !(d.vec p v).parked && (decide (2 ≤ p) || (d.prt p).gateOpen (d.vec p v))

/-- R408: the body of an `EVENT` datagram. -/
def Dev.eventBody (d : Dev) (v : Nat) : Bytes :=
  let l := d.vecSources 2 v
  e16 v ++ e16 l.length ++ l.flatMap (fun (s : Nat) => e16 s ++ e16 0 ++ e32 (d.causes s))

/-- R408, R411, R416, R419: a vector issues its message: count and timer reset. -/
def Dev.issue (d : Dev) (p v : Nat) : Dev :=
  let d := d.onVec p v (fun (x : Vec) => { x with count := 0, timer := false, held := false, pba := false, again := decide (p = 2) })
  if p < 2 then d.send (.msix p (d.vec p v).addr (d.vec p v).data)
  else if p = 2 then d.h2Send 0x31 (d.eventBody v)
  else d.onPort p (fun (q : Port) => { q with irqVec := setBit q.irqVec v })

/-- R416, R419: the message condition of a vector is met. -/
def Dev.conditionMet (d : Dev) (p v : Nat) : Dev :=
  if d.canIssue p v then d.issue p v
  else
    let shut := decide (p < 2) && !(d.prt p).gateOpen (d.vec p v)
    d.onVec p v (fun (x : Vec) => { x with held := true, pba := x.pba || shut })

/-- R416: a pending event on a vector; while the condition is held it adds nothing. -/
def Dev.countEvent (d : Dev) (p v : Nat) : Dev :=
  if (d.vec p v).held then d
  else
    let d := d.onVec p v (fun (x : Vec) => { x with count := x.count + 1, timer := true })
    if (d.vec p v).evCount ≤ (d.vec p v).count then d.conditionMet p v else d

/-- R416, R419: a held condition whose hold has ended: the message goes out only if a source is still pending. -/
def Dev.retry (d : Dev) (p v : Nat) : Dev :=
  if (d.vec p v).held && d.canIssue p v then
    if (d.vecSources p v).isEmpty then d.onVec p v (fun (x : Vec) => { x with count := 0, timer := false, held := false, pba := false })
    else d.issue p v
  else d

/-- The held conditions of a port, by vector. -/
def Dev.retryPort (d : Dev) (p : Nat) : Dev := (List.range 64).foldl (fun (d : Dev) (v : Nat) => d.retry p v) d

/-- R416: a source that has become pending counts on its vector, once. -/
def Dev.pendingEvent (d : Dev) (s : Nat) : Dev :=
  if d.srcPending s && !(d.src s).pend then
    let r := (d.src s).route
    (d.onSrc s (fun (x : Src) => { x with pend := true })).countEvent r.port r.vec
  else d

/-- R358, R415: what the loss of a port does to events and flume rings: its sources leave service, the coalescing of
its vectors is cleared, and the flume rings in its memory go into error. -/
def Dev.loseEvents (d : Dev) (p : Nat) : Dev :=
  let d := { d with hp := { d.hp with srcs := d.hp.srcs.map (fun (x : Src) =>
    { x with serv := if x.serv = some p then none else x.serv, pend := x.pend && !(x.serv == some p || x.route.port == p) }) } }
  let d := (List.range 64).foldl (fun (d : Dev) (v : Nat) =>
    d.onVec p v (fun (x : Vec) => { x with count := 0, timer := false, held := false, pba := false, again := false })) d
  (List.range 16).foldl (fun (d : Dev) (k : Nat) =>
    let f := (d.eng (k / 4)).rings.getD (k % 4) Flume.reset
    if f.state ≠ 0 ∧ f.port = p then { d with cap := d.cap.ringError (k / 4) (k % 4) } else d) d

end Sys2Proof.Machine
end

