-- ==== Sys2Proof/Machine/Session.lean ====
section
/-! DEFINITION. Operations of sessions, rings and compartments that several commands and events share: the end of a
port's session, ring creation and deletion, urgent effects on a set of targets, and what waits for rings to empty
(R55-R67, R371-R379). -/

namespace Sys2Proof.Machine

/-- R391 `EV_CMP_RESOURCE` in every existing compartment. -/
def Dev.cmpAll (d : Dev) (b : Nat) : Dev :=
  (List.range 8).foldl (fun (d : Dev) (k : Nat) => if (d.comp k).state = 0 then d else d.compEvent k b) d

/-- A change of one session. -/
def Dev.onSession (d : Dev) (p : Nat) (f : Session → Session) : Dev :=
  { d with nov := { d.nov with sessions := upd d.nov.sessions p f } }

/-- R371: the cell owner's port is lost. -/
def Dev.passCell (d : Dev) (p : Nat) : Dev :=
  if d.cps.cellOwner = p then
    let d := match d.cps.standby with
      | some q => if d.isOpen q && q != p then { d with cps := { d.cps with cellOwner := q, standby := none } } else d
      | none => d
    d.cmpAll 2
  else d

/-- R378: the compartments of a lost port are orphaned. -/
def Dev.orphan (d : Dev) (p : Nat) : Dev :=
  (List.range 8).foldl (fun (d : Dev) (k : Nat) =>
    let x := d.comp k
    if x.state = 0 ∨ x.owner ≠ p then d
    else d.onComp k (fun (x : Comp) => { x with state := if x.state = 1 then 2 else x.state, orphanDue := true })) d

/-- R65: whether a command of a port that is lost goes on: it has been decoded and does not act on the session and the
rings that end with the port. -/
def Flight.survives (f : Flight) : Bool :=
  (f.stage == .pending || f.stage == .hold) && !(0x0101 ≤ f.op && f.op ≤ 0x0104)

/-- R65: the outcome of a command of a lost port, of its own where it has one. -/
def Flight.report (f : Flight) : Undelivered :=
  if f.stage == .post then ⟨f.cmd.ring.val, f.cmd.tag, f.status, f.detail⟩ else ⟨f.cmd.ring.val, f.cmd.tag, ST.abortPort, 0⟩

/-- R64, R65: outcomes kept for the next session of a port, at most 432. -/
def Dev.keep (d : Dev) (p : Nat) (l : List Undelivered) : Dev :=
  d.onSession p (fun (s : Session) => { s with undelivered := (s.undelivered ++ l).take 432 })

/-- R64, R65: the outcomes of the commands of lost ports that have finished since. -/
def Dev.collectLost (d : Dev) : Dev :=
  let hit (f : Flight) : Bool := f.pool == .lost && f.stage == .post
  let done := d.nov.flights.filter hit
  done.foldl (fun (d : Dev) (f : Flight) => d.keep f.cmd.port.val [f.report])
    { d with nov := { d.nov with flights := d.nov.flights.filter (fun (f : Flight) => !hit f) } }

/-- R65: a port whose session ends by loss: nothing further is fetched, its tags are free, its decoded commands go on, the
final status of each command is kept for R64, its rings are `DISABLED`, and its compartments take their orphan
reactions. -/
def Dev.portLost (d : Dev) (p : Nat) : Dev :=
  let mine (f : Flight) : Bool := f.cmd.port.val == p
  let kept := (d.nov.flights.filter (fun (f : Flight) => mine f && !f.survives)).map Flight.report
  let was := d.isOpen p
  let d := { d with nov := { d.nov with
    flights := (d.nov.flights.filter (fun (f : Flight) => !mine f || f.survives)).map (fun (f : Flight) =>
      if mine f then { f with pool := Pool.lost } else f)
    rings := d.nov.rings.map (fun (r : Ring) => if r.state != 0 && r.port == p then Ring.reset else r) } }
  let d := (d.keep p kept).onSession p (fun (s : Session) => { s with isOpen := false })
  let d := d.onPort p (fun (q : Port) =>
    { q with ctlStatus := 0, losses := sat32 (q.losses + 1), events := if was then setBit q.events 1 else q.events })
  let d := d.loseEvents p
  let d := if p = 2 then { d with hp := { d.hp with h2 := { d.hp.h2 with session := none } } } else d
  if was then (d.orphan p).passCell p else d

/-! ### Rings -/

/-- R42, R63: the extents of a port's rings in its ring area. -/
def Dev.sramUsed (d : Dev) (p skip : Nat) : List (Nat × Nat) :=
  (List.range 128).flatMap (fun (n : Nat) =>
    let r := d.ring n
    if n ≠ skip ∧ r.state ≠ 0 ∧ r.port = p ∧ r.loc = 1 then
      [(r.sqBase, r.sqBase + 64 * r.sqSlots), (r.cqBase, r.cqBase + 32 * r.cqSlots)]
    else [])

/-- R63: whether a ring pair in device SRAM fits the free space of the port's ring area. -/
def Dev.sramFits (d : Dev) (p n sq cq sqSlots cqSlots : Nat) : Bool :=
  let a := (sq, sq + 64 * sqSlots)
  let b := (cq, cq + 32 * cqSlots)
  let apart (x y : Nat × Nat) : Bool := decide (x.2 ≤ y.1) || decide (y.2 ≤ x.1)
  let used := d.sramUsed p n
  decide (a.2 ≤ areaSize) && decide (b.2 ≤ areaSize) && apart a b && used.all (fun (u : Nat × Nat) => apart a u && apart b u)

/-- A new ring pair (R44, R63, R415): sequence 0 is expected, and no compartment holds it. -/
def Dev.newRing (d : Dev) (n cls port loc sq cq sqSlots cqSlots : Nat) (control : Bool) : Dev :=
  let r : Ring := { Ring.reset with
    state := 1, cls := cls, port := port, loc := loc, sqBase := sq, cqBase := cq, sqSlots := sqSlots, cqSlots := cqSlots
    control := control }
  ((d.onRing n (fun _ => r)).setOwner 0x0D n none).onSrc n (fun (_ : Src) => { Src.reset with route := ⟨true, port, 0, 8⟩ })

/-- R66: a ring pair is deleted. -/
def Dev.dropRing (d : Dev) (n : Nat) : Dev :=
  ((d.onRing n (fun _ => Ring.reset)).setOwner 0x0D n none).onSrc n (fun _ => Src.reset)

/-- R63: the ring a `RING_CREATE` payload describes. -/
def Dev.createRing (d : Dev) (c : Cmd) : Dev :=
  let p := c.payload
  d.newRing c.idx (u8 p 0) c.port.val (u8 p 1) (u64 p 16) (u64 p 24) (u32 p 4) (u32 p 8) false

/-- Whether a command fetched from ring `n` is still in flight, apart from those a predicate leaves out. -/
def Dev.ringBusy (d : Dev) (n : Nat) (except : Flight → Bool) : Bool :=
  d.nov.flights.any (fun (f : Flight) => f.cmd.ring.val == n && f.pool != .lost && !except f)

/-- R65: the rings of a port but its control pair are deleted, and the control pair is fetched from again. -/
def Dev.closePort (d : Dev) (p : Nat) : Dev :=
  let d := (List.range 128).foldl (fun (d : Dev) (n : Nat) =>
    let r := d.ring n
    if r.state ≠ 0 ∧ r.port = p then
      (if r.control then d.onRing n (fun (r : Ring) => { r with closing := r.dropping }) else d.dropRing n)
    else d) d
  (d.onSession p (fun (s : Session) => { s with isOpen := false })).onPort p (fun (q : Port) => { q with events := setBit q.events 1 })

/-- R66, R397: a control ring pair that waits to be deleted goes once no command fetched from it is in flight. -/
def Dev.dropControl (d : Dev) : Dev :=
  (List.range 128).foldl (fun (d : Dev) (n : Nat) =>
    let r := d.ring n
    if r.dropping && !d.ringBusy n (fun _ => false) then
      (d.dropRing n).onPort r.port (fun (q : Port) => { q with ctlStatus := 0 })
    else d) d

/-- R45, R65, R66: the ring deletions, re-creations and session closes whose wait is over finish; the outcomes of lost
ports are kept. -/
def Dev.settleHolds (d : Dev) : Dev :=
  (d.nov.flights.foldl (fun (d : Dev) (f : Flight) =>
    if f.stage == .hold then
      match f.hold with
      | .ringDelete n =>
        if d.ringBusy n (fun (g : Flight) => g == f) then d
        else
          let d := if f.op = 0x0103 then d.createRing f.cmd else d.dropRing n
          d.finishHold (fun (h : Hold) => h == .ringDelete n) ST.ok 0 [] (some d.stk.number)
      | .close p =>
        if d.nov.flights.any (fun (g : Flight) => g.cmd.port.val == p && g.pool != .lost && g.hold != .close p) then d
        else d.finishHold (fun (h : Hold) => h == .close p) ST.ok 0 [] (some d.stk.number)
      | _ => d
    else d) d.dropControl).collectLost

/-! ### Urgent effects on a set of targets -/

/-- What an urgent command addresses: axes, arms and virtual masters. -/
structure Targets where
  axes : List Nat
  arms : List Nat
  vms  : List Nat
  deriving DecidableEq, Repr

/-- R293: a joint of an enabled arm stands for the whole arm. -/
def Dev.wholeArms (d : Dev) (t : Targets) : Targets :=
  { t with
    axes := t.axes.filter (fun (i : Nat) => (d.armOf i).isNone)
    arms := (t.arms ++ t.axes.filterMap (fun (i : Nat) => (d.armOf i).map (·.1))).eraseDups }

/-- R55: the targets of an area 0x00 command, `STOP_RELEASE` or `FEED_RESUME`. -/
def Dev.targets (d : Dev) (c : Cmd) : Targets :=
  let mask := uLE c.payload 0 16
  d.wholeArms
    (if c.cls = 0x0C then
      (if mask = 0 then ⟨d.holds 0x01 c.idx, d.holds 0x02 c.idx, d.holds 0x12 c.idx⟩ else ⟨bitsSet mask 128, [], []⟩)
    else if c.cls = 0x02 then ⟨[], [c.idx], []⟩
    else ⟨[c.idx], [], []⟩)

/-- R166: a feed hold on axes that follow masters takes in the chain. -/
def Dev.widen (d : Dev) (code : Nat) (t : Targets) : Targets :=
  if code = 2 then
    let os := (t.axes.flatMap d.holdSet).eraseDups
    { t with axes := (t.axes ++ os.filter (fun (o : Obj) => decide (o < 128))).eraseDups
             vms := (t.vms ++ (os.filter (fun (o : Obj) => decide (128 ≤ o))).map (fun (o : Obj) => o - 128)).eraseDups }
  else t

/-- R57: whether an effect is stronger than the one in force on any addressed object. -/
def Dev.stronger (d : Dev) (code : Nat) (t : Targets) : Bool :=
  t.axes.any (fun (i : Nat) => decide ((d.ax i).stop < code)) ||
  t.arms.any (fun (k : Nat) => (d.arm k).state != 0 && decide ((d.arm k).stop < code)) ||
  t.vms.any (fun (v : Nat) => decide ((d.vm v).stop < code))

/-- R55, R209: channel A commands STO on the local stage of an axis. -/
def Dev.stageSto (d : Dev) (i : Nat) (on : Bool) : Dev :=
  if (d.ax i).local_ then
    d.onStg (d.ax i).stage (fun (s : Stg) => { s with cmdA := on }.switches d.permitA d.permitB)
  else d

/-- R55-R57: an urgent effect from a latch point, on its targets. -/
def Dev.urgent (d : Dev) (code : Nat) (t : Targets) : Dev :=
  let t := d.widen code t
  let d := t.vms.foldl (fun (d : Dev) (v : Nat) => d.strengthen (128 + v) code) d
  let d := t.axes.foldl (fun (d : Dev) (i : Nat) => d.strengthen i code) d
  let d := t.arms.foldl (fun (d : Dev) (k : Nat) => d.strengthenArm k code) d
  if code = 5 then
    let all := t.axes ++ t.arms.flatMap (fun (k : Nat) => (d.arm k).axes)
    all.foldl (fun (d : Dev) (i : Nat) => d.stageSto i true) d
  else d

/-- R24: every axis, arm and master of a compartment. -/
def Dev.compTargets (d : Dev) (k : Nat) : Targets := d.wholeArms ⟨d.holds 0x01 k, d.holds 0x02 k, d.holds 0x12 k⟩

/-- R306: a claim of the host that still waits ends with a stop or `HALT` on its compartment. -/
def Dev.dropClaim (d : Dev) (k : Nat) : Dev :=
  let d := { d with claims := d.claims.filter (fun (c : ClaimReq) =>
    !(c.who == 8 && (bitsSet c.zones 64).any (fun (z : Nat) => d.owner 0x14 z == some k))) }
  d.finishHold (fun (h : Hold) => h == .zone k) ST.abortStop 0 [] none

/-- R24, R55, R306: an urgent effect on a whole compartment. -/
def Dev.urgentComp (d : Dev) (code k : Nat) : Dev :=
  let d := d.urgent code (d.compTargets k)
  if code = 2 then d else d.dropClaim k

/-- R58, R24: stop effects are released. -/
def Dev.release (d : Dev) (t : Targets) (comp : Option Nat) : Dev :=
  let all := t.axes ++ t.arms.flatMap (fun (k : Nat) => (d.arm k).axes)
  let sto := all.filter (fun (i : Nat) => (d.ax i).stop == 5 && !(d.safAx i).sto)
  let d := sto.foldl (fun (d : Dev) (i : Nat) => d.stageSto i false) d
  let d := t.vms.foldl Dev.releaseVm d
  let d := t.axes.foldl Dev.releaseAxis d
  let d := t.arms.foldl Dev.releaseArm d
  match comp with
  | some k =>
    { d with stk := { d.stk with
        segRun := d.stk.segRun.mapIdx (fun (i n : Nat) => if d.owner 0x03 i = some k then 0 else n)
        stgRun := d.stk.stgRun.mapIdx (fun (i n : Nat) => if d.owner 0x05 i = some k then 0 else n) } }
  | none => d

/-- R58: whether a release or a resume finds anything in force; `held` selects feed holds. -/
def Dev.inForce (d : Dev) (t : Targets) (held : Bool) : Bool :=
  let hit (s : Nat) : Bool := if held then s == 2 else s != 0 && s != 2
  t.axes.any (fun (i : Nat) => hit (d.ax i).stop) || t.arms.any (fun (k : Nat) => hit (d.arm k).stop) ||
  t.vms.any (fun (v : Nat) => hit (d.vm v).stop)

/-- R58, R165, R166: a feed hold is resumed with the chains; it ends at the first stroke of the next cell cycle
planned. -/
def Dev.resume (d : Dev) (t : Targets) : Dev :=
  let t := d.widen 2 t
  let d := t.axes.foldl (fun (d : Dev) (i : Nat) =>
    if (d.ax i).stop = 2 then d.onPf i (fun (p : Pf) => { p with resuming := true }) else d) d
  let d := t.vms.foldl (fun (d : Dev) (v : Nat) =>
    if (d.vm v).stop = 2 then d.onVm v (fun (m : Vm) => { m with resuming := true }) else d) d
  t.arms.foldl (fun (d : Dev) (k : Nat) =>
    if (d.arm k).stop = 2 then d.onArm k (fun (m : Arm) => { m with resuming := true }) else d) d

end Sys2Proof.Machine
end

