-- ==== Sys2Proof/Machine/CmdSession.lean ====
section
/-! DEFINITION. Area 0x01: sessions, rings and tags (R49, R53, R58, R62-R67). -/

namespace Sys2Proof.Machine

/-- A query or a change that changes nothing. -/
def Dev.done (d : Dev) : Eff := { dev := d }
/-- A reply. -/
def Dev.reply (d : Dev) (b : Bytes) : Eff := { dev := d, result := b }
/-- R46: a command that found nothing to change, or was refused by its own decision, in this stroke. -/
def Dev.says (d : Dev) (status : Nat) : Eff := { dev := d, status := status, eff := some d.stk.number }

/-- R64: the reply of `SESSION_OPEN`. -/
def openReply (port : Nat) (l : List Undelivered) : Bytes :=
  e8 port ++ e8 0 ++ e16 l.length ++ l.flatMap (fun (u : Undelivered) => e16 u.ring ++ e16 u.tag ++ e16 u.status ++ e16 u.detail)

/-- R379: the compartments of a port that opens a session are adopted. -/
def Dev.adopt (d : Dev) (p : Nat) : Dev :=
  (List.range 8).foldl (fun (d : Dev) (k : Nat) =>
    let x := d.comp k
    if x.state = 2 ∧ x.owner = p then
      d.onComp k (fun (x : Comp) => { x with state := 1, events := setBit x.events 1 })
    else d) d

/-- `SESSION_OPEN` (R62-R64). -/
def specSessionOpen : Spec :=
  { op := 0x0101, rings := [2], len := exactly 8, classes := [0x00], right := .any, timing := .now
    values := fun c _ => firstFail [inRange (u16 c.payload 0 == 0x0200) 0, rsv c.payload 2 2]
    object := fun c d => need (!d.isOpen c.port.val && (d.ring c.ring.val).control) ST.sessionActive 0
    apply := fun c d =>
      let p := c.port.val
      let d := d.collectLost
      let l := match d.nov.sessions[p]? with | some s => s.undelivered | none => []
      let d := d.onSession p (fun (s : Session) => { s with isOpen := true, client := u32 c.payload 4 })
      let d := d.onPort p (fun (q : Port) => { q with sessionStroke := d.stk.number % 2 ^ 32, events := setBit q.events 1 })
      ((d.adopt p).retryPort p).reply (openReply p l) }

/-- `SESSION_CLOSE` (R65). -/
def specSessionClose : Spec :=
  { op := 0x0102, rings := [1, 2, 3], len := exactly 0, classes := [0x00], right := .any, timing := .now
    apply := fun c d =>
      let p := c.port.val
      { dev := { d with nov := { d.nov with rings := d.nov.rings.map (fun (r : Ring) =>
          if r.state != 0 && r.port == p then { r with closing := true } else r) } }
        hold := .close p } }

/-- Whether a number of slots is a power of two from 128 to 65,536. -/
def slotsOk (n : Nat) : Bool := (List.range 10).any (fun (k : Nat) => n == 2 ^ (k + 7))

/-- `RING_CREATE` (R42, R45, R63). -/
def specRingCreate : Spec :=
  { op := 0x0103, rings := [1, 2, 3], len := exactly 32, classes := [0x0D], right := .any, timing := .now
    values := fun c _ =>
      let p := c.payload
      firstFail [inRange (decide (u8 p 0 ≤ 3)) 0, inRange (u8 p 1 == 1 || (u8 p 1 == 0 && decide (c.port.val < 2))) 1,
        rsv p 2 2, inRange (slotsOk (u32 p 4)) 4, inRange (slotsOk (u32 p 8)) 8, rsv p 12 4,
        inRange (u64 p 16 % 4096 == 0) 16, inRange (u64 p 24 % 4096 == 0) 24]
    object := fun c d =>
      let r := d.ring c.idx
      need (r.state == 0 || (r.port == c.port.val && r.state == 3)) ST.ringLimit 0
    resource := fun c d =>
      let p := c.payload
      need (u8 p 1 == 0 || d.sramFits c.port.val c.idx (u64 p 16) (u64 p 24) (u32 p 4) (u32 p 8)) ST.noMemory 0
    apply := fun c d =>
      if d.ringBusy c.idx (fun _ => false) then { dev := d, hold := .ringDelete c.idx } else (d.createRing c).done }

/-- The state of a ring pair that `RING_DELETE` and `RING_STATS_CLEAR` need (R66). -/
def ownRing (c : Cmd) (d : Dev) : Verdict :=
  let r := d.ring c.idx
  firstFail [need (r.state != 0) ST.disabled 0, need (r.port == c.port.val) ST.owned 0]

/-- `RING_DELETE` (R66). -/
def specRingDelete : Spec :=
  { op := 0x0104, rings := [1, 2, 3], len := exactly 0, classes := [0x0D], right := .any, timing := .now
    object := fun c d => firstFail [ownRing c d, need (c.idx != c.ring.val) ST.busy 0]
    apply := fun c d =>
      if d.ringBusy c.idx (fun _ => false) then
        { dev := d.onRing c.idx (fun (r : Ring) => { r with closing := true }), hold := .ringDelete c.idx }
      else (d.dropRing c.idx).done }

/-- `RING_STATS_CLEAR` (R53). -/
def specRingStatsClear : Spec :=
  { op := 0x0105, rings := [1, 2, 3], len := exactly 0, classes := [0x0D], right := .any, timing := .now
    object := ownRing
    apply := fun c d => (d.onRing c.idx (fun (r : Ring) => { r with starved := 0, cqStall := 0 })).done }

/-- The firmware image in the active slot. -/
def Dev.image (d : Dev) (k : Nat) : FwSlot := d.fw.slots.getD k ⟨0, 0, [], 0, 0⟩

/-- `DEVICE_IDENTIFY` (R63). -/
def specDeviceIdentify : Spec :=
  { op := 0x0106, rings := [1, 2, 3], len := exactly 0, classes := [0x00], right := .any, timing := .now
    apply := fun _ d =>
      let i := d.image d.fw.active
      (d.skip 1).reply (e32 0x00004128 ++ e16 0x00B0 ++ e16 i.series ++ e32 i.build ++ e8 d.fw.active ++ zeros 3 ++
        e64 Config.serial ++ e32 (Config.optionsCrc d.free) ++ zeros 4) }

/-- `NOP` (R63). -/
def specNop : Spec :=
  { op := 0x0107, rings := [1, 2, 3], len := fun n => decide (n ≤ 4080), classes := [0x00], right := .any, timing := .now
    apply := fun _ d => d.done }

/-- R67: whether a command in flight can still be cancelled. -/
def Flight.cancels (f : Flight) : Bool :=
  f.op / 256 != 0 &&
  match f.stage with
  | .fence => true
  | .byRef => true
  | .pending => true
  | .hold => (match f.hold with | .move _ _ => true | .rel _ => true | _ => false)
  | .post => false

/-- R65, R66: a close or a delete that does not take effect stops nothing. -/
def Dev.reopen (d : Dev) (f : Flight) : Dev :=
  if f.op = 0x0102 then
    let l := d.nov.rings.map (fun (r : Ring) => if r.port == f.cmd.port.val then { r with closing := false } else r)
    { d with nov := { d.nov with rings := l } }
  else if f.op = 0x0104 then d.onRing f.cmd.idx (fun (r : Ring) => { r with closing := false })
  else d

/-- R161, R176: a queued move cancelled leaves the queue; a relation that waits for its master is given up. -/
def Dev.unqueue (d : Dev) (f : Flight) : Dev :=
  match f.hold with
  | .move cls idx =>
    let mine := d.nov.flights.filter (fun (g : Flight) => g.stage == .hold && g.hold == .move cls idx)
    match mine.findIdx? (fun (g : Flight) => g == f) with
    | some k =>
      if cls = 0x12 then d.onVm idx (fun (m : Vm) => { m with gen := { m.gen with queue := m.gen.queue.eraseIdx k } })
      else d.onPf idx (fun (p : Pf) => { p with gen := { p.gen with queue := p.gen.queue.eraseIdx k } })
    | none => d
  | .rel i => d.onPf i (fun (p : Pf) => { p with rel := none })
  | _ => d.reopen f

/-- `CMD_ABORT` (R67). -/
def specCmdAbort : Spec :=
  { op := 0x0108, rings := [1, 2, 3], len := exactly 8, classes := [0x00], right := .any, timing := .now
    values := fun c _ => rsv c.payload 4 4
    apply := fun c d =>
      let hit (f : Flight) : Bool :=
        f.cmd.port == c.port && f.cmd.ring.val == u16 c.payload 0 && f.cmd.tag == u16 c.payload 2 && f.pool != .lost && f.cancels
      match d.nov.flights.find? hit with
      | some f => ((d.unqueue f).abort (fun (g : Flight) => g == f) ST.abortHost).done
      | none => d.says ST.noChange }

/-- `TAG_LIMITS` (R49). -/
def specTagLimits : Spec :=
  { op := 0x0109, rings := [1, 2, 3], len := exactly 8, classes := [0x00], right := .cellOwner, timing := .now
    values := fun c _ => firstFail ((List.range 4).map (fun (i : Nat) => inRange (decide (u16 c.payload (2 * i) ≤ 384)) (2 * i)))
    apply := fun c d =>
      ({ d with nov := { d.nov with caps := (List.range 4).map (fun (i : Nat) => u16 c.payload (2 * i)) } } : Dev).done }

/-- R36, R55: the layout of `STOP_RELEASE` and `FEED_RESUME`, and the mask's check. -/
def releaseForm (c : Cmd) : Verdict := need (c.payload.isEmpty || c.cls == 0x0C) ST.badLength 0
/-- R55: a mask bit of an axis outside the compartment. -/
def releaseMask (c : Cmd) (d : Dev) : Verdict :=
  if c.cls = 0x0C then
    match (bitsSet (uLE c.payload 0 16) 128).find? (fun (i : Nat) => d.owner 0x01 i != some c.idx) with
    | some i => some (ST.badValue, i / 8)
    | none => none
  else none

/-- `STOP_RELEASE` (R58). -/
def specStopRelease : Spec :=
  { op := 0x010A, rings := [1], len := fun n => n == 0 || n == 16, classes := [0x01, 0x02, 0x0C], right := .owner
    timing := .latch, form := releaseForm, values := releaseMask
    apply := fun c d =>
      let t := d.targets c
      let d' := d.release t (if c.cls = 0x0C then some c.idx else d.holder c.cls c.idx)
      if d.inForce t false then d'.done else d'.says ST.noChange }

/-- `FEED_RESUME` (R58, R165, R166). -/
def specFeedResume : Spec :=
  { op := 0x010B, rings := [1], len := fun n => n == 0 || n == 16, classes := [0x01, 0x02, 0x0C], right := .owner
    timing := .plan, form := releaseForm, values := releaseMask
    apply := fun c d =>
      let t := d.targets c
      if d.inForce t true then { dev := d.resume t, hold := .stroke } else d.says ST.noChange }

/-- `SESSION_OPEN`: the port's session opens; the reply lists what could not be delivered (R62, R64). -/
def execSessionOpen (c : Cmd) (s : State) : Host.Outcome State Fault Refusal := .next (s.run specSessionOpen c)
/-- `SESSION_CLOSE` (R65). -/
def execSessionClose (c : Cmd) (s : State) : Host.Outcome State Fault Refusal := .next (s.run specSessionClose c)
/-- `RING_CREATE` (R63). -/
def execRingCreate (c : Cmd) (s : State) : Host.Outcome State Fault Refusal := .next (s.run specRingCreate c)
/-- `RING_DELETE` (R66). -/
def execRingDelete (c : Cmd) (s : State) : Host.Outcome State Fault Refusal := .next (s.run specRingDelete c)
/-- `RING_STATS_CLEAR` (R53). -/
def execRingStatsClear (c : Cmd) (s : State) : Host.Outcome State Fault Refusal := .next (s.run specRingStatsClear c)
/-- `DEVICE_IDENTIFY` (R63). -/
def execDeviceIdentify (c : Cmd) (s : State) : Host.Outcome State Fault Refusal := .next (s.run specDeviceIdentify c)
/-- `NOP` (R63). -/
def execNop (c : Cmd) (s : State) : Host.Outcome State Fault Refusal := .next (s.run specNop c)
/-- `CMD_ABORT` (R67). -/
def execCmdAbort (c : Cmd) (s : State) : Host.Outcome State Fault Refusal := .next (s.run specCmdAbort c)
/-- `TAG_LIMITS` (R49). -/
def execTagLimits (c : Cmd) (s : State) : Host.Outcome State Fault Refusal := .next (s.run specTagLimits c)
/-- `STOP_RELEASE` (R58). -/
def execStopRelease (c : Cmd) (s : State) : Host.Outcome State Fault Refusal := .next (s.run specStopRelease c)
/-- `FEED_RESUME` (R58). -/
def execFeedResume (c : Cmd) (s : State) : Host.Outcome State Fault Refusal := .next (s.run specFeedResume c)

end Sys2Proof.Machine
end

