-- ==== Sys2Proof/Machine/SafOps.lean ====
section
/-! DEFINITION. The safety channels: inputs and activations, positions of channel B, violations and demands, STO and
SS1, separation, safety faults and resets (R307-R331). -/

namespace Sys2Proof.Machine

/-! ### Inputs and activation -/

/-- R312: an input in its permit state. -/
def SafIn.permit (n : SafIn) : Bool := !n.fault && n.c1 && (if n.mode = 0 then n.c2 else !n.c2)
/-- R312: both filtered contacts show the safe state. -/
def SafIn.bothSafe (n : SafIn) : Bool := !n.c1 && (if n.mode = 0 then !n.c2 else n.c2)
/-- R312: the contacts disagree. -/
def SafIn.disagree (n : SafIn) : Bool := if n.mode = 0 then n.c1 != n.c2 else n.c1 == n.c2

/-- R314: whether a function of compartment `k` with activation `code` is active. -/
def Dev.actOn (d : Dev) (k code : Nat) : Bool :=
  if code = 0 then true
  else if code < 0x10 then false
  else if code < 0x20 then !(d.safIn (code - 0x10)).permit
  else !bit (d.safCmp k).control (code - 0x20)

/-- R314, R315: the functions of an axis that are active: STO, SS1, SLS, SLP, SDI. -/
def Dev.safActs (d : Dev) (i : Nat) : List Bool :=
  match d.owner 0x01 i with
  | some k => (d.safAx i).cfg.acts.map (d.actOn k)
  | none => List.replicate 5 false

/-- R314, R315: the functions of an arm that are active: STO, SS1, SLS, separation. -/
def Dev.armActs (d : Dev) (k : Nat) : List Bool :=
  match d.owner 0x02 k with
  | some c => (d.safArm k).acts.map (d.actOn c)
  | none => List.replicate 4 false

/-- The arm that is configured with an axis. -/
def Dev.jointArm (d : Dev) (i : Nat) : Option Nat := (List.range 8).find? (fun (k : Nat) => (d.arm k).axes.contains i)

/-- R309, R328, R482: every stage and output is in STO. -/
def Dev.stoAll (d : Dev) : Bool := !d.saf.selfTest || d.saf.devFault || d.pwr.faultHalt

/-- R315, R316: an axis in safety STO, of its own or of its arm. -/
def Dev.inSto (d : Dev) (i : Nat) : Bool :=
  (d.safAx i).sto || (match d.jointArm i with | some k => (d.safArm k).sto | none => false)

/-- R317: an axis in an SS1 ramp, of its own or of its arm. -/
def Dev.inSs1 (d : Dev) (i : Nat) : Bool :=
  (d.safAx i).ss1 || (match d.armOf i with | some (j, _) => (d.safArm j).ss1 | none => false)

/-- R104, R328: STO in force on an axis; a local axis also needs the permits of its stage's switches. -/
def Dev.stoOn (d : Dev) (i : Nat) : Bool := d.inSto i || (d.stoAll && (d.ax i).local_) || d.saf.devFault

/-! ### Switches and outputs -/

/-- R209, R316: a stage's switches follow the channels: `a` and `b` say which channels act now. -/
def Dev.syncStage (d : Dev) (s : Nat) (a b : Bool) : Dev :=
  let all := d.stoAll || d.saf.stages.getD s false
  let ax := d.stageAxis s
  let sto := match ax with | some i => d.inSto i | none => false
  let stop := match ax with | some i => (d.ax i).stop == 5 | none => false
  -- channel B opens as soon as a function demands it
  let soon := match ax with
    | some i => (d.safActs i).getD 0 false || (match d.jointArm i with | some k => (d.armActs k).getD 0 false | none => false)
    | none => false
  d.onStg s (fun (x : Stg) =>
    { x with cmdA := if a then all || sto || stop else x.cmdA, cmdB := if b then all || sto || soon else x.cmdB }.switches d.permitA d.permitB)

/-- R313: the outputs as both channels permit. -/
def Dev.syncOutputs (d : Dev) (a b : Bool) : Dev :=
  { d with saf := { d.saf with outs := d.saf.outs.mapIdx (fun (o : Nat) (x : SafOut) =>
      let act := match d.owner 0x22 o with | some k => d.actOn k x.act | none => x.act == 0
      let used := (List.range 128).any (fun (i : Nat) => (d.safAx i).cfg.stoOut == o && d.inSto i)
      let on := !d.stoAll && !act && !used && !x.fault
      { x with sideA := if a then on else x.sideA, sideB := if b then on else x.sideB }) } }

/-- The paths of the channels brought up to date. -/
def Dev.syncPaths (d : Dev) (a b : Bool) : Dev :=
  ((List.range 8).foldl (fun (d : Dev) (s : Nat) => d.syncStage s a b) d).syncOutputs a b

/-! ### Faults, tests and resets -/

/-- R338: a safety event of a compartment. -/
def Dev.safEvent (d : Dev) (k b : Nat) : Dev := d.onSafCmp k (fun (c : SafCmp) => { c with events := setBit c.events b })

/-- R329: the test-demanded inputs of a compartment become test-pending; `fresh`: by a safety fault. -/
def Dev.pendTests (d : Dev) (k : Nat) (fresh : Bool) : Dev :=
  let hit (n : Nat) : Bool := d.owner 0x0B n == some k && bit (d.safIn n).flags 0
  let d' := { d with saf := { d.saf with ins := d.saf.ins.mapIdx (fun (n : Nat) (x : SafIn) =>
    if hit n then { x with pending := true, testSafe := false, fresh := x.fresh || fresh } else x) } }
  if (List.range 16).any hit then d'.safEvent k 2 else d'

/-- R329: the test-demanded inputs of a compartment become test-pending. -/
def Dev.demandTests (d : Dev) (k : Nat) : Dev := d.pendTests k false

/-- R309: a safety fault latched in a compartment, with its cause. -/
def Dev.safFault (d : Dev) (k cause : Nat) : Dev :=
  (d.onSafCmp k (fun (c : SafCmp) => { c with fault := true, cause := cause, events := setBit c.events 0 })).pendTests k true

/-- R487: the `source` of an entry about an object: class above index. -/
def jObj (cls idx : Nat) : Nat := 256 * cls + idx

/-- R309, R487: a device-scope safety fault. -/
def Dev.safDevFault (d : Dev) (cause : Nat) : Dev :=
  let d := ({ d with saf := { d.saf with devFault := true, devCause := cause } } : Dev).log 0x40 0xFFFF cause
  (List.range 8).foldl (fun (d : Dev) (k : Nat) => d.safFault k cause) d

/-- R309, R311: an axis, or the whole arm of a joint, takes a safety fault. -/
def Dev.axSafFault (d : Dev) (i cause : Nat) : Dev :=
  let d := match d.jointArm i with
    | some k => d.onSafArm k (fun (a : SafArm) => { a with fault := true })
    | none => d.onSafAx i (fun (s : SafAx) => { s with fault := true })
  match d.owner 0x01 i with | some k => (d.safFault k cause).log 0x40 (jObj 0x01 i) cause | none => d

/-- R314: the axes and arms of compartment `k` with a function that input `n` activates. -/
def Dev.usersOf (d : Dev) (k n : Nat) : List Nat × List Nat :=
  ((d.holds 0x01 k).filter (fun (i : Nat) => (d.safAx i).cfg.acts.contains (0x10 + n)),
   (d.holds 0x02 k).filter (fun (j : Nat) => (d.safArm j).acts.contains (0x10 + n)))

/-- R331: an accepted reset on compartment `k`: what has lost its cause is cleared. -/
def Dev.safReset (d : Dev) (k : Nat) : Dev :=
  let d := { d with saf := { d.saf with
    ins := d.saf.ins.mapIdx (fun (n : Nat) (x : SafIn) => if d.owner 0x0B n = some k ∧ x.safeSeen then { x with fault := false } else x)
    outs := d.saf.outs.mapIdx (fun (o : Nat) (x : SafOut) => if d.owner 0x22 o = some k then { x with fault := false } else x)
    stages := d.saf.stages.mapIdx (fun (s : Nat) (b : Bool) => b && d.owner 0x05 s != some k)
    devFault := d.saf.devFault && !d.saf.selfTest, devCause := if d.saf.selfTest then 0 else d.saf.devCause } }
  let badIn (acts : List Nat) : Bool := acts.any (fun (c : Nat) => decide (0x10 ≤ c) && decide (c < 0x20) && (d.safIn (c - 0x10)).fault)
  let d := (d.holds 0x01 k).foldl (fun (d : Dev) (i : Nat) =>
    let acts := d.safActs i
    let on := acts.getD 0 false || acts.getD 1 false
    d.onSafAx i (fun (s : SafAx) =>
      let fault := s.fault && (badIn s.cfg.acts || decide (0 < s.discCount))
      { s with fault := fault, viol := s.violNow, stoHeld := s.stoHeld && (on || s.violNow || fault) })) d
  let d := (d.holds 0x02 k).foldl (fun (d : Dev) (j : Nat) =>
    let acts := d.armActs j
    let on := acts.getD 0 false || acts.getD 1 false
    let joints := (d.arm j).axes.any (fun (i : Nat) => decide (0 < (d.safAx i).discCount))
    let wait := (d.safArm j).waitReset
    let d := d.onSafArm j (fun (s : SafArm) =>
      let fault := s.fault && (badIn s.acts || joints)
      { s with fault := fault, viol := s.violNow, waitReset := false, stoHeld := s.stoHeld && (on || s.violNow || fault) })
    if wait then d.onArm j (fun (m : Arm) => { m with protective := false }) else d) d
  let left := d.saf.devFault || (d.holds 0x01 k).any (fun (i : Nat) => (d.safAx i).fault) || (d.holds 0x02 k).any (fun (j : Nat) => (d.safArm j).fault) ||
    (d.holds 0x0B k).any (fun (n : Nat) => (d.safIn n).fault)
  (d.onSafCmp k (fun (c : SafCmp) => { c with fault := c.fault && left, cause := if left then c.cause else 0 })).safEvent k 4

/-- R320, R329, R337: what the safety functions refuse on an axis: running states (`enter`) and motion commands. -/
def Dev.safRefusals (d : Dev) (i : Nat) (enter : Bool) : List Verdict :=
  let pending (acts : List Nat) : Bool := acts.any (fun (c : Nat) => decide (0x10 ≤ c) && decide (c < 0x20) && (d.safIn (c - 0x10)).pending)
  let arm := d.jointArm i
  let viol := (d.safAx i).viol || (match arm with | some k => (d.safArm k).viol | none => false)
  let test := pending (d.safAx i).cfg.acts || (match arm with | some k => pending (d.safArm k).acts | none => false)
  let committed := match d.owner 0x01 i with | some k => (d.safCmp k).committed | none => true
  [need (!enter || committed) ST.notCommitted 0, need (!test) ST.guardTest 0, need (!viol) ST.resetRequired 0]

/-! ### Positions -/

/-- R311: the reference of channel B: its position becomes that of channel A. -/
def Dev.safReference (d : Dev) (i : Nat) : Dev :=
  let x := (d.fb i).pAct
  (d.shiftArms i false (x - (d.safAx i).pB)).onSafAx i (fun (s : SafAx) =>
    let sh := x - s.pB
    { s with histB := s.histB.map (fun (y : Int) => y + sh), sdiExtB := s.sdiExtB.map (fun (y : Int) => y + sh), pB0 := x, cB := 0 })

/-- R310: the raw secondary count of an axis at the feedback instant, `t` the latch instant; none where the node
marks it invalid. -/
def Dev.rawB (d : Dev) (i t : Nat) : Option Int :=
  let a := d.ax i
  let s := d.safAx i
  match s.cfg.bSource with
  | 0 => let e := d.entryOf a; if bit e.status 2 then some (e.countB : Int) else none
  | 1 => some ((d.sc s.cfg.bIndex).at_ (if a.local_ then (d.fb i).centre else t))
  | 2 => some s.bCount
  | _ => none

/-- The count gained since the last raw count. -/
def SafAx.take (s : SafAx) (r : Int) : SafAx :=
  let dc := match s.bPrev with
    | some p => if s.cfg.bSource = 0 then toS 16 (toU 16 (r - p)) else r - p
    | none => 0
  { s with cB := s.cB + dc, bPrev := some r }

/-- R310, R311, R318: the positions of both channels at a feedback instant, and the comparison of them, which a stroke
at age 1 or more leaves out. The count of a node comes with its frames only. -/
def Dev.safTrack (d : Dev) (i t : Nat) : Dev :=
  let a := d.ax i
  if a.state = 0 then d
  else
    let s0 := d.safAx i
    let raw := if a.age ≠ 0 ∧ s0.cfg.bSource = 0 then none else d.rawB i t
    let s := match raw with | some r => s0.take r | none => s0
    let pA := (d.fb i).pAct
    let pB := s.pB
    let n := d.cyc
    let v (h : List Int) (p : Int) : Option Int := (h[n - 1]?).map (fun (x : Int) => ((p - x).natAbs : Int) * d.fs)
    let apart : Bool := match v s.histA pA, v s.histB pB with
      | some x, some y => decide ((s.cfg.velTol : Int) * n < (x - y).natAbs)
      | _, _ => false
    let bad := raw.isNone || decide (s.cfg.posTol < (pA - pB).natAbs) || apart
    d.onSafAx i (fun _ =>
      { s with
        histA := (pA :: s.histA).take 33, histB := (pB :: s.histB).take 33
        discCount := if s.cfg.bSource = 0xFF ∨ s.cfg.bDen = 0 then 0 else if a.age ≠ 0 then s.discCount else if bad then s.discCount + 1 else 0 })

/-- R315, R318, R319: the violations of an axis: those answered by SS1, those answered by STO. -/
def Dev.safViolations (d : Dev) (i : Nat) (acts : List Bool) : Bool × Bool :=
  let s := d.safAx i
  let g := s.cfg
  let n := d.cyc
  let pA := (d.fb i).pAct
  let two := g.bSource != 0xFF && g.bDen != 0
  -- the newest entry of the history is the present position
  let fast (h : List Int) (p lim : Int) : Bool := match h[n]? with | some x => decide (lim * n < ((p - x).natAbs : Int) * d.fs) | none => false
  let sls := acts.getD 2 false && (d.ax i).state != 0 && (fast s.histA pA g.sls || (two && fast s.histB s.pB (g.sls + g.velTol)))
  let out (p : Int) : Bool := decide (p < g.slpMin) || decide (g.slpMax < p)
  let slp := acts.getD 3 false && (out pA || (two && out s.pB))
  let back (x : Option Int) (p : Int) : Bool := match x with
    | some e => if bit g.flags 3 then decide (e + g.sdiTol < p) else decide (p < e - g.sdiTol)
    | none => false
  let sdi := acts.getD 4 false && (back s.sdiExt pA || (two && back s.sdiExtB s.pB))
  (sls || (slp && !bit g.flags 1) || (sdi && !bit g.flags 2), (slp && bit g.flags 1) || (sdi && bit g.flags 2))

/-! ### Reactions -/

/-- R316, R504: torque off by safety STO: the axis enters `OFF`. -/
def Dev.stoAxis (d : Dev) (i : Nat) : Dev :=
  let d := d.axRelease i ST.stoActive
  d.onAx i (fun (a : Axis) =>
    if 2 ≤ a.state ∧ a.state ≤ 4 then { a with state := 1, torqueOff := false, manCount := 0, feCount := 0, qsCount := 0 } else a)

/-- R316: an axis goes into safety STO; `held`: it stays until a reset. -/
def Dev.safSto (d : Dev) (i : Nat) (held : Bool) : Dev :=
  (d.onSafAx i (fun (s : SafAx) => { s with sto := true, stoHeld := s.stoHeld || held || bit s.cfg.flags 0, ss1 := false })).stoAxis i

/-- R315, R316: an arm goes into safety STO with all its joints. -/
def Dev.safStoArm (d : Dev) (k : Nat) (held : Bool) : Dev :=
  let d := d.onSafArm k (fun (s : SafArm) => { s with sto := true, stoHeld := s.stoHeld || held || bit s.flags 1, ss1 := false })
  (d.arm k).axes.foldl Dev.stoAxis d

/-- R317: SS1 of an arm begins; an arm at rest goes into STO at once. -/
def Dev.safSs1Arm (d : Dev) (k : Nat) : Dev :=
  let m := d.arm k
  if m.state = 0 ∨ m.standstill = true then d.safStoArm k true
  else d.onSafArm k (fun (s : SafArm) => { s with ss1 := true })

/-- R317: SS1 of an axis begins: the ramp of `STOP_CAT1`, without its stop effect; for a joint of an enabled arm that of
the arm. An axis whose loops are not computed goes into STO at once. -/
def Dev.safSs1 (d : Dev) (i : Nat) : Dev :=
  match d.armOf i with
  | some (k, _) => if (d.safArm k).ss1 || (d.safArm k).sto then d else d.safSs1Arm k
  | none =>
    let a := d.ax i
    if !a.computed then d.safSto i true
    else
      let d := d.endInj i true
      let d := if a.ramping then d.endSource i ST.abortStop
        else ((d.endSource i ST.abortStop).startRamp i a.lim.qsDecel).onPf i (fun (p : Pf) => { p with source := 7 })
      d.onSafAx i (fun (s : SafAx) => { s with ss1 := true })

/-- R319: the extreme position of an axis in its allowed direction, with the present one. -/
def SafAx.extreme (s : SafAx) (was : Option Int) (p : Int) : Option Int :=
  some (match was with | some e => (if bit s.cfg.flags 3 then min e p else max e p) | none => p)

/-- R316, R317, R320: the safety functions of an axis at a lift latch point. -/
def Dev.safAxis (d : Dev) (i : Nat) : Dev :=
  match d.owner 0x01 i with
  | none => d
  | some k =>
    let s := d.safAx i
    let acts := d.safActs i
    let v := d.safViolations i acts
    let now := v.1 || v.2
    let p := (d.fb i).pAct
    let d := d.onSafAx i (fun (s : SafAx) =>
      { s with
        active := acts, viol := s.viol || now, violNow := now
        sdiExt := if acts.getD 4 false then s.extreme s.sdiExt p else none
        sdiExtB := if acts.getD 4 false then s.extreme s.sdiExtB s.pB else none
        -- R318: an axis in `DISABLED` stands where it is
        histA := if (d.ax i).state = 0 then List.replicate 33 p else s.histA
        histB := if (d.ax i).state = 0 then List.replicate 33 s.pB else s.histB
        ss1Demand := acts.getD 1 false || v.1 })
    let d := if acts ≠ s.active ∨ now ≠ s.violNow then d.safEvent k 1 else d
    let sto := acts.getD 0 false || s.fault || v.2 || s.stoHeld
    if sto then (if s.sto then d else d.safSto i (s.fault || v.2))
    else if s.sto then d.onSafAx i (fun (s : SafAx) => { s with sto := false })
    else if (acts.getD 1 false || v.1) ∧ !s.ss1Demand then d.safSs1 i
    else d

/-- R315-R318, R320: the safety functions of an arm at a lift latch point; its SLS is judged at the first one of a cell
cycle. -/
def Dev.safArmEval (d : Dev) (j : Nat) : Dev :=
  match d.owner 0x02 j with
  | none => d
  | some k =>
    let s := d.safArm j
    let acts := d.armActs j
    let judge := d.stk.cyclePhase == 0 && acts.getD 2 false && (d.arm j).state != 0
    let now := if judge then d.tcpTooFast j else s.violNow && acts.getD 2 false
    let d := if judge then d.skip 1 else d
    let d := d.onSafArm j (fun (s : SafArm) =>
      { s with viol := s.viol || now, violNow := now, sepActive := acts.getD 3 false, ss1Demand := acts.getD 1 false || now })
    let d := if acts.getD 3 false ≠ s.sepActive ∨ now ≠ s.violNow then d.safEvent k 1 else d
    let sto := acts.getD 0 false || s.fault || s.stoHeld
    if sto then (if s.sto then d else d.safStoArm j s.fault)
    else if s.sto then d.onSafArm j (fun (s : SafArm) => { s with sto := false })
    else if (acts.getD 1 false || now) ∧ !s.ss1Demand then d.safSs1Arm j
    else d

/-- R317: at standstill SS1 ends in STO. -/
def Dev.safStandstill (d : Dev) : Dev :=
  let d := (List.range 128).foldl (fun (d : Dev) (i : Nat) =>
    if (d.safAx i).ss1 ∧ ((d.ax i).standstill ∨ !(d.ax i).computed) then d.safSto i true else d) d
  (List.range 8).foldl (fun (d : Dev) (k : Nat) =>
    if (d.safArm k).ss1 ∧ ((d.arm k).standstill ∨ (d.arm k).state = 0) then d.safStoArm k true else d) d

/-- R308-R320: the evaluation at a lift latch point, with the paths of both channels. -/
def Dev.safEval (d : Dev) : Dev :=
  let d := (List.range 128).foldl Dev.safAxis d
  let d := (List.range 8).foldl Dev.safArmEval d
  d.syncPaths true true

/-! ### Separation -/

/-- R301, R322-R324: the margins of an arm at the candidate scale `k`: of each human track, then of each other arm. -/
def Dev.sepMargins (d : Dev) (a : Nat) (g : SepRun) (ts : List TrackNear) (vh : Int) (k : Nat) : List Int × List Int :=
  let m := d.arm a
  let f := d.free
  let r := m.reach g k f
  let caps := m.caps (d.armPos a)
  let mine := (m.live (Int.fdiv (d.tcpSpeed a * k) 64) (m.rate * k / 64) d.fs f (200 + k)).2
  (ts.map (fun (t : TrackNear) =>
      t.dist - sepDistance r.1 r.2.1 r.2.2 g.tr (max t.v vh) t.open_ (gFx (d.safArm a).zr)),
   (List.range 8).filterMap (fun (b : Nat) =>
      if b = a ∨ (d.arm b).state = 0 then none
      else
        let o := d.arm b
        let all := caps.flatMap (fun (x : V3 × V3 × Int) => (o.caps (d.armPos b)).map (fun (y : V3 × V3 × Int) => (capDist x y).1))
        let clear (x : Arm) : Int := match x.cfg with | some c => gFx c.clearance | none => 0
        (leastBy id all).map (fun (x : Int) =>
          x - (mine + (o.live (d.tcpSpeed b) o.rate d.fs f (300 + b)).2 + max (clear m) (clear o)))))

/-- R325: the half-width of the band in which the 32-bit fixed-point arithmetic of channel B leaves a comparison open:
2^-8 mm. -/
def bandB : Int := ((2 ^ 56 : Nat) : Int)

/-- R301, R302, R321-R327, R334: the separation run of a cell cycle for an arm. -/
def Dev.separation (d : Dev) (k : Nat) : Dev :=
  let m := d.arm k
  let s := d.safArm k
  if m.state = 0 then d
  else
    let c := match d.owner 0x02 k with | some c => d.safCmp c | none => SafCmp.reset
    let lost := s.sepActive && !c.msgOk
    let f := d.free
    let tracks := if s.sepActive then c.tracks else []
    let tr := Int.fdiv ((c.latency : Int) * gOne) 1000000 + Int.fdiv (2 * d.cyc * gOne) d.fs
    let nr := cdivN (c.latency * d.fs) 1000000 + 2 * d.cyc
    let vh := (c.vhMin : Int) * gOne
    -- R323: the stop model's last speed point where there is no path ahead
    let full : Int := if m.spans.isEmpty && m.yard.segs.isEmpty then m.topSpeed else (Config.armFullSpeed f : Nat)
    let g : SepRun := ⟨tr, nr, d.cyc, d.fs, rateHeld m.rate m.target d.cyc m.steps.2, m.steps.1, full⟩
    let ts := tracks.filterMap (trackNear (m.caps (d.armPos k)))
    let fits (base : Nat) (l : List Int) : Bool := (l.mapIdx (fun (i : Nat) (x : Int) => leBand 0 x gSlack f (base + i))).all id
    let holds (q : Nat) : Bool :=
      let l := d.sepMargins k g ts vh q
      fits (1000 + 64 * q) l.1 && fits (1032 + 64 * q) l.2
    let scale := (List.range 65).reverse.find? holds
    -- R325, R326: channel B
    let caps := (m.caps (d.armPosB k)).map sphereOf
    let vB := d.sphereSpeed k
    let mB := m.measured vB f 130
    let tsB := tracks.filterMap (fun (t : Track) => trackNear caps t.sphere)
    let demandB := (tsB.mapIdx (fun (i : Nat) (t : TrackNear) =>
      leBand (sepDistance (gMul vB tr) mB.2 mB.1 tr (max t.v vh) t.open_ (gFx s.zr) - gFx s.marginB) t.dist bandB f (400 + i))).any (fun (b : Bool) => !b)
    let bad := ((ts.zip tsB).mapIdx (fun (i : Nat) (t : TrackNear × TrackNear) =>
      leBand t.2.dist (t.1.dist + gFx s.boundTol) bandB f (500 + i))).any (fun (b : Bool) => !b)
    let demand := lost || scale.isNone || demandB || !(fits 1000 (d.sepMargins k g ts vh 0).1)
    let ends := d.sepMargins k g ts vh (scale.getD 0)
    let sep := match leastBy id (ends.1 ++ ends.2) with | some x => toFpNear x f 10 | none => Config.noMargin f
    let d := (d.skip 1).onArm k (fun (m : Arm) =>
      { m with
        sepNext := if demand then 0 else scale.getD 0
        pose := m.pose.set 10 sep
        protective := m.protective || demand
        flags := if demand then setBit m.flags 3 else m.flags
        events := if demand && !m.protective then setBit m.events 8 else m.events })
    let d := d.onSafArm k (fun (s : SafArm) =>
      { s with
        demandB := demandB, waitReset := s.waitReset && !demand, fault := s.fault || bad
        clear := if demand ∨ scale = some 0 then 0 else s.clear + 1 })
    if bad then (match d.owner 0x02 k with | some c => (d.safFault c 4).log 0x40 (jObj 0x02 k) 4 | none => d) else d

end Sys2Proof.Machine
end

