-- ==== Sys2Proof/Machine/Start.lean ====
section
/-! DEFINITION. The save set and what comes back from it, start-up, and fault halt (R466, R470, R472-R475, R479-R485). -/

namespace Sys2Proof.Machine

/-! ### The save set -/

/-- R466: the outcome that a command in flight will report. -/
def Flight.saved (f : Flight) : SavedTag :=
  let kept := f.stage == .post || (f.stage == .hold && f.hold == .stroke)
  ⟨f.cmd.port.val, if kept then ⟨f.cmd.ring.val, f.cmd.tag, f.status, f.detail⟩ else ⟨f.cmd.ring.val, f.cmd.tag, ST.abortSag, 0⟩, f.op⟩

/-- R466: the tag table, with the outcomes that no session has taken yet. -/
def Dev.savedTags (d : Dev) : List SavedTag :=
  (List.range 4).flatMap (fun (p : Nat) =>
    match d.nov.sessions[p]? with
    | some s => s.undelivered.map (fun (u : Undelivered) => ⟨p, u, 0⟩)
    | none => []) ++ d.nov.flights.map Flight.saved

/-- R351: the tag of a record. -/
def recTag (r : Bytes) : Nat := uLE r 2 6

/-- R470: of the records held by some channels, newest first in each, the `k` newest of all. -/
def tailPick : Nat → List (Nat × List Bytes) → List (Nat × Bytes)
  | 0, _ => []
  | k + 1, l =>
    let best := l.foldl (fun (b : Option (Nat × Nat)) (x : Nat × List Bytes) =>
      match x.2, b with
      | [], _ => b
      | r :: _, none => some (x.1, recTag r)
      | r :: _, some y => if y.2 < recTag r then some (x.1, recTag r) else b) none
    match best with
    | none => []
    | some (n, _) =>
      let r := match l.find? (fun (x : Nat × List Bytes) => x.1 == n) with | some (_, r :: _) => [(n, r)] | _ => []
      r ++ tailPick k (l.map (fun (x : Nat × List Bytes) => if x.1 = n then (x.1, x.2.tail) else x))

/-- The records that a channel holds: its circular buffer, or its closed and open blocks. -/
def Cap.held (c : Cap) (n : Nat) : List Bytes :=
  match c.chans[n]?, c.engs[engOf n]? with
  | some k, some g =>
    let queued := g.rings.flatMap (fun (f : Flume) => (f.queue.filter (fun (b : Block) => b.chan == n)).flatMap Block.recs)
    k.buf ++ queued ++ k.block.getD []
  | _, _ => []

/-- R470: the capture tail, oldest first in each channel. -/
def Dev.tails (d : Dev) : List (Nat × List Bytes) :=
  let chs := bitsSet d.pwr.save.tailMask 64
  let got := tailPick (d.pwr.save.tailBytes / 16) (chs.map (fun (n : Nat) => (n, (d.cap.held n).reverse)))
  chs.map (fun (n : Nat) => (n, ((got.filter (fun (x : Nat × Bytes) => x.1 == n)).map (·.2)).reverse))

/-- R466, R470: the save set at a stroke boundary. -/
def Dev.saveSet (d : Dev) : SaveSet :=
  { number := d.stk.number, bkpSec := d.pwr.bkp.seconds, stkCfg := d.stk.cfg, cps := d.cps, caps := d.nov.caps, axes := d.axes, fbs := d.fbs
    scs := d.scs, eos := d.eos, vms := d.vms, stgs := d.stgs, segs := d.segs, arms := d.arms, zones := d.zones, saf := d.saf, cap := d.cap
    io := d.io, cans := d.cans, tm := d.tm, srcs := d.hp.srcs, vecs := d.hp.ports.map Port.vecs, tags := d.savedTags, tails := d.tails
    save := d.pwr.save, journal := [] }

/-! ### Restore -/

/-- R473: an axis comes back in `OFF` or `DISABLED`, with its configuration, banks, hooks and limits. -/
def Axis.restored (a : Axis) : Axis :=
  { Axis.reset with cfg := a.cfg, lim := a.lim, bank0 := a.bank0, bank1 := a.bank1, bank := a.bank, hooks := a.hooks, state := min a.state 1 }

/-- R473, R474: the positions of an axis; an incremental local source keeps its reference only with `keep_inc_ref`. -/
def Fb.restored (f : Fb) (keepInc : Bool) : Fb :=
  { Fb.reset with
    configured := f.configured, cfg := f.cfg, c := f.c, pAct := f.pAct, rem := f.rem, cExt := f.cExt, softMin := f.softMin
    softMax := f.softMax, referenced := f.referenced && (f.cfg.source == 0 || keepInc) }

/-- The configuration and the coefficients of a sine/cosine channel. -/
def ScCh.restored (h : ScCh) : ScCh :=
  { ScCh.reset with
    calMode := h.calMode, ampCount := h.ampCount, nomAmp := h.nomAmp, ampLo := h.ampLo, ampHi := h.ampHi, refMark := h.refMark
    offS := h.offS, offC := h.offC, gain := h.gain, phase := h.phase }

/-- R473: a virtual master at its position, a generator at rest. -/
def Vm.restored (v : Vm) : Vm :=
  { Vm.reset with
    source := v.source, enabled := v.enabled, object := v.object, decel := v.decel, preset := v.preset, pos := v.pos
    cur := Knots.hold v.pos, next := Knots.hold v.pos }

/-- R473: a local stage `DISABLED`, with its latched trip causes. -/
def Stg.restored (s : Stg) : Stg := { Stg.reset with cfg := s.cfg, tripped := s.tripped, faults := s.faults &&& 0x3FF }

/-- R473: a segment with its configuration; one that was running starts again. -/
def Seg.restored (s : Seg) : Seg :=
  { Seg.reset with
    term := s.term, busThr := s.busThr, table := s.table, ver := s.ver, startReq := s.state == 4
    pos := s.pos.map (fun (x : NodePos) => { NodePos.reset with state := min x.state 1 }) }

/-- R473: an arm `DISABLED`, its configuration kept. -/
def Arm.restored (m : Arm) : Arm :=
  { Arm.reset with
    cfg := m.cfg, capsules := m.capsules, tools := m.tools, model := m.model, payload := m.payload, segId := m.segId }

/-- R473: the safety configuration and commit; after it the first message is accepted with any value. The contacts are
those that stand now. -/
def Saf.restored (s now : Saf) : Saf :=
  { Saf.reset with
    selfTest := now.selfTest, devFault := now.devFault, devCause := now.devCause
    axes := s.axes.map (fun (x : SafAx) => { SafAx.reset with cfg := x.cfg, pB0 := x.pB0, cB := x.cB })
    arms := s.arms.map (fun (x : SafArm) =>
      { SafArm.reset with
        acts := x.acts, flags := x.flags, slsTcp := x.slsTcp, zr := x.zr, marginB := x.marginB, boundTol := x.boundTol, ss1Ms := x.ss1Ms })
    ins := s.ins.mapIdx (fun (n : Nat) (x : SafIn) =>
      let c := now.ins.getD n SafIn.reset
      { SafIn.reset with mode := x.mode, kind := x.kind, flags := x.flags, filt := x.filt, disc := x.disc, c1 := c.c1, c2 := c.c2 })
    outs := s.outs.map (fun (x : SafOut) => { SafOut.reset with act := x.act })
    comps := s.comps.map (fun (x : SafCmp) =>
      { SafCmp.reset with
        committed := x.committed, signature := x.signature, first := x.committed, latency := x.latency, vhMin := x.vhMin
        release := x.release }) }

/-- R473: the units, channels, engines and pins with their configuration, all idle. -/
def Cap.restored (c : Cap) : Cap :=
  { Cap.reset with
    units := c.units.map (fun (u : Trig) => { Trig.reset with cfg := u.cfg })
    chans := c.chans.map (fun (k : Chan) => { Chan.reset with cfg := k.cfg })
    engs := c.engs.map (fun (g : Eng) => { Eng.reset with share := g.share, high := g.high, low := g.low })
    pins := c.pins.map (fun (p : Pin) => { p with level := false, endAt := 0 }) }

/-- R473: a channel of the tail is `DONE` with its records; what its engine's share cannot hold is lost. -/
def Cap.tail_ (c : Cap) (x : Nat × List Bytes) : Cap :=
  let e := engOf x.1
  let room := (match c.engs[e]? with | some g => g.share | none => 0) - c.fillOf e
  let keep := min x.2.length (256 * room)
  (c.chan x.1 (fun (k : Chan) =>
    { k with state := 3, buf := x.2.drop (x.2.length - keep), limit := 256 * cdivN keep 256, resv := cdivN keep 256
             lost := x.2.length - keep })).settle e

/-- R473: the field inputs and outputs with their configuration; the outputs are off. -/
def Io.restored (io : Io) : Io :=
  { Io.reset with
    recoverMs := io.recoverMs
    dis := io.dis.map (fun (x : Di) => { Di.reset with diType := x.diType, edgeEvents := x.edgeEvents, cntN := x.cntN, debounce := x.debounce })
    dos := io.dos.map (fun (x : Do) => { Do.reset with restart := x.restart, offTest := x.offTest }) }

/-- R475: cell time after a restore: the seconds that the backup domain counted, where they are known. -/
def Tm.restored (t : Tm) (gap : Option Nat) : Tm :=
  { Tm.reset with
    now := (t.now + 1000000000 * gap.getD 0) % cellSpan, frac := t.frac, source := t.source
    tcus := t.tcus.map (fun (u : Tcu) => { Tcu.reset with line := u.line, target := u.target, period := u.period })
    crcs := t.crcs.map (fun (u : Crcu) => { Crcu.reset with cfg := u.cfg }) }

/-- R472-R475: the save set of `area` restored. The sessions report its outcomes; the rings stay as they are. -/
def Dev.restore (d : Dev) (area : Nat) (a : SaveArea) (bkpOk : Bool) : Dev :=
  let s := a.set
  let gap := if bkpOk then some (d.pwr.bkp.seconds - s.bkpSec) else none
  let checks := (List.range 128).filterMap (fun (i : Nat) =>
    let f := s.fbs.getD i Fb.reset
    if f.configured && f.cfg.source == 0 then f.base.map (fun (b : Int) => (⟨i, b, f.c, f.pAct, f.rem⟩ : PosCheck)) else none)
  let segs := s.segs.map Seg.restored
  let due := (List.range 16).filter (fun (n : Nat) => (segs.getD n Seg.reset).startReq)
  let tags (p : Nat) : List Undelivered := (s.tags.filter (fun (t : SavedTag) => t.port == p)).map SavedTag.out
  let d : Dev :=
    { d with
      stk := { d.stk with cfg := s.stkCfg, lenNow := strokeNs s.stkCfg.code }
      nov := { d.nov with
        caps := s.caps
        sessions := d.nov.sessions.mapIdx (fun (p : Nat) (x : Session) => { x with undelivered := (x.undelivered ++ tags p).take 432 }) }
      cps := { s.cps with
        blocks := d.cps.blocks, migration := none
        comps := s.cps.comps.map (fun (c : Comp) => { Comp.reset with
          state := if c.state = 3 then 1 else c.state, owner := c.owner, orphan := c.orphan, observers := c.observers, stoppers := c.stoppers
          slot := d.fw.active }) }
      axes := s.axes.map Axis.restored, fbs := s.fbs.map (fun (f : Fb) => f.restored s.save.keepInc), scs := s.scs.map ScCh.restored
      eos := s.eos.map (fun (o : Eo) => { Eo.reset with cfg := o.cfg }), vms := s.vms.map Vm.restored, stgs := s.stgs.map Stg.restored
      segs := segs, arms := s.arms.map Arm.restored, zones := s.zones, saf := s.saf.restored d.saf
      cap := s.tails.foldl Cap.tail_ s.cap.restored, io := s.io.restored
      cans := s.cans.map (fun (c : Can) => { Can.reset with cfg := c.cfg, filters := c.filters }), tm := s.tm.restored gap
      hp := { d.hp with
        srcs := s.srcs.map (fun (x : Src) => { Src.reset with route := x.route })
        ports := d.hp.ports.mapIdx (fun (p : Nat) (q : Port) => { q with
          vecs := q.vecs.mapIdx (fun (v : Nat) (x : Vec) =>
            let y := (s.vecs.getD p []).getD v Vec.reset
            { x with evCount := y.evCount, evTime := y.evTime }) }) } }
  let d := d.onPwr (fun (p : Pwr) =>
    { p with restored := true, timeGap := !bkpOk, save := s.save, checks := checks, source := some area, cruise := due
             journal := (p.journal ++ s.journal).drop (p.journal.length + s.journal.length - 16384), events := setBit p.events 1 })
  ((List.range 8).foldl Dev.demandTests d).log 0x10 0xFFFF a.gen

/-- R472: the area whose set is restored: the one that the pointer names, or with an invalid backup domain the one of the
higher generation; its set must be good and not consumed. -/
def Pwr.restorable (p : Pwr) (bkpOk good0 good1 : Bool) : Option (Nat × SaveArea) :=
  let get (n : Nat) : Option (Nat × SaveArea) :=
    match p.areas.getD n none with
    | some a => if (if n = 0 then good0 else good1) && !a.consumed then some (n, a) else none
    | none => none
  if bkpOk then
    match p.bkp.pointer with
    | some (n, g) => (get n).filter (fun (x : Nat × SaveArea) => x.2.gen == g)
    | none => none
  else
    match get 0, get 1 with
    | some x, some y => some (if x.2.gen < y.2.gen then y else x)
    | some x, none => some x
    | none, y => y

/-! ### Fault halt -/

/-- R244: a `HALT_MARK` pair on a running segment. -/
def Dev.haltPair (d : Dev) (n reason : Nat) : Dev :=
  let f := mkFrame 8 0xFF (d.stk.number % 256) (e8 reason ++ e8 0)
  ((d.send (.frame n f)).send (.frame n f)).onSeg n (fun (s : Seg) => { s with halt := none, halted := true })

/-- R244: the marks of a segment: at once, or in place of the next beacon while a node window is open. -/
def Dev.haltMark (d : Dev) (reason : Nat) (now : Bool) (n : Nat) : Dev :=
  let s := d.seg n
  let asked := match s.svc with | some v => v.asked | none => false
  let open_ := d.stk.phase == .suction || d.stk.phase == .beacon || asked || s.echo.isSome
  if !(s.state == 3 || s.state == 4 || s.state == 5) || s.halted then d
  else if open_ && !now then d.onSeg n (fun (s : Seg) => { s with halt := some reason })
  else d.haltPair n reason

/-- R465, R482: every local stage at its safe level, every safety output off. -/
def Dev.makeSafe (d : Dev) : Dev :=
  { d with
    stgs := d.stgs.map (fun (s : Stg) => { s.safeDrives with conducting := false, precharging := false, precharged := false })
    saf := { d.saf with outs := d.saf.outs.map (fun (x : SafOut) => { x with sideA := false, sideB := false }) } }

/-- R464: saving armed or not; a change is an event. -/
def Pwr.arm (p : Pwr) (on : Bool) : Pwr := if p.saveArmed = on then p else { p with saveArmed := on, events := setBit p.events 3 }

/-- R482: fault halt, with its journal entry. -/
def Dev.faultHalt (d : Dev) (code detail : Nat) : Dev :=
  if d.pwr.faultHalt then d
  else
    let d := d.makeSafe
    let d := (List.range 16).foldl (fun (d : Dev) (n : Nat) => d.haltMark 2 false n) d
    (((d.onPwr (fun (p : Pwr) => { p.arm false with faultHalt := true })).syncPaths true true).log code 0xFFFF detail)

/-- R482, R483: `FAULT_N` is driven low. -/
def Dev.faultN (d : Dev) : Bool := d.pwr.faultHalt || d.pwr.recovery
/-- R462: `SAVE_N` is driven low. -/
def Dev.saveN (d : Dev) : Bool := !d.running

/-! ### Start-up -/

/-- R484 step 11: the device is ready once the cruises of the segments that were started have ended. -/
def Dev.readyCheck (d : Dev) : Dev :=
  let waits (n : Nat) : Bool :=
    let s := d.seg n
    s.startReq || s.state == 1 || s.state == 3 || s.pos.any NodePos.cruising
  if d.pwr.ready || d.pwr.cruise.any waits then d
  else d.onPwr (fun (p : Pwr) => { p with ready := true, cruise := [], events := setBit p.events 0 })

/-- R328, R472, R473, R484 steps 7 to 11: the self-test, the restore, the ports. -/
def Dev.startEnd (d : Dev) (bkpOk selfOk good0 good1 : Bool) : Dev :=
  let d := if selfOk then { d with saf := { d.saf with selfTest := true } } else d.safDevFault 9
  let d := match d.pwr.restorable bkpOk good0 good1 with
    | some x => d.restore x.1 x.2 bkpOk
    | none => d.log 0x12 0xFFFF 0
  (d.syncPaths true true).readyCheck

/-- R485: a copy replaced or missing is an entry of the journal. -/
def Dev.badCopies (d : Dev) (s : StartUp) : Dev :=
  [s.optAOk, s.optBOk, s.trimAOk, s.trimBOk].zipIdx.foldl (fun (d : Dev) (x : Bool × Nat) => if x.1 then d else d.log 0x30 0xFFFF x.2) d

/-- R485: the options loaded. -/
def Dev.loadOptions (d : Dev) (s : StartUp) : Dev :=
  let d := d.badCopies s
  let d := d.onPwr (fun (p : Pwr) =>
    if s.optAOk then { p with opt := p.optA }
    else if s.optBOk then { p with opt := p.optB, optA := p.optB }
    else { p with opt := Options.factory, optionsDefault := true, events := setBit p.events 5 })
  let o := d.pwr.opt
  let code := u8 o.stroke 0
  { d with
    stk := { d.stk with cfg := { StkCfg.factory with code := code, cycle := u8 o.stroke 1 }, lenNow := strokeNs code }
    hp := { d.hp with h2 := { d.hp.h2 with cfg := o.h2 } } }

/-- R484 step 6: the slot of the boot selector, or the other one where its image is not good. -/
def Fw.select (f : Fw) (ok0 ok1 : Bool) : Option Nat :=
  let good (n : Nat) : Bool := (f.slots.getD n ⟨0, 0, [], 0, 0⟩).state == 2 && (if n = 0 then ok0 else ok1)
  if good f.boot then some f.boot else if good (1 - f.boot) then some (1 - f.boot) else none

/-- R480, R484: what a reset leaves: heartwood, the backup domain, the levels at the pins. -/
def Dev.kept (d : Dev) : Dev :=
  let p := d.pwr
  { Dev.reset with
    fw := { d.fw with slots := d.fw.slots.map (fun (s : FwSlot) => if s.state = 1 then { s with state := 0 } else s) }
    idents := d.idents, permitA := d.permitA, permitB := d.permitB, gtrip := d.gtrip, vgate := d.vgate, free := d.free, sent := d.sent
    saf := { Saf.reset with
      ins := d.saf.ins.map (fun (x : SafIn) => { SafIn.reset with c1 := x.c1, c2 := x.c2 }) }
    pwr := { Pwr.reset with
      lastSave := if p.supply = .park then p.lastSave else 0, lastUs := p.lastUs, lastMv := p.lastMv, generation := p.generation
      areas := p.areas, bkp := p.bkp, optA := p.optA, optB := p.optB, journal := p.journal, nextSeq := p.nextSeq } }

/-- R479, R480, R484: a start: `pin` by `RESET_N`, else by a power-on reset. -/
def Dev.start (d : Dev) (pin : Bool) (s : StartUp) : Dev :=
  let d := d.kept
  let d := d.onPwr (fun (p : Pwr) => { p with
    startMs := s.ms, bkpValid := s.bkpOk, bkpLost := !s.bkpOk
    bkp := if s.bkpOk then { p.bkp with seconds := (p.bkp.seconds + s.elapsed) % 2 ^ 32 } else Bkp.reset })
  let d := if s.bkpOk then d else d.log 0x31 0xFFFF 0
  let d := d.onPwr (fun (p : Pwr) => { p with
    bkp := if pin then { p.bkp with pinResets := sat16 (p.bkp.pinResets + 1) } else { p.bkp with powerOns := sat16 (p.bkp.powerOns + 1) } })
  let d := d.loadOptions s
  if (!s.trimAOk && !s.trimBOk) || !s.clocksOk then d.faultHalt 0x50 0
  else
    match d.fw.select s.image0Ok s.image1Ok with
    | none => d.onPwr (fun (p : Pwr) => { p with recovery := true })
    | some n =>
      (({ d with fw := { d.fw with active := n } } : Dev).startEnd s.bkpOk s.selfTestOk s.set0Ok s.set1Ok)

/-- R483: a good image in slot `n` ends recovery: the selector names it and start-up goes on from step 5, with checks whose
results are open. -/
def Dev.endRecovery (d : Dev) (n : Nat) : Dev :=
  if !d.pwr.recovery then d
  else
    let f := d.free
    let d := ({ d with fw := { d.fw with boot := n, active := n } } : Dev).skip 1
    let d := d.onPwr (fun (p : Pwr) => { p with recovery := false })
    if Config.startCheck f 0 then d.startEnd d.pwr.bkpValid (Config.startCheck f 1) (Config.startCheck f 2) (Config.startCheck f 3)
    else d.faultHalt 0x50 0

/-- The state after a start: the ring areas and the records are those of a reset. -/
def State.start (s : State) (pin : Bool) (u : StartUp) : State := { s with dev := s.dev.start pin u, shown := Dev.reset, mem := [] }

end Sys2Proof.Machine
end

