-- ==== Sys2Proof/Machine/CmdComp.lean ====
section
/-! DEFINITION. Areas 0x02 and 0x11: compartments, resources, rights, block resets and firmware images
(R370-R393). -/

namespace Sys2Proof.Machine

/-- Whether an axis in states 2 to 4 or an enabled encoder output reads a sine/cosine channel (R373). -/
def Dev.scRead (d : Dev) (n : Nat) : Bool :=
  (List.range 128).any (fun (i : Nat) =>
    let a := d.ax i
    let f := d.fb i
    decide (2 ≤ a.state) && decide (a.state ≤ 4) && f.configured && f.cfg.source == 1 && f.cfg.index == n) ||
  (List.range 4).any (fun (e : Nat) => let o := d.eo e; o.enabled && o.cfg.kind == 3 && o.cfg.object % 2 ^ 24 == n)

/-- R373: whether a resource is idle. -/
def Dev.idle (d : Dev) (cls i : Nat) : Bool :=
  match cls with
  | 0x01 => (d.ax i).state == 0
  | 0x02 => (d.arm i).state == 0
  | 0x03 => (d.seg i).state == 0
  | 0x05 => (d.stg i).mode == 0
  | 0x06 => (d.chan i).state == 0 && (d.chan i).resv == 0
  | 0x07 => !(d.trig i).on
  | 0x08 => (d.can i).state == 0
  | 0x0D => !d.ringBusy i (fun (f : Flight) => f.op == 0x0205 || f.op == 0x0203)
  | 0x0E => !(d.crcu i).enabled
  | 0x0F => !(d.eo i).enabled
  | 0x10 => !d.scRead i
  | 0x11 => !d.cap.units.any (fun (u : Trig) => u.on && (match u.cfg with | some g => g.kind == 0 && g.index == i | none => false))
  | 0x12 => !(d.vm i).enabled
  | 0x13 => (d.cam i).state != 3
  | 0x14 => (d.zone i).holder.isNone && !d.claims.any (fun (r : ClaimReq) => r.who != 9 && bit r.zones i)
  | 0x15 => (d.tcu i).state != 1
  | 0x20 =>
    !d.cap.units.any (fun (u : Trig) => u.on && (match u.cfg with | some g => g.line == i | none => false)) &&
    !d.stgs.any (fun (s : Stg) => s.points.any (fun (e : EvPt) => e.prescale != 0 && e.line == i))
  | 0x21 => !d.cap.units.any (fun (u : Trig) => u.on && (match u.cfg with | some g => g.kind == 2 && g.index == i | none => false))
  | 0x22 => (match d.owner 0x22 i with | some k => !(d.safCmp k).committed | none => true)
  | _ => true

/-- R413: the event source of a resource, where it has one of its own. -/
def sourceOf (cls i : Nat) : Option Nat :=
  match cls with
  | 0x01 => some (128 + i)
  | 0x03 => some (256 + i)
  | 0x02 => some (272 + i)
  | 0x05 => some (280 + i)
  | 0x06 => some (288 + i)
  | 0x08 => some (356 + i)
  | 0x09 => some (360 + i)
  | 0x0A => some (392 + i)
  | 0x0E => some (464 + i)
  | _ => none

/-- R415: the route of a source is disabled. -/
def Dev.unroute (d : Dev) (s : Nat) : Dev :=
  (d.onSrc s (fun (x : Src) => { x with route := { x.route with on := false } })).settleSrc s

/-- R374: one resource leaves its compartment. -/
def Dev.letGo (d : Dev) (cls i : Nat) : Dev :=
  let d := match cls, d.owner cls i with
    | 0x0A, _ => d.onDo i (fun (o : Do) => { o with command := false }.follow)
    | 0x0B, some k => d.onSafCmp k (fun (x : SafCmp) => { x with committed := false })
    | _, _ => d
  let d := d.setOwner cls i none
  match sourceOf cls i with
  | some s => d.unroute s
  | none => d

/-- R371: `CELL_OWNER_SET`. -/
def specCellOwnerSet : Spec :=
  { op := 0x0201, rings := [2], len := exactly 4, classes := [0x00], right := .cellOwner, timing := .now
    values := fun c d => firstFail [
      inRange (decide (u8 c.payload 0 ≤ 3) && d.isOpen (u8 c.payload 0)) 0,
      inRange (u8 c.payload 1 == 0xFF || (decide (u8 c.payload 1 ≤ 3) && d.isOpen (u8 c.payload 1))) 1, rsv c.payload 2 2]
    apply := fun c d =>
      let sb := u8 c.payload 1
      ({ d with cps := { d.cps with cellOwner := u8 c.payload 0, standby := if sb = 0xFF then none else some sb } }.cmpAll 2).done }

/-- The payload of `COMPARTMENT_CREATE` and `RIGHTS_SET` (R392). -/
def rightsFault (c : Cmd) (d : Dev) : Verdict :=
  let p := c.payload
  firstFail [inRange (decide (u8 p 0 ≤ 3) && d.isOpen (u8 p 0)) 0, inRange (decide (u8 p 1 ≤ 2)) 1,
    need (decide (u8 p 2 ≤ 15) && decide (u8 p 3 ≤ 15)) ST.reserved 0]

/-- R372: `COMPARTMENT_CREATE`. -/
def specCompartmentCreate : Spec :=
  { op := 0x0202, rings := [2], len := exactly 4, classes := [0x0C], right := .cellOwner, timing := .latch, atEffect := true
    values := rightsFault
    object := fun c d => need ((d.comp c.idx).state == 0) ST.compExists 0
    apply := fun c d =>
      let p := c.payload
      let d := d.onComp c.idx (fun _ =>
        { Comp.reset with state := 1, owner := u8 p 0, orphan := u8 p 1, observers := u8 p 2, stoppers := u8 p 3, slot := d.fw.active })
      (d.compEvent c.idx 2).done }

/-- R372: `COMPARTMENT_DELETE`. -/
def specCompartmentDelete : Spec :=
  { op := 0x0203, rings := [2], len := exactly 0, classes := [0x0C], right := .cellOwner, timing := .latch, atEffect := true
    object := fun c d =>
      match resourceClasses.findSome? (fun (cls : Nat) => (d.holds cls c.idx).find? (fun (i : Nat) => !d.idle cls i)) with
      | some i => some (ST.resourceActive, i)
      | none => none
    apply := fun c d =>
      if (d.comp c.idx).state = 0 then d.says ST.noChange
      else
        let d := resourceClasses.foldl (fun (d : Dev) (cls : Nat) =>
          (d.holds cls c.idx).foldl (fun (d : Dev) (i : Nat) => d.letGo cls i) d) d
        let d := [416, 448, 472].foldl (fun (d : Dev) (s : Nat) => d.unroute (s + c.idx)) d
        ((d.onComp c.idx (fun _ => Comp.reset)).compEvent c.idx 2).done }

/-- R374: the fields of a resource range. -/
def rangeFault (c : Cmd) : Verdict :=
  let p := c.payload
  match classPos (u8 p 0) with
  | none => some (ST.badValue, 0)
  | some k =>
    let n := resourceCounts.getD k 0
    firstFail [rsv p 1 3, inRange (decide (u32 p 4 < n)) 4, inRange (decide (1 ≤ u32 p 8) && decide (u32 p 4 + u32 p 8 ≤ n)) 8]

/-- The indices of a resource range. -/
def rangeOf (c : Cmd) : List Nat := (List.range (u32 c.payload 8)).map (fun (i : Nat) => u32 c.payload 4 + i)

/-- R374: the first index of a range that a check refuses. -/
def firstIndex (c : Cmd) (f : Nat → Option Nat) : Verdict :=
  (rangeOf c).findSome? (fun (i : Nat) => (f i).map (fun (st : Nat) => (st, i)))

/-- R374: `RESOURCE_ASSIGN`. -/
def specResourceAssign : Spec :=
  { op := 0x0204, rings := [2], len := exactly 12, classes := [0x0C], right := .cellOwner, timing := .latch
    values := fun c _ => rangeFault c
    object := fun c d => firstIndex c (fun (i : Nat) =>
      let cls := u8 c.payload 0
      match d.owner cls i with
      | some k => if k = c.idx then none else some ST.owned
      | none =>
        if cls = 0x0D then
          let r := d.ring i
          if r.state = 0 then some ST.disabled
          else if r.port ≠ (d.comp c.idx).owner then some ST.badValue else none
        else match blockOf cls i with
          | some b => if d.block b = 0 then none else some ST.blockInReset
          | none => none)
    apply := fun c d =>
      let cls := u8 c.payload 0
      if (rangeOf c).all (fun (i : Nat) => d.owner cls i == some c.idx) then d.says ST.noChange
      else
        let d := (rangeOf c).foldl (fun (d : Dev) (i : Nat) => d.setOwner cls i (some c.idx)) d
        (d.compEvent c.idx 2).done }

/-- R374: `RESOURCE_RELEASE`. -/
def specResourceRelease : Spec :=
  { op := 0x0205, rings := [2], len := exactly 12, classes := [0x0C], right := .cellOwner, timing := .latch
    values := fun c _ => rangeFault c
    object := fun c d => firstIndex c (fun (i : Nat) =>
      let cls := u8 c.payload 0
      if d.owner cls i != some c.idx then some ST.owned
      else if !d.idle cls i then some ST.resourceActive else none)
    apply := fun c d =>
      let d := (rangeOf c).foldl (fun (d : Dev) (i : Nat) => d.letGo (u8 c.payload 0) i) d
      (d.compEvent c.idx 2).done }

/-- R415: every route to port `q` from the sources of compartment `k`, but for ring pairs, is disabled. -/
def Dev.unrouteTo (d : Dev) (q k : Nat) : Dev :=
  ((List.range 1024).drop 128).foldl (fun (d : Dev) (s : Nat) =>
    if (d.src s).route.on && (d.src s).route.port == q && d.srcHolder s == some k then d.unroute s else d) d

/-- R377: `RIGHTS_SET`. -/
def specRightsSet : Spec :=
  { op := 0x0206, rings := [2], len := exactly 4, classes := [0x0C], right := .cellOwner, timing := .latch
    values := rightsFault
    apply := fun c d =>
      let p := c.payload
      let k := c.idx
      let old := (d.comp k).owner
      let new := u8 p 0
      let d := if new ≠ old then
          let d := (d.holds 0x0D k).foldl (fun (d : Dev) (i : Nat) => if (d.ring i).port = old then d.setOwner 0x0D i none else d) d
          d.abort (fun (f : Flight) => f.stage == .pending && f.cmd.port.val == old && d.holder f.cmd.cls f.cmd.idx == some k && f.op / 256 != 0 && f.op / 256 != 2) ST.notOwner
        else d
      let d := d.onComp k (fun (x : Comp) =>
        let x := { x with owner := new, orphan := u8 p 1, observers := u8 p 2, stoppers := u8 p 3 }
        if x.state = 2 ∧ new ≠ old then { x with state := 1, orphanDue := false, events := setBit x.events 1 } else x)
      (((List.range 4).foldl (fun (d : Dev) (q : Nat) => if d.observes q k || d.stops q k then d else d.unrouteTo q k) d).compEvent k 2).done }

/-- R392: `COMPARTMENT_QUERY` and `COMPARTMENT_EVENT_ACK` are open to owner, observer and stop rights. -/
def anyRight (c : Cmd) (d : Dev) : Verdict :=
  need ((d.comp c.idx).state == 0 || d.observes c.port.val c.idx || d.stops c.port.val c.idx) ST.notOwner 0

/-- R392: an ownership bitmap. -/
def Dev.ownMap (d : Dev) (k : Nat) (l : List (Option Nat)) : Bytes :=
  enc ((l.length + 7) / 8) (maskOf (l.map (fun (o : Option Nat) => o == some k && (d.comp k).state != 0)))

/-- R392: `COMPARTMENT_QUERY`. -/
def specCompartmentQuery : Spec :=
  { op := 0x0207, rings := [1, 2, 3], len := exactly 0, classes := [0x0C], right := .own, timing := .now, exempt := true
    rights := anyRight
    apply := fun c d =>
      let x := d.comp c.idx
      d.reply (e8 x.state ++ e8 x.owner ++ e8 x.observers ++ e8 x.stoppers ++ d.cps.owners.flatMap (d.ownMap c.idx) ++ zeros 2) }

/-- R380: whose right a `BLOCK_RESET` needs. -/
def blockRight (c : Cmd) (d : Dev) : Verdict :=
  let b := u8 c.payload 0
  let p := c.port.val
  let owner (cls i : Nat) : Verdict := need (match d.owner cls i with | some k => d.owns p k | none => false) ST.notOwner 0
  if b < 0x10 then owner 0x03 b
  else if b < 0x14 then need (d.cps.cellOwner == p) ST.notCellOwner 0
  else if b < 0x18 then owner 0x08 (b - 0x14)
  else if b < 0x20 then owner 0x0E (b - 0x18)
  else if b < 0x28 then owner 0x05 (b - 0x20)
  else if b < 0x30 then owner 0x10 (b - 0x28)
  else if b < 0x34 then owner 0x0F (b - 0x30)
  else if b < 0x38 then need (d.cps.cellOwner == p && p != b - 0x34) ST.notCellOwner 0
  else none

/-- R380: the condition of a block reset. -/
def blockCondition (c : Cmd) (d : Dev) : Verdict :=
  let b := u8 c.payload 0
  if b < 0x10 then need ((d.seg b).state == 0) ST.cyclic 0
  else if 0x14 ≤ b ∧ b < 0x18 then need ((d.can (b - 0x14)).state == 0) ST.cyclic 0
  else if 0x20 ≤ b ∧ b < 0x28 then
    need (match d.stageAxis (b - 0x20) with | some i => !(decide (2 ≤ (d.ax i).state) && decide ((d.ax i).state ≤ 4)) | none => true) ST.busy 0
  else if 0x28 ≤ b ∧ b < 0x30 then need (!d.scRead (b - 0x28)) ST.busy 0
  else none

/-- R383: the channels of a capture engine are discarded, and what they held is counted. -/
def Cap.resetEngine (c : Cap) (e : Nat) : Cap :=
  let c := (List.range 16).foldl (fun (c : Cap) (i : Nat) =>
    c.chan (16 * e + i) (fun (k : Chan) =>
      let n := k.buf.length + (match k.block with | some b => b.length | none => 0)
      { Chan.reset with lost := sat32 (k.lost + n) })) c
  { c with engs := upd c.engs e (fun (g : Eng) =>
      { Eng.reset with share := g.share, rings := g.rings.map (fun (r : Flume) => { Flume.reset with tail := r.tail }) }) }

/-- R381 step 3, R383: the registers of a block at their reset values. -/
def Dev.clearBlock (d : Dev) (b : Nat) : Dev :=
  if b < 0x10 then d.onSeg b (fun _ => Seg.reset)
  else if b < 0x14 then { d with cap := d.cap.resetEngine (b - 0x10) }
  else if b < 0x18 then d.onCan (b - 0x14) (fun _ => Can.reset)
  else if b < 0x20 then d.onCrcu (b - 0x18) (fun _ => Crcu.reset)
  else if b < 0x28 then
    d.onStg (b - 0x20) (fun (s : Stg) =>
      { Stg.reset with
        tripped := s.tripped, faults := s.faults &&& 0x3FF, swA := s.swA, swB := s.swB, cmdA := s.cmdA, cmdB := s.cmdB
        tripLive := s.tripLive, gtripLive := s.gtripLive, gateOk := s.gateOk })
  else if b < 0x30 then d.onSc (b - 0x28) (fun _ => ScCh.reset)
  else if b < 0x34 then d.onEo (b - 0x30) (fun _ => Eo.reset)
  else d

/-- R394: a port as its block reset leaves it. -/
def Dev.clearPort (d : Dev) (p : Nat) : Dev :=
  let d := d.portLost p
  d.onPort p (fun (q : Port) => ({ Port.reset p with events := q.events, losses := q.losses, linkUp := q.linkUp } : Port).link (p == 3))

/-- R381 steps 1 to 3. -/
def Dev.resetBlock (d : Dev) (b : Nat) : Dev :=
  let d := { d with cps := { d.cps with blocks := d.cps.blocks.set b 1 } }
  let d := d.abort (fun (f : Flight) => blockOf f.cmd.cls f.cmd.idx == some b) ST.abortReset
  if b < 0x34 then d.clearBlock b else d.clearPort (b - 0x34)

/-- R381: `BLOCK_RESET`. -/
def specBlockReset : Spec :=
  { op := 0x0208, rings := [2], len := exactly 4, classes := [0x00], right := .own, timing := .latch
    rights := blockRight
    values := fun c _ => firstFail [inRange (decide (u8 c.payload 0 < 0x38)) 0, rsv c.payload 1 3]
    object := fun c d => if d.block (u8 c.payload 0) = 0 then blockCondition c d else none
    apply := fun c d =>
      let b := u8 c.payload 0
      if d.block b ≠ 0 then d.says ST.noChange else { dev := d.resetBlock b, hold := .block b } }

/-- R392: `BLOCK_QUERY`. -/
def specBlockQuery : Spec :=
  { op := 0x0209, rings := [1, 2, 3], len := exactly 0, classes := [0x00], right := .any, timing := .now
    apply := fun _ d => d.reply ((List.range 56).map (fun (b : Nat) => byteOf (d.block b))) }

/-- R391: `COMPARTMENT_EVENT_ACK`. -/
def specCompartmentEventAck : Spec :=
  { op := 0x020A, rings := [1, 2, 3], len := exactly 4, classes := [0x0C], right := .own, timing := .latch, exempt := true
    rights := anyRight
    apply := fun c d => (d.ack (472 + c.idx) (u32 c.payload 0 % 2 ^ 16)).done }

/-! ### Firmware images -/

/-- The slot that is staged. -/
def Fw.staged (f : Fw) : Nat := 1 - f.active
/-- The compartments that exist. -/
def Dev.existing (d : Dev) : List Nat := (List.range 8).filter (fun (k : Nat) => (d.comp k).state != 0)
/-- Whether a compartment runs a slot's image. -/
def Dev.runsOn (d : Dev) (slot : Nat) : Bool := d.existing.any (fun (k : Nat) => (d.comp k).slot == slot)
/-- A change of the staged slot. -/
def Dev.onStaged (d : Dev) (f : FwSlot → FwSlot) : Dev := { d with fw := { d.fw with slots := upd d.fw.slots d.fw.staged f } }

/-- R384: a length an image may have. -/
def imageLen (n : Nat) : Bool := decide (512 ≤ n) && decide (n ≤ 4194304) && n % 4 == 0

/-- R385: `FW_STAGE_OPEN`. -/
def specFwStageOpen : Spec :=
  { op := 0x1101, rings := [2], len := exactly 4, classes := [0x00], right := .cellOwner, timing := .now
    values := fun c _ => inRange (imageLen (u32 c.payload 0)) 0
    object := fun _ d => need (!d.runsOn d.fw.staged) ST.busy 0
    apply := fun c d => (d.onStaged (fun _ => ⟨1, u32 c.payload 0, [], 0, 0⟩)).done }

/-- R385, R393: `FW_STAGE_WRITE`. -/
def specFwStageWrite : Spec :=
  { op := 0x1102, rings := [3], len := fun n => decide (9 ≤ n), classes := [0x00], right := .cellOwner, timing := .now
    values := fun c d => firstFail [
      inRange (u32 c.payload 0 % 4 == 0) 0, rsv c.payload 4 4,
      (let s := d.image d.fw.staged
       if s.state = 1 then inRange (decide (u32 c.payload 0 + (c.payload.length - 8) ≤ s.length)) 0 else none)]
    object := fun _ d => need ((d.image d.fw.staged).state == 1) ST.busy 0
    apply := fun c d =>
      let o := u32 c.payload 0
      let data := c.payload.drop 8
      (d.onStaged (fun (s : FwSlot) => { s with words := (data.zipIdx o).map (fun (x : Byte × Nat) => (x.2, x.1)) ++ s.words })).done }

/-- R384: the image in a slot, where every byte of its length has been written. -/
def FwSlot.bytes (s : FwSlot) : Option Bytes :=
  (List.range s.length).mapM (fun (i : Nat) => (s.words.find? (fun (w : Nat × Byte) => w.1 == i)).map (·.2))

/-- R385: what is wrong with a staged image. Where several reasons hold, missing bytes come first, then the
format, the signature and the floor (DESIGN CHOICE, log entry 14). -/
def Dev.imageFault (d : Dev) (s : FwSlot) : Option Nat :=
  match s.bytes with
  | none => some 4
  | some b =>
    let k := u16 b 2
    if u16 b 0 ≠ 1 ∨ 1 < k ∨ u32 b 4 ≠ s.length then some 2
    else if !ecdsaHolds (d.pwr.opt.keys.getD k []) (b.take (b.length - 64)) (b.drop (b.length - 64)) then some 1
    else if u32 b 12 < d.pwr.opt.fwFloor then some 3 else none

/-- R385: `FW_STAGE_CLOSE`. -/
def specFwStageClose : Spec :=
  { op := 0x1103, rings := [2], len := exactly 0, classes := [0x00], right := .cellOwner, timing := .now
    object := fun _ d => need ((d.image d.fw.staged).state == 1) ST.busy 0
    apply := fun _ d =>
      let s := d.image d.fw.staged
      match d.imageFault s with
      | some r => { dev := d.onStaged (fun (s : FwSlot) => { s with state := 0 }), status := ST.imageInvalid, detail := r }
      | none =>
        let b := s.bytes.getD []
        { dev := (d.onStaged (fun (s : FwSlot) => { s with state := 2, series := u16 b 8, build := u32 b 12 })).endRecovery d.fw.staged
          result := e16 (u16 b 8) ++ zeros 2 ++ e32 (u32 b 12) } }

/-- R386: whether the planned sources of a compartment are at rest. -/
def Dev.atRest (d : Dev) (k : Nat) : Bool :=
  (d.holds 0x01 k).all (fun (i : Nat) =>
    let s := (d.pf i).source
    let a := d.ax i
    !(s == 1 || s == 2 || s == 3 || s == 6) || a.standstill || !a.computed) &&
  (d.holds 0x02 k).all (fun (i : Nat) => let m := d.arm i; m.state == 0 || m.state == 1 || (m.state == 3 && m.standstill)) &&
  (d.holds 0x12 k).all (fun (v : Nat) => let m := d.vm v; !m.enabled || m.source != 0 || m.dPos == 0)

/-- R386: `FW_MIGRATE`. -/
def specFwMigrate : Spec :=
  { op := 0x1104, rings := [2], len := exactly 4, classes := [0x0C], right := .cellOwner, timing := .latch, exempt := true
    values := fun c _ => firstFail [need (decide (u8 c.payload 0 ≤ 3)) ST.reserved 0, rsv c.payload 1 1,
      inRange (decide (1 ≤ u16 c.payload 2) && decide (u16 c.payload 2 ≤ 60000)) 2]
    object := fun c d =>
      firstFail [need d.cps.migration.isNone ST.busy 0,
        need (bit (u8 c.payload 0) 1 || (d.image d.fw.staged).state == 2) ST.notStaged 0]
    apply := fun c d =>
      let k := c.idx
      let hold := bit (u8 c.payload 0) 0
      let slot := if bit (u8 c.payload 0) 1 then d.fw.boot else d.fw.staged
      if (d.comp k).slot = slot then d.says ST.noChange
      else if !hold && !d.atRest k then d.says ST.busy
      else
        let was := (d.comp k).state
        let t := d.compTargets k
        let own := hold && !(d.inForce t true || d.inForce t false)
        let d := if hold then d.urgent 2 t else d
        { dev := { d.onComp k (fun (x : Comp) => { x with state := 3, migHold := 0 }) with
            cps := { (d.onComp k (fun (x : Comp) => { x with state := 3, migHold := 0 })).cps with
              migration := some ⟨k, slot, hold, u16 c.payload 2, .quiesce, 0, own, was⟩ } }
          hold := .migrate k } }

/-- R389: `FW_ACTIVATE`. -/
def specFwActivate : Spec :=
  { op := 0x1105, rings := [2], len := exactly 0, classes := [0x00], right := .cellOwner, timing := .latch
    object := fun _ d => firstFail [need ((d.image d.fw.staged).state == 2) ST.notStaged 0,
      need (d.existing.all (fun (k : Nat) => (d.comp k).slot == d.fw.staged)) ST.busy 0]
    apply := fun _ d => ({ d with fw := { d.fw with active := d.fw.staged, boot := d.fw.staged } } : Dev).done }

/-- R389: `FW_DISCARD`. -/
def specFwDiscard : Spec :=
  { op := 0x1106, rings := [2], len := exactly 0, classes := [0x00], right := .cellOwner, timing := .now
    object := fun _ d => need (!d.runsOn d.fw.staged) ST.busy 0
    apply := fun _ d =>
      if (d.image d.fw.staged).state = 0 then d.says ST.noChange
      else (d.onStaged (fun (s : FwSlot) => { s with state := 0, words := [] })).done }

/-- R393: `FW_STATUS`. -/
def specFwStatus : Spec :=
  { op := 0x1107, rings := [1, 2, 3], len := exactly 0, classes := [0x00], right := .any, timing := .now
    apply := fun _ d =>
      let mig := match d.cps.migration with | some m => m.comp | none => 0xFF
      let mask := maskOf ((List.range 8).map (fun (k : Nat) => (d.comp k).state != 0 && (d.comp k).slot == d.fw.staged))
      d.reply (e8 d.fw.boot ++ e8 (d.image d.fw.staged).state ++ e8 mig ++ e8 mask ++
        e32 (d.image d.fw.staged).build ++ e32 (d.image d.fw.boot).build) }

/-- `CELL_OWNER_SET` (R371). -/
def execCellOwnerSet (c : Cmd) (s : State) : Host.Outcome State Fault Refusal := .next (s.run specCellOwnerSet c)
/-- `COMPARTMENT_CREATE` (R372). -/
def execCompartmentCreate (c : Cmd) (s : State) : Host.Outcome State Fault Refusal := .next (s.run specCompartmentCreate c)
/-- `COMPARTMENT_DELETE` (R372). -/
def execCompartmentDelete (c : Cmd) (s : State) : Host.Outcome State Fault Refusal := .next (s.run specCompartmentDelete c)
/-- `RESOURCE_ASSIGN` (R374). -/
def execResourceAssign (c : Cmd) (s : State) : Host.Outcome State Fault Refusal := .next (s.run specResourceAssign c)
/-- `RESOURCE_RELEASE` (R374). -/
def execResourceRelease (c : Cmd) (s : State) : Host.Outcome State Fault Refusal := .next (s.run specResourceRelease c)
/-- `RIGHTS_SET` (R377). -/
def execRightsSet (c : Cmd) (s : State) : Host.Outcome State Fault Refusal := .next (s.run specRightsSet c)
/-- `COMPARTMENT_QUERY` (R392). -/
def execCompartmentQuery (c : Cmd) (s : State) : Host.Outcome State Fault Refusal := .next (s.run specCompartmentQuery c)
/-- `BLOCK_RESET` (R381). -/
def execBlockReset (c : Cmd) (s : State) : Host.Outcome State Fault Refusal := .next (s.run specBlockReset c)
/-- `BLOCK_QUERY` (R392). -/
def execBlockQuery (c : Cmd) (s : State) : Host.Outcome State Fault Refusal := .next (s.run specBlockQuery c)
/-- `COMPARTMENT_EVENT_ACK` (R391). -/
def execCompartmentEventAck (c : Cmd) (s : State) : Host.Outcome State Fault Refusal := .next (s.run specCompartmentEventAck c)
/-- `FW_STAGE_OPEN` (R385). -/
def execFwStageOpen (c : Cmd) (s : State) : Host.Outcome State Fault Refusal := .next (s.run specFwStageOpen c)
/-- `FW_STAGE_WRITE` (R385). -/
def execFwStageWrite (c : Cmd) (s : State) : Host.Outcome State Fault Refusal := .next (s.run specFwStageWrite c)
/-- `FW_STAGE_CLOSE` (R385). -/
def execFwStageClose (c : Cmd) (s : State) : Host.Outcome State Fault Refusal := .next (s.run specFwStageClose c)
/-- `FW_MIGRATE` (R386). -/
def execFwMigrate (c : Cmd) (s : State) : Host.Outcome State Fault Refusal := .next (s.run specFwMigrate c)
/-- `FW_ACTIVATE` (R389). -/
def execFwActivate (c : Cmd) (s : State) : Host.Outcome State Fault Refusal := .next (s.run specFwActivate c)
/-- `FW_DISCARD` (R389). -/
def execFwDiscard (c : Cmd) (s : State) : Host.Outcome State Fault Refusal := .next (s.run specFwDiscard c)
/-- `FW_STATUS` (R393). -/
def execFwStatus (c : Cmd) (s : State) : Host.Outcome State Fault Refusal := .next (s.run specFwStatus c)

end Sys2Proof.Machine
end

