-- ==== Sys2Proof/Machine/CmdFb.lean ====
section
/-! DEFINITION. Area 0x05: feedback, sine/cosine channels and encoder outputs (R128-R155). -/

namespace Sys2Proof.Machine

/-- The source of a compartment loses a cause of an object it holds: it may be no longer pending. -/
def Dev.settleOf (d : Dev) (cls idx : Nat) : Dev :=
  match d.owner cls idx with | some k => d.settleSrc (472 + k) | none => d

/-! ### Pins -/

/-- R129: the 5 V pins a feedback configuration uses. -/
def fbPins (source index flags : Nat) : List Nat :=
  match source with
  | 2 => [index, index + 1] ++ (if bit flags 0 then [index + 2] else [])
  | 3 => [index, index + 1, index + 2]
  | _ => []

/-- R129, R183, R310: the pins held by other claims: `role` 0 the feedback, 1 the step/direction source, 2 the
secondary source of axis `i` is the claim that asks. -/
def Dev.pinsHeld (d : Dev) (i role : Nat) : List Nat :=
  (List.range 128).flatMap (fun (k : Nat) =>
    let f := d.fb k
    let s := (d.pf k).stepDir
    let b := (d.safAx k).cfg
    (if f.configured ∧ ¬ (k = i ∧ role = 0) then fbPins f.cfg.source f.cfg.index f.cfg.flags else []) ++
    (if s.enabled ∧ ¬ (k = i ∧ role = 1) then [s.pin, s.pin + 1] else []) ++
    (if b.bSource = 2 ∧ ¬ (k = i ∧ role = 2) then [b.bIndex, b.bIndex + 1] else []))

/-- R129: a claim on pins. -/
def Dev.claimPins (d : Dev) (i role : Nat) (pins : List Nat) : Verdict :=
  need (pins.all (fun (n : Nat) => !(d.pinsHeld i role).contains n)) ST.owned 0

/-! ### Axis feedback -/

/-- R155: the values of `FB_CONFIGURE`. -/
def fbFault (p : Bytes) : Verdict :=
  let src := u8 p 0
  let ix := u8 p 1
  let fl := u8 p 2
  firstFail [
    inRange (decide (src ≤ 3)) 0,
    inRange (match src with
      | 0 => ix == 0 | 1 => decide (ix ≤ 7) | 2 => decide (ix ≤ if bit fl 0 then 21 else 22) | _ => decide (ix ≤ 21)) 1,
    need (decide (fl < 16)) ST.reserved 0,
    inRange (!(bit fl 0 && src != 2) && !(bit fl 3 && !(src == 2 && bit fl 0)) && !(bit fl 2 && src != 3)) 2,
    inRange (decide (1 ≤ u8 p 3) && decide (u8 p 3 ≤ 64)) 3,
    inRange (decide (1 ≤ u32 p 4) && decide (u32 p 4 ≤ 2 ^ 31)) 4,
    inRange (decide (1 ≤ u32 p 8)) 8, inRange (decide (1 ≤ u32 p 12)) 12,
    inRange (match src with
      | 2 => decide (1 ≤ u16 p 18) && decide (u16 p 18 ≤ 16)
      | 3 => decide (1 ≤ u16 p 18) && decide (u16 p 18 ≤ 4096)
      | _ => u16 p 18 == 0) 18,
    rsv p 20 4]

/-- R155: the configuration of an `FB_CONFIGURE` payload. -/
def fbCfgOf (p : Bytes) : FbCfg :=
  ⟨u8 p 0, u8 p 1, u8 p 2, u8 p 3, u32 p 4, u32 p 8, u32 p 12, i16 p 16, u16 p 18⟩

/-- R133: a feedback configuration takes effect: `dir` positive, `c_ext` the raw count; a new source's count is
taken from its first value on. -/
def Fb.configure (f : Fb) (c : FbCfg) : Fb :=
  { f with
    configured := true, cfg := c, dir := true, cExt := f.c, rem := 0, pendC := 0, snap := 0, base := none, lastZ := none
    legal := 0, sector := 7, suspended := true, tLast := 0, live := 0 }

/-- `FB_CONFIGURE` (R128, R129, R133, R155). -/
def specFbConfigure : Spec :=
  { op := 0x0501, rings := [2], len := exactly 24, classes := [0x01], right := .owner, timing := .latch
    values := fun c _ => fbFault c.payload
    object := fun c d => need ((d.ax c.idx).state == 0) ST.busy 0
    resource := fun c d =>
      let p := c.payload
      d.claimPins c.idx 0 (fbPins (u8 p 0) (u8 p 1) (u8 p 2))
    apply := fun c d => (d.onFb c.idx (fun (f : Fb) => f.configure (fbCfgOf c.payload))).done }

/-- R132, R155: new limits: a mark whose limit moves away from p_act clears. -/
def Fb.limits (f : Fb) (lo hi : Int) : Fb :=
  { f with softMin := lo, softMax := hi, atMin := f.atMin && f.pAct == lo, atMax := f.atMax && f.pAct == hi }

/-- `FB_LIMITS` (R132, R155). -/
def specFbLimits : Spec :=
  { op := 0x0502, rings := [1, 2], len := exactly 16, classes := [0x01], right := .owner, timing := .latch
    values := fun c d =>
      let lo := i64 c.payload 0
      let hi := i64 c.payload 8
      let x := (d.fb c.idx).pAct
      firstFail [inRange (decide (lo ≤ hi)) 8, inRange (decide (x ≤ hi)) 8, inRange (decide (lo ≤ x)) 0]
    apply := fun c d => (d.onFb c.idx (fun (f : Fb) => f.limits (i64 c.payload 0) (i64 c.payload 8))).done }

/-- `FB_POSITION_SET` (R134). -/
def specFbPositionSet : Spec :=
  { op := 0x0503, rings := [1, 2], len := exactly 8, classes := [0x01], right := .owner, timing := .latch
    values := fun c d =>
      let x := i64 c.payload 0
      inRange (decide ((d.fb c.idx).softMin ≤ x) && decide (x ≤ (d.fb c.idx).softMax)) 0
    object := fun c d => need ((d.ax c.idx).state != 4) ST.busy 0
    apply := fun c d => (d.setPosition c.idx (i64 c.payload 0)).done }

/-! ### Sine/cosine channels -/

/-- `SC_CONFIGURE` (R137, R138, R155). -/
def specScConfigure : Spec :=
  { op := 0x0504, rings := [2], len := exactly 16, classes := [0x10], right := .owner, timing := .latch
    values := fun c _ =>
      let p := c.payload
      firstFail [
        inRange (decide (u8 p 0 ≤ 2)) 0, inRange (decide (1 ≤ u8 p 1)) 1,
        inRange (decide (1000 ≤ u16 p 2) && decide (u16 p 2 ≤ 32767)) 2,
        inRange (decide (1 ≤ u16 p 4) && decide (u16 p 4 < u16 p 6)) 4, inRange (decide (u16 p 6 ≤ 4095)) 6,
        inRange (decide (u8 p 8 ≤ 1)) 8, rsv p 9 7]
    object := fun c d => need (!d.scRead c.idx) ST.busy 0
    apply := fun c d =>
      let p := c.payload
      (d.onSc c.idx (fun (h : ScCh) =>
        { h with
          calMode := u8 p 0, ampCount := u8 p 1, nomAmp := u16 p 2, ampLo := u16 p 4, ampHi := u16 p 6
          refMark := u8 p 8 == 1, calDone := false, calStart := none })).done }

/-- `SC_CAL_WRITE` (R136, R137). -/
def specScCalWrite : Spec :=
  { op := 0x0505, rings := [1, 2], len := exactly 8, classes := [0x10], right := .owner, timing := .latch
    values := fun c _ =>
      let p := c.payload
      firstFail [
        inRange (decide ((i16 p 0).natAbs ≤ 4096)) 0, inRange (decide ((i16 p 2).natAbs ≤ 4096)) 2,
        inRange (decide (12288 ≤ i16 p 4) && decide (i16 p 4 ≤ 21845)) 4, inRange (decide ((i16 p 6).natAbs ≤ 2048)) 6]
    apply := fun c d =>
      let p := c.payload
      (d.onSc c.idx (fun (h : ScCh) => { h with offS := i16 p 0, offC := i16 p 2, gain := i16 p 4, phase := i16 p 6 })).done }

/-! ### Encoder outputs -/

/-- R146: the class of object a source kind reads. -/
def eoClass (kind : Nat) : Nat := match kind with | 2 => 0x12 | 3 => 0x10 | _ => 0x01

/-- R146: the value of an encoder output's source. With `advance` p_cmd or the master is taken as it will stand
at the next boundary. -/
def Dev.eoValue (d : Dev) (c : EoCfg) : Int :=
  let n := c.object % 2 ^ 24
  let adv := bit c.flags 1
  match c.kind with
  | 0 => (d.fb n).pAct
  | 1 => (d.pf n).cmd + (if adv then (d.pf n).vel else 0)
  | 2 => (d.vm n).pos + (if adv then (d.vm n).dPos else 0)
  | 3 => (d.sc n).steps
  | _ => (d.fb n).c

/-- R155: the values of `EO_CONFIGURE`. -/
def eoFault (p : Bytes) : Verdict :=
  let mode := u8 p 0
  let kind := u8 p 1
  let fl := u8 p 2
  let obj := u32 p 4
  firstFail [
    inRange (decide (mode ≤ 1) && !(mode == 1 && kind != 3)) 0, inRange (decide (kind ≤ 4)) 1,
    need (decide (fl < 8)) ST.reserved 0,
    inRange (!(bit fl 1 && kind != 1 && kind != 2) && !(bit fl 2 && kind != 3)) 2, rsv p 3 1,
    inRange (obj / 2 ^ 24 == eoClass kind && (match classCount (eoClass kind) with | some n => decide (obj % 2 ^ 24 < n) | none => false)) 4,
    inRange (decide (1 ≤ u32 p 8)) 8, inRange (decide (1 ≤ u32 p 12)) 12]

/-- R150: a new configuration on an enabled output rebases on the present source value. -/
def Dev.eoConfigure (d : Dev) (e : Nat) (p : Bytes) : Dev :=
  let c : EoCfg := ⟨u8 p 0, u8 p 1, u8 p 2, u32 p 4, u32 p 8, u32 p 12, u32 p 16, u32 p 20⟩
  d.onEo e (fun (o : Eo) => let o := { o with cfg := c }; if o.enabled then (o.rebaseOn (d.eoValue c)).levels else o)

/-- `EO_CONFIGURE` (R146, R150, R155). -/
def specEoConfigure : Spec :=
  { op := 0x0506, rings := [2], len := exactly 24, classes := [0x0F], right := .owner, timing := .latch
    values := fun c _ => eoFault c.payload
    apply := fun c d => (d.eoConfigure c.idx c.payload).done }

/-- R150: an output enabled or disabled. -/
def Dev.eoEnable (d : Dev) (e : Nat) (on : Bool) : Dev :=
  d.onEo e (fun (o : Eo) =>
    if on then
      let x := d.eoValue o.cfg
      { o with
        enabled := true, x0 := x, out0 := o.cfg.preset, target := o.cfg.preset, emitted := o.cfg.preset, backlog := []
        rateLimited := false, rebase := false, zMark := false, sched := [] }.levels
    else { o with enabled := false, backlog := [], rateLimited := false, sched := [] })

/-- `EO_ENABLE` (R150). -/
def specEoEnable : Spec :=
  { op := 0x0507, rings := [1, 2], len := exactly 4, classes := [0x0F], right := .owner, timing := .latch
    values := fun c _ => firstFail [inRange (decide (u8 c.payload 0 ≤ 1)) 0, rsv c.payload 1 3]
    apply := fun c d =>
      let on := u8 c.payload 0 == 1
      if (d.eo c.idx).enabled = on then d.says ST.noChange else (d.eoEnable c.idx on).done }

/-- `FB_EVENT_ACK` (R145, R154). -/
def specFbEventAck : Spec :=
  { op := 0x0508, rings := [1, 2, 3], len := exactly 4, classes := [0x01, 0x0F], right := .owner, timing := .latch
    apply := fun c d =>
      let m := u32 c.payload 0
      let d := if c.cls = 0x01 then d.onFb c.idx (fun (f : Fb) => { f with events := clearMask f.events m })
        else d.onEo c.idx (fun (o : Eo) => { o with events := clearMask o.events m })
      (d.settleOf c.cls c.idx).done }

/-- `FB_FLAGS_CLEAR` (R154). -/
def specFbFlagsClear : Spec :=
  { op := 0x0509, rings := [1, 2, 3], len := exactly 0, classes := [0x01, 0x10, 0x0F], right := .owner, timing := .latch
    apply := fun c d =>
      (if c.cls = 0x01 then d.onFb c.idx (fun (f : Fb) => { f with sticky := f.live, clipped := false, hallSkip := false })
      else if c.cls = 0x10 then d.onSc c.idx (fun (h : ScCh) => { h with calRange := false })
      else d.onEo c.idx (fun (o : Eo) => { o with srcGap := false, droppedSeen := false, dropped := 0 })).done }

/-- `FB_CONFIGURE` (R155). -/
def execFbConfigure (c : Cmd) (s : State) : Host.Outcome State Fault Refusal := .next (s.run specFbConfigure c)
/-- `FB_LIMITS` (R155). -/
def execFbLimits (c : Cmd) (s : State) : Host.Outcome State Fault Refusal := .next (s.run specFbLimits c)
/-- `FB_POSITION_SET` (R134). -/
def execFbPositionSet (c : Cmd) (s : State) : Host.Outcome State Fault Refusal := .next (s.run specFbPositionSet c)
/-- `SC_CONFIGURE` (R155). -/
def execScConfigure (c : Cmd) (s : State) : Host.Outcome State Fault Refusal := .next (s.run specScConfigure c)
/-- `SC_CAL_WRITE` (R137). -/
def execScCalWrite (c : Cmd) (s : State) : Host.Outcome State Fault Refusal := .next (s.run specScCalWrite c)
/-- `EO_CONFIGURE` (R155). -/
def execEoConfigure (c : Cmd) (s : State) : Host.Outcome State Fault Refusal := .next (s.run specEoConfigure c)
/-- `EO_ENABLE` (R150). -/
def execEoEnable (c : Cmd) (s : State) : Host.Outcome State Fault Refusal := .next (s.run specEoEnable c)
/-- `FB_EVENT_ACK` (R154). -/
def execFbEventAck (c : Cmd) (s : State) : Host.Outcome State Fault Refusal := .next (s.run specFbEventAck c)
/-- `FB_FLAGS_CLEAR` (R154). -/
def execFbFlagsClear (c : Cmd) (s : State) : Host.Outcome State Fault Refusal := .next (s.run specFbFlagsClear c)

end Sys2Proof.Machine
end

