-- ==== Sys2Proof/Machine/Budget.lean ====
section
/-! DEFINITION. The budgets of the schedule compiler (R15-R22), evaluated on a device as it would stand after a
command. -/

namespace Sys2Proof.Machine

/-- The stroke configuration the budgets are judged by: one accepted and waiting, or the one in force. -/
def Dev.budgetCfg (d : Dev) : StkCfg := d.stk.pendCfg.getD d.stk.cfg

/-- R230: the schedule entries of segment `s` under that configuration. -/
def Dev.budgetEntries (d : Dev) (s : Nat) : List SchEntry :=
  match (d.seg s).table with
  | none => []
  | some t => (match d.stk.pendCfg with | some c => (t.rebuild c).entries | none => t.entries)

/-- R82: the cost of the hook at a point. -/
def Axis.hookCostAt (a : Axis) (p : Nat) : Nat := match a.hooks.getD p none with | some k => hookCost k.ops | none => 0

/-- R19, R76: the lane-cycles of axis `i` in a stroke; none while it is `DISABLED`. -/
def Dev.axisCost (d : Dev) (i : Nat) : Nat :=
  let a := d.ax i
  if a.state = 0 then 0
  else
    [220, 170, 140].getD a.cfg.law 220 + 14 * (a.cfg.nBiquads - 2) + (if 3 ≤ a.cfg.posLoop then 10 else 0) +
      (if a.cfg.observer = 1 then 46 else 0) + (if a.inj.isSome then 18 else 0) + (if (d.reg i).enabled then 12 else 0) +
      (((List.range 6).filter (fun (p : Nat) => !(a.fast && decide (4 ≤ p)))).map a.hookCostAt).sum

/-- R20: the enabled axes with fast local loops, and the k of the first. -/
def Dev.fastAxes (d : Dev) : List Nat := (List.range 128).filter (fun (i : Nat) => (d.ax i).state != 0 && (d.ax i).fast)
def Dev.fastK (d : Dev) : Nat := match d.fastAxes with | i :: _ => (d.ax i).cfg.fastK | [] => 0

/-- R19: the instant, in ns from the stroke start, from which axis `i` is ready. -/
def Dev.readyNs (d : Dev) (i : Nat) : Nat :=
  let a := d.ax i
  let l := d.budgetCfg.latchNs
  if a.remote then
    (d.budgetEntries a.node.1).foldl (fun (m : Nat) (e : SchEntry) => if e.type = 2 then max m ((e.start + e.len) * 80) else m) l
  else l

/-- R19, R20: lanes available to lift. -/
def Dev.lanes (d : Dev) : Nat := if d.fastAxes.isEmpty then 8 else 7

/-- R19: 100 times the usable lane-cycles from an instant to the discharge start. -/
def Dev.liftCap (d : Dev) (t : Nat) : Nat := 92 * d.lanes * (d.budgetCfg.disNs - t)

/-- R19: the lift budget holds. -/
def Dev.liftFits (d : Dev) : Bool :=
  let items := (List.range 128).filterMap (fun (i : Nat) =>
    let c := d.axisCost i
    if c = 0 then none else some (c, d.readyNs i))
  items.all (fun (x : Nat × Nat) =>
    let late := (items.filter (fun (y : Nat × Nat) => decide (x.2 ≤ y.2))).map (·.1)
    decide (100 * (late.sum + late.foldl max 0) ≤ d.liftCap x.2))

/-- R20, R76: the lane-cycles of a sub-period of the fast loops. -/
def Dev.fastCost (d : Dev) : Nat :=
  (d.fastAxes.map (fun (i : Nat) => 90 + (d.ax i).hookCostAt 4 + (d.ax i).hookCostAt 5)).sum

/-- R20: the fast loops fit lane 7. -/
def Dev.fastFits (d : Dev) : Bool := decide (100 * d.fastCost * d.fastK ≤ 92 * strokeNs d.budgetCfg.code)

/-- The length of a cell cycle in ns. -/
def Dev.cycleNs (d : Dev) : Nat := d.budgetCfg.cycle * strokeNs d.budgetCfg.code

/-- R21: the capsules of arm `k`; none while it is `DISABLED`. -/
def Dev.capsuleCount (d : Dev) (k : Nat) : Nat := if (d.arm k).state = 0 then 0 else (d.arm k).capsules.length

/-- R321: the human tracks of all compartments. -/
def Dev.trackCount (d : Dev) : Nat := (d.saf.comps.map (fun (c : SafCmp) => c.heard.length)).sum

/-- R21: the separation tests of a cell cycle. -/
def Dev.sepTests (d : Dev) : Nat :=
  let ks := List.range 8
  let pairs := (ks.flatMap (fun (a : Nat) => ks.map (fun (b : Nat) => if a < b then d.capsuleCount a * d.capsuleCount b else 0))).sum
  let humans := (ks.map d.capsuleCount).sum * d.trackCount
  let zones := (ks.map (fun (a : Nat) =>
    match d.owner 0x02 a with
    | some k => d.capsuleCount a * ((d.holds 0x14 k).filter (fun (z : Nat) => (d.zone z).defined)).length
    | none => 0)).sum
  pairs + humans + zones

/-- R22: the planner time of a cell cycle in ns of core time. -/
def Dev.plannerNs (d : Dev) : Nat :=
  let arms := ((List.range 8).map (fun (k : Nat) => if (d.arm k).state = 0 then 0 else 9000 + 1500 * (d.arm k).axes.length)).sum
  let axes := (d.pfs.map (fun (p : Pf) =>
    (match p.rel with | some r => if r.isCam then 600 else 400 | none => 0) + (if p.gen.run.isSome || p.home.isSome then 200 else 0))).sum
  let vms := (d.vms.map (fun (m : Vm) => (if m.enabled then 300 else 0) + (if m.gen.run.isSome then 200 else 0))).sum
  arms + axes + vms

/-- R22: the planner time available: 6 cores, 80 percent of the cell cycle. -/
def Dev.plannerCap (d : Dev) : Nat := 6 * d.cycleNs * 80 / 100

/-- R16: the detail word of the lowest phase, and lowest segment of it, that is exhausted. -/
def Dev.budgetDetail (d : Dev) : Option Nat :=
  let c := d.budgetCfg
  let ovr (s : Nat) : Option Nat := match (d.seg s).table, d.stk.pendCfg with
    | some t, some k => (t.rebuild k).overrun k
    | _, _ => none
  let seg (used : Nat → Nat) (cap ph : Nat) : Option Nat :=
    ((List.range 16).find? (fun (s : Nat) => decide (cap < used s) || ovr s == some ph)).map (fun (s : Nat) => ph * 4096 + s)
  let one (ok : Bool) (ph : Nat) : Option Nat := if ok then none else some (ph * 4096 + 0xFF)
  let has (s : Nat) (f : List SchEntry → Nat) : Nat := match d.budgetEntries s with | [] => 0 | es => f es
  [ seg (fun (s : Nat) => has s sucUsed) c.sucBt 2,
    one d.liftFits 3,
    seg (fun (s : Nat) => has s disUsed) c.disBt 4,
    seg (fun (s : Nat) => has s slackUsed) c.slackBt 5,
    one d.fastFits 6,
    one (decide (1000 * d.sepTests ≤ 170 * d.cycleNs)) 7,
    one (decide (d.plannerNs ≤ d.plannerCap)) 8 ].findSome? id

/-- R15: the device as a command leaves it, judged against every budget. -/
def Dev.budgetCheck (d : Dev) : Verdict := d.budgetDetail.map (fun (x : Nat) => (ST.budget, x))

/-- R32: the reply of `BUDGET_QUERY`. What lift can use is the capacity from the latch point on, less the most
expensive axis (R19). -/
def Dev.budgetReply (d : Dev) : Bytes :=
  let c := d.budgetCfg
  let costs := (List.range 128).map d.axisCost
  let has (s : Nat) (f : List SchEntry → Nat) : Nat := match d.budgetEntries s with | [] => 0 | es => f es
  let k := d.fastK
  ((List.range 16).flatMap (fun (s : Nat) => e16 (has s sucUsed) ++ e16 c.sucBt ++ e16 (has s disUsed) ++ e16 c.disBt)) ++
    e32 costs.sum ++ e32 (d.liftCap c.latchNs / 100 - costs.foldl max 0) ++
    e32 d.fastCost ++ e32 (if k = 0 then 0 else 92 * strokeNs c.code / (100 * k)) ++
    e32 d.sepTests ++ e32 (170 * d.cycleNs / 1000) ++ e32 d.plannerNs ++ e32 d.plannerCap

end Sys2Proof.Machine
end

