-- ==== Sys2Proof/Machine/CmdStroke.lean ====
section
/-! DEFINITION. Area 0x03, but for `BUDGET_TRIAL`: the stroke sequencer and the budgets (R14, R27, R31, R32). -/

namespace Sys2Proof.Machine

/-- R32: the configuration of a `STROKE_CONFIGURE` payload. -/
def stkCfgOf (p : Bytes) : StkCfg :=
  ⟨u8 p 0, u8 p 1, bit (u8 p 2) 0, u32 p 4, u32 p 8, u32 p 12, u32 p 16⟩

/-- R14: the first boundary field that fails. -/
def phaseFault (p : Bytes) : Verdict :=
  let len := strokeNs (u8 p 0)
  let s := u32 p 4
  let l := u32 p 8
  let g := u32 p 12
  let k := u32 p 16
  let grid (x : Nat) : Bool := x % 250 == 0
  firstFail [
    inRange (grid s && decide (2000 ≤ s)) 4,
    inRange (grid l && decide (2000 ≤ l) && decide (l ≤ s)) 8,
    inRange (grid g && decide (s ≤ g) && decide (l + 4000 ≤ g)) 12,
    inRange (grid k && decide (g < k) && decide (k + 3000 ≤ len)) 16]

/-- R32: the values of a `STROKE_CONFIGURE` payload. -/
def stkFault (p : Bytes) : Verdict :=
  firstFail [
    inRange (decide (u8 p 0 ≤ 3)) 0, inRange ([4, 8, 16, 32].contains (u8 p 1)) 1,
    need (decide (u8 p 2 ≤ 1)) ST.reserved 0, rsv p 3 1,
    (if bit (u8 p 2) 0 then none else phaseFault p)]

/-- R32: the payload of a stroke configuration. -/
def StkCfg.bytes (c : StkCfg) : Bytes :=
  e8 c.code ++ e8 c.cycle ++ e8 (b2n c.defaultPhases) ++ e8 0 ++ e32 c.sucEnd ++ e32 c.latch ++ e32 c.discharge ++ e32 c.slack

/-- A configuration accepted: it waits for the next stroke boundary. -/
def Dev.takeStroke (d : Dev) (p : Bytes) : Dev := { d with stk := { d.stk with pendCfg := some (stkCfgOf p) } }

/-- `STROKE_CONFIGURE` (R14, R31, R32). -/
def specStrokeConfigure : Spec :=
  { op := 0x0301, rings := [2], len := exactly 20, classes := [0x00], right := .cellOwner, timing := .now
    values := fun c _ => stkFault c.payload
    object := fun _ d => need (d.segs.all (fun (s : Seg) => s.state == 0) && d.stgs.all (fun (s : Stg) => s.mode == 0)) ST.cyclic 0
    budget := fun c d => (d.takeStroke c.payload).budgetCheck
    apply := fun c d => { dev := d.takeStroke c.payload, hold := .boundary, eff := some (d.stk.number + 1) } }

/-- `STROKE_QUERY` (R32). -/
def specStrokeQuery : Spec :=
  { op := 0x0302, rings := [2], len := exactly 0, classes := [0x00], right := .any, timing := .now
    apply := fun _ d => d.reply (d.stk.cfg.bytes ++ e8 d.stk.lockMode ++ e8 0 ++ e16 d.stk.pullPpm ++ e32 0) }

/-- R28: a transition of the lock state: `EV_STROKE_LOCK` in every compartment with a running segment. -/
def Dev.setLock (d : Dev) (st : Nat) : Dev :=
  if d.stk.lockState = st then d
  else
    let d := { d with stk := { d.stk with lockState := st } }
    (List.range 8).foldl (fun (d : Dev) (k : Nat) =>
      if (d.holds 0x03 k).any (fun (i : Nat) => (d.seg i).state == 4) then d.compEvent k 5 else d) d

/-- R27, R28: `STROKE_LOCK` in free mode ends the pull; in locked mode the state is `PULLING`. -/
def Dev.lockTo (d : Dev) (mode ppm : Nat) : Dev :=
  let ppm := if ppm = 0 then 100 else ppm
  let was := d.stk.lockMode
  let d := { d with stk := { d.stk with lockMode := mode, pullPpm := ppm } }
  if mode = 0 then
    ({ d with stk := { d.stk with inBand := 0, phaseErr := 0 } } : Dev).setLock 0
  else if was = 0 then ({ d with stk := { d.stk with inBand := 0 } } : Dev).setLock 1
  else d

/-- `STROKE_LOCK` (R27, R31, R32). -/
def specStrokeLock : Spec :=
  { op := 0x0303, rings := [2], len := exactly 8, classes := [0x00], right := .cellOwner, timing := .latch
    values := fun c _ => firstFail [inRange (decide (u8 c.payload 0 ≤ 1)) 0, rsv c.payload 1 1,
      inRange (decide (u16 c.payload 2 ≤ 500)) 2, rsv c.payload 4 4]
    apply := fun c d => (d.lockTo (u8 c.payload 0) (u16 c.payload 2)).done }

/-- `BUDGET_QUERY` (R32). -/
def specBudgetQuery : Spec :=
  { op := 0x0304, rings := [2], len := exactly 0, classes := [0x00], right := .any, timing := .now
    apply := fun _ d => d.reply ({ d with stk := { d.stk with pendCfg := none } } : Dev).budgetReply }

/-- `STROKE_COUNTERS_CLEAR` (R31, R32). -/
def specStrokeCountersClear : Spec :=
  { op := 0x0306, rings := [2], len := exactly 0, classes := [0x00], right := .cellOwner, timing := .latch
    apply := fun _ d =>
      ({ d with stk := { d.stk with liftPeak := 0, localOvr := 0, segOvr := List.replicate 16 0 } } : Dev).done }

/-- `STROKE_CONFIGURE` (R32). -/
def execStrokeConfigure (c : Cmd) (s : State) : Host.Outcome State Fault Refusal := .next (s.run specStrokeConfigure c)
/-- `STROKE_QUERY` (R32). -/
def execStrokeQuery (c : Cmd) (s : State) : Host.Outcome State Fault Refusal := .next (s.run specStrokeQuery c)
/-- `STROKE_LOCK` (R27). -/
def execStrokeLock (c : Cmd) (s : State) : Host.Outcome State Fault Refusal := .next (s.run specStrokeLock c)
/-- `BUDGET_QUERY` (R32). -/
def execBudgetQuery (c : Cmd) (s : State) : Host.Outcome State Fault Refusal := .next (s.run specBudgetQuery c)
/-- `STROKE_COUNTERS_CLEAR` (R32). -/
def execStrokeCountersClear (c : Cmd) (s : State) : Host.Outcome State Fault Refusal := .next (s.run specStrokeCountersClear c)

end Sys2Proof.Machine
end

