-- ==== Sys2Proof/Machine/CmdAxis.lean ====
section
/-! DEFINITION. Area 0x04: axes, their coefficients, hooks, modes and injections (R82-R127). -/

namespace Sys2Proof.Machine

/-- A one-byte field with the three reserved bytes behind it. -/
def byteField (p : Bytes) (ok : Bool) : Verdict := firstFail [inRange ok 0, rsv p 1 3]

/-! ### Configuration and enabling -/

/-- R127: the object an `AXIS_CONFIGURE` payload names is of its class. -/
def powerOk (source obj : Nat) : Bool :=
  if source = 0 then obj / 2 ^ 24 == 0x04 && decide (obj % 2 ^ 24 < 128) else obj / 2 ^ 24 == 0x05 && decide (obj % 2 ^ 24 < 8)

/-- R127: the `fast_k` of another fast stage. -/
def Dev.otherFast (d : Dev) (i : Nat) : Option Nat :=
  ((List.range 128).find? (fun (k : Nat) => k != i && (d.ax k).fast)).map (fun (k : Nat) => (d.ax k).cfg.fastK)

/-- R127: the values of `AXIS_CONFIGURE`. -/
def axCfgFault (c : Cmd) (d : Dev) : Verdict :=
  let p := c.payload
  let k := u8 p 5
  let src := u8 p 1
  firstFail [
    inRange (decide (u8 p 0 ≤ 2)) 0, inRange (decide (src ≤ 1)) 1, inRange (decide (u8 p 2 ≤ 4)) 2,
    inRange (decide (u8 p 3 ≤ 4)) 3, inRange (decide (u8 p 4 ≤ 1)) 4,
    inRange (k == 1 || (src == 1 && decide (2 ≤ k) && decide (k ≤ 6) &&
      (match d.otherFast c.idx with | some f => f == k | none => true))) 5,
    inRange (decide (u8 p 6 ≤ 47)) 6, inRange (decide (u8 p 7 ≤ 47)) 7, inRange (powerOk src (u32 p 8)) 8,
    inRange (decide (u8 p 12 ≤ 1 - src)) 12, inRange (decide (u8 p 13 ≤ 47)) 13, rsv p 14 2,
    inRange (decide (100 ≤ i32 p 16) && decide (i32 p 16 ≤ 1000000)) 16,
    inRange (decide (1000 ≤ i32 p 20) && decide (i32 p 20 ≤ 100000)) 20]

/-- R127: the fields of an `AXIS_CONFIGURE` payload. -/
def axCfgOf (p : Bytes) : AxCfg :=
  { configured := true, law := u8 p 0, source := u8 p 1, posLoop := u8 p 2, nBiquads := u8 p 3, observer := u8 p 4
    fastK := u8 p 5, errSpan := u8 p 6, velSpan := u8 p 7, powerObject := u32 p 8, nodeAxis := u8 p 12
    accSpan := u8 p 13, curSpan := i32 p 16, voltSpan := i32 p 20 }

/-- R87, R127: the binding of axis `i` at its enabling: free of other enabled axes, and in the axis's compartment. -/
def Dev.binding (d : Dev) (i : Nat) (g : AxCfg) : Verdict :=
  let o := g.powerObject
  let taken := (List.range 128).any (fun (k : Nat) =>
    let h := (d.ax k).cfg
    k != i && (d.ax k).state != 0 && h.configured && h.source == g.source && h.powerObject == o && h.nodeAxis == g.nodeAxis)
  let same := d.holder (o / 2 ^ 24) (o % 2 ^ 24) == d.owner 0x01 i
  need (!taken && same) ST.owned 0

/-- `AXIS_CONFIGURE` (R86-R88, R127). -/
def specAxisConfigure : Spec :=
  { op := 0x0401, rings := [2], len := exactly 24, classes := [0x01], right := .owner, timing := .latch
    values := axCfgFault
    object := fun c d => need ((d.ax c.idx).state == 0) ST.busy 0
    apply := fun c d => (d.onAx c.idx (fun (a : Axis) => { a with cfg := axCfgOf c.payload })).done }

/-- R264: the device asks the node of axis `i` to take its law; whether a node is in its slot to be asked. -/
def Dev.askLaw (d : Dev) (i : Nat) : Dev × Bool :=
  let a := d.ax i
  let n := a.node
  if a.remote && decide (3 ≤ (d.nodeOf a).state) && decide ((d.nodeOf a).state ≤ 5) then
    let v : Svc :=
      { pos := n.2.1, who := .law i, service := 4, space := 0, offset := 0, left := 0
        data := [2, byteOf (n.2.2 * 16 + a.cfg.law), 0, 0], got := [], repeats := 0, limit := 0, sent := 0, asked := false }
    (d.onSeg n.1 (fun (s : Seg) => { s with waiting := s.waiting ++ [v] }), true)
  else (d, false)

/-- R103, R504: axis `i` becomes `DISABLED`. -/
def Dev.axDisable (d : Dev) (i : Nat) : Dev :=
  let d := ((d.endInj i true).endSource i ST.modeConflict).axTorqueOff i
  d.onAx i (fun (a : Axis) => { a with state := 0, faultCode := 0, torqueOff := false, standstill := false, ssCount := 0, age := 0 })

/-- R103: axis `i` enters `OFF`. -/
def Dev.axToOff (d : Dev) (i : Nat) : Dev :=
  d.onAx i (fun (a : Axis) => { a with state := 1, torqueOff := false, manCount := 0, feCount := 0, qsCount := 0 })

/-- `AXIS_ENABLE` (R87, R103, R127, R128, R192, R264). -/
def specAxisEnable : Spec :=
  { op := 0x0402, rings := [2], len := exactly 4, classes := [0x01], right := .owner, timing := .latch
    values := fun c _ => byteField c.payload (decide (u8 c.payload 0 ≤ 1))
    object := fun c d =>
      let a := d.ax c.idx
      if u8 c.payload 0 = 0 then need (a.state == 0 || a.state == 1 || a.state == 5) ST.busy 0
      else if a.state ≠ 0 then none
      else firstFail [
        need a.cfg.configured ST.modeConflict 0,
        need (!(a.local_ && (d.fb c.idx).cfg.source == 0)) ST.modeConflict 0,
        need (!(a.fast && (d.stg a.stage).cfg.pps != a.cfg.fastK)) ST.modeConflict 0]
    resource := fun c d =>
      let a := d.ax c.idx
      if u8 c.payload 0 = 0 ∨ a.state ≠ 0 then none else d.binding c.idx a.cfg
    budget := fun c d =>
      if u8 c.payload 0 = 0 ∨ (d.ax c.idx).state ≠ 0 then none else (d.axToOff c.idx).budgetCheck
    apply := fun c d =>
      let i := c.idx
      let a := d.ax i
      if u8 c.payload 0 = 0 then (if a.state = 0 then d.says ST.noChange else (d.axDisable i).done)
      else if a.state ≠ 0 then d.says ST.noChange
      else
        let r := (d.axToOff i).askLaw i
        { dev := r.1, hold := if r.2 then .law i else .none } }

/-! ### Limits and coefficients -/

/-- R127: whether an axis is in a running state. -/
def Axis.runs (a : Axis) : Bool := decide (2 ≤ a.state) && decide (a.state ≤ 4)

/-- R127: the values of `AXIS_LIMITS`. An axis without a configuration has no spans that bound them. -/
def axLimFault (c : Cmd) (d : Dev) : Verdict :=
  let p := c.payload
  let a := d.ax c.idx
  let least : Int := b2n a.runs
  firstFail [
    inRange (decide (0 ≤ i32 p 0) && (!a.cfg.configured || decide (i32 p 0 ≤ a.cfg.curSpan))) 0,
    inRange (decide (0 ≤ i32 p 4) && (!a.cfg.configured || decide (i32 p 4 ≤ a.cfg.curSpan))) 4,
    inRange (decide (0 ≤ i64 p 8)) 8, inRange (decide (least ≤ i64 p 16)) 16, inRange (decide (least ≤ i64 p 24)) 24,
    inRange (decide (1 ≤ u16 p 40)) 40, inRange (decide (1 ≤ u16 p 42)) 42, inRange (decide (0 ≤ i64 p 48)) 48,
    inRange (decide (0 ≤ i32 p 56) && decide (i32 p 56 ≤ i32 p 60)) 56, inRange (!a.cfg.configured || decide (i32 p 60 ≤ a.cfg.voltSpan)) 60,
    inRange (decide (((i32 p 64).natAbs : Int) ≤ i32 p 0)) 64,
    inRange (decide (u8 p 68 ≤ 1)) 68, inRange (decide (u8 p 69 ≤ 1)) 69, inRange (decide (u8 p 70 ≤ 1)) 70, rsv p 71 1]

/-- R127: the fields of an `AXIS_LIMITS` payload. -/
def axLimOf (p : Bytes) : AxLim :=
  { iLimit := i32 p 0, iTrip := i32 p 4, velLimit := i64 p 8, qsDecel := i64 p 16, haltDecel := i64 p 24
    feLimit := u64 p 32, feTime := u16 p 40, ssTime := u16 p 42, qsTimeout := u16 p 44, manTimeout := u16 p 46
    ssVel := i64 p 48, vbusMin := i32 p 56, vbusMax := i32 p 60, idAuto := i32 p 64, reactFe := u8 p 68
    reactVbus := u8 p 69, reactManual := u8 p 70 }

/-- `AXIS_LIMITS` (R127). -/
def specAxisLimits : Spec :=
  { op := 0x0403, rings := [1, 2], len := exactly 72, classes := [0x01], right := .owner, timing := .latch
    values := axLimFault
    apply := fun c d => (d.onAx c.idx (fun (a : Axis) => { a with lim := axLimOf c.payload })).done }

/-- R127: the offsets of the gains. -/
def gainOffsets : List Nat := (List.range 14).map (fun (k : Nat) => 4 + 4 * k)

/-- R100, R127: the values of `COEF_WRITE`. -/
def coefFault (c : Cmd) (d : Dev) : Verdict :=
  let p := c.payload
  firstFail ([inRange (decide (u8 p 0 ≤ 1)) 0, rsv p 1 3] ++
    gainOffsets.flatMap (fun (o : Nat) => [inRange (decide (u8 p (o + 2) ≤ 15)) (o + 2), rsv p (o + 3) 1]) ++
    [inRange (decide (0 ≤ i16 p 60) && !((d.ax c.idx).cfg.configured && (d.ax c.idx).cfg.law == 0 && decide (18918 < i16 p 60))) 60,
     inRange (decide (0 ≤ i16 p 62)) 62])

/-- R127: the coefficients of a `COEF_WRITE` payload. -/
def coefsOf (p : Bytes) : Coefs :=
  let g (o : Nat) : Gain := ⟨i16 p o, u8 p (o + 2)⟩
  { kpD := g 4, kiD := g 8, kpQ := g 12, kiQ := g 16, kdecD := g 20, kdecQ := g 24, kbemf := g 28, kvp := g 32, kvi := g 36
    kpp := g 40, kpi := g 44, kvff := g 48, kaff := g 52, kobsJ := g 56, vModMax := i16 p 60, gObs := i16 p 62
    biquads := (List.range 4).map (fun (k : Nat) =>
      let o := 64 + 10 * k
      ⟨i16 p o, i16 p (o + 2), i16 p (o + 4), i16 p (o + 6), i16 p (o + 8)⟩) }

/-- R127: the `COEF_WRITE` layout of a bank. -/
def Coefs.bytes (c : Coefs) (bank : Nat) : Bytes :=
  let g (x : Gain) : Bytes := eS16 x.k ++ e8 x.s ++ e8 0
  e8 bank ++ zeros 3 ++
    [c.kpD, c.kiD, c.kpQ, c.kiQ, c.kdecD, c.kdecQ, c.kbemf, c.kvp, c.kvi, c.kpp, c.kpi, c.kvff, c.kaff, c.kobsJ].flatMap g ++
    eS16 c.vModMax ++ eS16 c.gObs ++
    c.biquads.flatMap (fun (b : Biquad) => eS16 b.b0 ++ eS16 b.b1 ++ eS16 b.b2 ++ eS16 b.a1 ++ eS16 b.a2)

/-- `COEF_WRITE` (R107, R127). -/
def specCoefWrite : Spec :=
  { op := 0x0404, rings := [2], len := exactly 104, classes := [0x01], right := .owner, timing := .latch, atEffect := true
    values := coefFault
    object := fun c d => need ((d.ax c.idx).bank != u8 c.payload 0) ST.bankActive 0
    apply := fun c d =>
      let k := coefsOf c.payload
      (d.onAx c.idx (fun (a : Axis) => if u8 c.payload 0 = 0 then { a with bank0 := k } else { a with bank1 := k })).done }

/-- `COEF_READ` (R126, R127). -/
def specCoefRead : Spec :=
  { op := 0x0405, rings := [1, 2, 3], len := exactly 4, classes := [0x01], right := .observer, timing := .now
    values := fun c _ => byteField c.payload (decide (u8 c.payload 0 ≤ 1))
    apply := fun c d =>
      let a := d.ax c.idx
      let b := u8 c.payload 0
      d.reply ((if b = 0 then a.bank0 else a.bank1).bytes b) }

/-- `BANK_SWAP` (R108). -/
def specBankSwap : Spec :=
  { op := 0x0406, rings := [1, 2], len := exactly 4, classes := [0x01], right := .owner, timing := .latch
    values := fun c _ => byteField c.payload (decide (u8 c.payload 0 ≤ 1))
    apply := fun c d =>
      let b := u8 c.payload 0
      if (d.ax c.idx).bank = b then d.says ST.noChange else (d.onAx c.idx (fun (a : Axis) => { a with bank := b })).done }

/-! ### Modes and manual references -/

/-- R104, R127, R182, R189, R249: the object state an `AXIS_MODE` needs. -/
def modeObject (c : Cmd) (d : Dev) : Verdict :=
  let a := d.ax c.idx
  let m := u8 c.payload 0
  let n := (d.nodeOf a).state
  let lim := a.lim
  firstFail ([need (a.state != 0) ST.disabled 0] ++
    (if m = 1 then []
    else [
      need (a.state != 5) ST.faulted 0,
      need (!(m == 4 && a.cfg.posLoop == 0) && !(m != 4 && d.openLoop c.idx)) ST.modeConflict 0,
      need (lim.qsDecel != 0 && lim.haltDecel != 0 && lim.feTime != 0 && lim.ssTime != 0) ST.modeConflict 0,
      need (a.stop == 0) ST.stopLatched 0,
      need (!d.stoOn c.idx) ST.stoActive 0,
      need (!(a.local_ && !((d.stg a.stage).mode == 1 && (d.stg a.stage).ready))) ST.disabled 0,
      need (!(a.remote && n == 5)) ST.nodeMismatch 0,
      need (!(a.remote && n != 4)) ST.nodeAbsent 0] ++ d.safRefusals c.idx true))

/-- R126: the references a manual state takes from a payload at offset `o`. -/
def Axis.refs (a : Axis) (p : Bytes) (o : Nat) : Axis :=
  let a := { a with manCount := 0 }
  if a.state = 2 then { a with manIq := i32 p o, manId := i32 p (o + 4) }
  else if a.state = 3 then { a with manId := i32 p (o + 4), manVel := i64 p (o + 8) }
  else a

/-- R120: whether an injection point is allowed in a state. -/
def injAllowed (point state : Nat) : Bool :=
  match point with
  | 0 => state == 4
  | 1 => state == 4 || state == 3
  | _ => decide (2 ≤ state) && decide (state ≤ 4)

/-- R123: an injection ends with a change to a state its point is not allowed in. -/
def Dev.injMode (d : Dev) (i state : Nat) : Dev :=
  match (d.ax i).inj with
  | some j => if injAllowed j.point state then d else d.endInj i true
  | none => d

/-- R105: the setpoint source of an axis that enters `AUTO` from state `s0`: from p_act with vel_fb or the manual
velocity reference, ramped to rest at `halt_decel`. -/
def Dev.autoStart (d : Dev) (i s0 : Nat) : Dev :=
  let a := d.ax i
  let x := d.latchPos i
  let v : Int := if s0 = 3 then rdivUp (a.manVel * (2 ^ 32 : Nat)) d.fs
    else a.loop.velFb * ((2 ^ (a.cfg.velSpan + 17) : Nat) : Int)
  d.onPf i (fun (p : Pf) =>
    { (p.rest x) with source := 7, ramp := some ⟨x * (2 ^ 32 : Nat), v, rampD a.lim.haltDecel d.fs⟩, cmd := x, vel := 0, hold := false, soft := true })

/-- R105: the presets of a change from state `s0` to the running state `s1`. -/
def Axis.preset (a : Axis) (s0 s1 : Nat) (pAct : Int) : Axis :=
  let l := if s0 = 1 then a.loop.zeroed else a.loop
  let l := if s1 = 4 then { l with ip := 0, pCmd := pAct, vSet := 0 } else l
  { a with
    state := s1, overlay := false, torqueOff := false, loop := l
    preVel := s0 == 2 && s1 != 2, preIp := s0 == 3 && s1 == 4 }

/-- R103-R105, R504: a mode change of axis `i`. -/
def Dev.setMode (d : Dev) (i m : Nat) : Dev :=
  let s0 := (d.ax i).state
  let d := d.injMode i m
  if m = 1 then
    let d := (d.endSource i ST.modeConflict).axTorqueOff i
    if s0 = 5 then d else d.axToOff i
  else
    let d := if s0 = m ∧ (d.ax i).overlay = false then d
      else
        let d := if s0 = 4 ∨ (d.ax i).overlay = true then d.endSource i ST.modeConflict else d
        let d := d.onPf i (fun (p : Pf) => { p with ramp := none })
        let x := d.latchPos i
        let d := d.onAx i (fun (a : Axis) => a.preset s0 m x)
        if m = 4 then d.autoStart i s0 else d
    d

/-- R104, R105: what an `AXIS_MODE` command does. A request for `OFF` in `FAULT` takes torque off; only `FAULT_CLEAR`
leaves `FAULT` (R103, R115). -/
def applyAxisMode (c : Cmd) (d : Dev) : Eff :=
  let i := c.idx
  let m := u8 c.payload 0
  let a := d.ax i
  if (m = 1 ∧ (a.state = 1 ∨ (a.state = 5 ∧ a.ramping = false))) ∨ (m = 4 ∧ a.state = 4) then d.says ST.noChange
  else ((d.setMode i m).onAx i (fun (a : Axis) => a.refs c.payload 4)).done

/-- `AXIS_MODE` (R103-R106). -/
def specAxisMode : Spec :=
  { op := 0x0407, rings := [1, 2], len := exactly 20, classes := [0x01], right := .owner, timing := .latch
    values := fun c _ => byteField c.payload (decide (1 ≤ u8 c.payload 0) && decide (u8 c.payload 0 ≤ 4))
    object := modeObject
    resource := fun c d => need (u8 c.payload 0 == 1 || (d.armOf c.idx).isNone) ST.owned 0
    apply := applyAxisMode }

/-- `AXIS_MANUAL_SET` (R104, R106, R126). -/
def specAxisManualSet : Spec :=
  { op := 0x0408, rings := [1], len := exactly 16, classes := [0x01], right := .owner, timing := .latch
    object := fun c d =>
      let a := d.ax c.idx
      firstFail [need (a.state != 0) ST.disabled 0, need (a.state != 5) ST.faulted 0, need (a.stop == 0) ST.stopLatched 0,
        need (a.state == 2 || a.state == 3) ST.busy 0]
    apply := fun c d =>
      let i := c.idx
      let d := if (d.ax i).overlay then d.setMode i (d.ax i).state else d
      (d.onAx i (fun (a : Axis) => a.refs c.payload 0)).done }

/-- R115: whether the cause of a fault persists. -/
def Dev.causeStands (d : Dev) (i : Nat) : Bool :=
  let a := d.ax i
  let v := (if a.age = 0 then d.measure a else a.meas).vbus * a.cfg.voltSpan
  match a.faultCode with
  | 2 => (d.fb i).live != 0
  | 3 => a.age != 0
  | 5 => decide (v < a.lim.vbusMin * 32768) || decide (a.lim.vbusMax * 32768 < v)
  | 6 => decide (v < a.lim.vbusMin * 32768) || decide (a.lim.vbusMax * 32768 < v)
  | 7 => a.remote && bit (d.nodeOf a).status 0
  | 8 => a.local_ && (d.stg a.stage).tripped
  | _ => false

/-- `FAULT_CLEAR` (R115). -/
def specFaultClear : Spec :=
  { op := 0x0409, rings := [1, 2], len := exactly 0, classes := [0x01], right := .owner, timing := .latch, atEffect := true
    object := fun c d =>
      let a := d.ax c.idx
      if a.state ≠ 5 then none
      else firstFail [need (!a.ramping) ST.busy 0, need (!d.causeStands c.idx) ST.causeActive 0]
    apply := fun c d =>
      if (d.ax c.idx).state ≠ 5 then d.says ST.noChange
      else ((d.axToOff c.idx).onAx c.idx (fun (a : Axis) => { a with faultCode := 0 })).done }

/-! ### Injections -/

/-- R122: the channels an `INJECT_START` names, with their variables. -/
def injChans (p : Bytes) : List (Nat × Nat) :=
  ((List.range 4).map (fun (k : Nat) => (u8 p (20 + k), u8 p (24 + k)))).filter (fun (x : Nat × Nat) => x.1 != 0xFF)

/-- R121, R127: the values of `INJECT_START`. -/
def injFault (c : Cmd) (d : Dev) : Verdict :=
  let p := c.payload
  let sig := u8 p 1
  let tone := decide (sig ≤ 1)
  let f (o : Nat) : Verdict := inRange (if tone then decide (u32 p o ≤ d.fs * 500) else u32 p o == 0) o
  firstFail ([
    inRange (decide (u8 p 0 ≤ 3)) 0, inRange (decide (sig ≤ 3)) 1,
    inRange (if sig = 2 then decide (7 ≤ u8 p 2) && decide (u8 p 2 ≤ 16) else u8 p 2 == 0) 2,
    inRange (if sig = 1 then decide (1 ≤ u8 p 3) && decide (u8 p 3 ≤ 8) else u8 p 3 == 0) 3,
    inRange (decide (1 ≤ i16 p 4)) 4,
    inRange (if sig = 2 then decide (1 ≤ u16 p 6) && decide (u16 p 6 ≤ 256) else u16 p 6 == 0) 6,
    inRange (decide (1 ≤ u32 p 8) && decide (u32 p 8 ≤ 16777216)) 8, f 12, f 16] ++
    (List.range 4).map (fun (k : Nat) => inRange (decide (u8 p (20 + k) ≤ 63) || u8 p (20 + k) == 0xFF) (20 + k)) ++
    (List.range 4).map (fun (k : Nat) =>
      inRange (if u8 p (20 + k) = 0xFF then u8 p (24 + k) == 0 else decide (u8 p (24 + k) ≤ 0x17) || u8 p (24 + k) == 0xFF) (24 + k)))

/-- R120-R122, R127: the object state an injection needs. -/
def injObject (c : Cmd) (d : Dev) : Verdict :=
  let p := c.payload
  let a := d.ax c.idx
  firstFail ([need (injAllowed (u8 p 0) a.state) ST.modeConflict 0, need a.inj.isNone ST.busy 0] ++
    (injChans p).flatMap (fun (x : Nat × Nat) =>
      [need (d.owner 0x06 x.1 == d.owner 0x01 c.idx) ST.owned 0, need (!(d.chan x.1).recording) ST.busy 0]))

/-- R354: the landing shares hold the buffers of the circular channels. -/
def injMemory (c : Cmd) (d : Dev) : Verdict :=
  let p := c.payload
  let chs := (injChans p).filter (fun (x : Nat × Nat) =>
    match (d.chan x.1).cfg with | some g => !g.flume | none => true)
  need ((List.range 4).all (fun (e : Nat) =>
    let mine := chs.filter (fun (x : Nat × Nat) => engOf x.1 == e)
    let freed := (mine.map (fun (x : Nat × Nat) => (d.chan x.1).resv)).sum
    mine.isEmpty || decide (d.cap.fillOf e - freed + mine.length * injBlocks (u32 p 8) ≤ (d.eng e).share))) ST.noMemory 0

/-- R121, R122: the injection an `INJECT_START` payload describes. -/
def Dev.injOf (d : Dev) (p : Bytes) : Inj :=
  { point := u8 p 0, signal := u8 p 1, order := u8 p 2, nTones := u8 p 3, amp := i16 p 4, hold := u16 p 6, duration := u32 p 8
    w0 := freqWord (u32 p 12) d.fs, w1 := freqWord (u32 p 16) d.fs, k := 0, phases := injPhases (u8 p 1) (u8 p 3)
    prbs := 2 ^ (u8 p 2) - 1, prbsOut := false, g := 0, chans := injChans p }

/-- R122, R354: an injection starts. -/
def Dev.injStart (d : Dev) (i : Nat) (p : Bytes) : Dev :=
  let j := d.injOf p
  let t := d.latchAt
  let d := d.onAx i (fun (a : Axis) => { a with inj := some j })
  j.chans.foldl (fun (d : Dev) (x : Nat × Nat) =>
    ({ d with cap := d.cap.armInject x.1 i x.2 j.duration t d.free } : Dev).skip 1) d

/-- `INJECT_START` (R120-R122, R354). -/
def specInjectStart : Spec :=
  { op := 0x040A, rings := [2], len := exactly 28, classes := [0x01], right := .owner, timing := .latch
    values := injFault
    object := injObject
    resource := injMemory
    budget := fun c d => (d.onAx c.idx (fun (a : Axis) => { a with inj := some (d.injOf c.payload) })).budgetCheck
    apply := fun c d => (d.injStart c.idx c.payload).done }

/-- `INJECT_STOP` (R123, R126). -/
def specInjectStop : Spec :=
  { op := 0x040B, rings := [1, 2], len := exactly 0, classes := [0x01], right := .owner, timing := .latch
    apply := fun c d => if (d.ax c.idx).inj.isNone then d.says ST.noChange else (d.endInj c.idx true).done }

/-- `AXIS_FLAGS_CLEAR` (R124). -/
def specAxisFlagsClear : Spec :=
  { op := 0x040C, rings := [1, 2, 3], len := exactly 0, classes := [0x01], right := .owner, timing := .latch
    apply := fun c d => (d.onAx c.idx (fun (a : Axis) => { a with flags := 0 })).done }

/-- `AXIS_EVENT_ACK` (R125). -/
def specAxisEventAck : Spec :=
  { op := 0x040D, rings := [1, 2, 3], len := exactly 4, classes := [0x01], right := .owner, timing := .latch
    apply := fun c d => (d.ack (128 + c.idx) (u32 c.payload 0)).done }

/-! ### Hooks -/

/-- R83: the operation words of a `HOOK_LOAD` payload. -/
def hookWords (p : Bytes) : List Nat := (List.range (u8 p 1)).map (fun (k : Nat) => u32 p (20 + 4 * k))

/-- R84: the values of `HOOK_LOAD`. -/
def hookFault (p : Bytes) : Verdict :=
  firstFail ([inRange (decide (u8 p 0 ≤ 5)) 0, inRange (decide (1 ≤ u8 p 1) && decide (u8 p 1 ≤ 32)) 1, rsv p 2 2] ++
    (List.range (u8 p 1)).map (fun (k : Nat) =>
      match opFault (u32 p (20 + 4 * k)) (u8 p 0) with
      | some true => some (ST.badValue, 20 + 4 * k)
      | some false => some (ST.reserved, 0)
      | none => none))

/-- R83: eight i16 at an offset. -/
def eight (p : Bytes) (o : Nat) : List Int := (List.range 8).map (fun (k : Nat) => i16 p (o + 2 * k))

/-- R83: the hook of a `HOOK_LOAD` payload. -/
def hookOf (p : Bytes) : Hook := ⟨eight p 4, hookWords p⟩

/-- A hook set or removed at a point. -/
def Axis.setHook (a : Axis) (point : Nat) (h : Option Hook) : Axis := { a with hooks := a.hooks.set point h }

/-- `HOOK_LOAD` (R82-R85). -/
def specHookLoad : Spec :=
  { op := 0x0440, rings := [2], len := fun n => decide (24 ≤ n) && decide (n ≤ 148) && n % 4 == 0, classes := [0x01]
    right := .owner, timing := .latch
    form := fun c => need (!(decide (1 ≤ u8 c.payload 1) && decide (u8 c.payload 1 ≤ 32)) || c.payload.length == 20 + 4 * u8 c.payload 1)
      ST.badLength 0
    values := fun c _ => hookFault c.payload
    budget := fun c d => (d.onAx c.idx (fun (a : Axis) => a.setHook (u8 c.payload 0) (some (hookOf c.payload)))).budgetCheck
    apply := fun c d =>
      let h := hookOf c.payload
      { dev := d.onAx c.idx (fun (a : Axis) => a.setHook (u8 c.payload 0) (some h)), result := e16 (hookCost h.ops) ++ zeros 2 } }

/-- `HOOK_REMOVE` (R85). -/
def specHookRemove : Spec :=
  { op := 0x0441, rings := [2], len := exactly 4, classes := [0x01], right := .owner, timing := .latch
    values := fun c _ => byteField c.payload (decide (u8 c.payload 0 ≤ 5))
    apply := fun c d =>
      let p := u8 c.payload 0
      if ((d.ax c.idx).hooks.getD p none).isNone then d.says ST.noChange
      else (d.onAx c.idx (fun (a : Axis) => a.setHook p none)).done }

/-- R83: the reply of `HOOK_QUERY`. -/
def Axis.hookReply (a : Axis) (p : Nat) : Bytes :=
  match a.hooks.getD p none with
  | some h =>
    e8 p ++ e8 h.ops.length ++ e16 (hookCost h.ops) ++ e32 a.hookFlags ++ h.consts.flatMap eS16 ++ h.ops.flatMap e32
  | none => e8 p ++ e8 0 ++ e16 0 ++ e32 a.hookFlags ++ zeros 16

/-- `HOOK_QUERY` (R83, R84). -/
def specHookQuery : Spec :=
  { op := 0x0442, rings := [1, 2, 3], len := exactly 4, classes := [0x01], right := .own, timing := .now
    rights := fun c d =>
      match d.owner 0x01 c.idx with
      | some k => need (if u8 c.payload 1 = 0 then d.observes c.port.val k else d.owns c.port.val k) ST.notOwner 0
      | none => some (ST.notOwner, 0)
    values := fun c _ => firstFail [inRange (decide (u8 c.payload 0 ≤ 5)) 0, inRange (decide (u8 c.payload 1 ≤ 1)) 1, rsv c.payload 2 2]
    apply := fun c d =>
      let r := (d.ax c.idx).hookReply (u8 c.payload 0)
      (if u8 c.payload 1 = 1 then d.onAx c.idx (fun (a : Axis) => { a with hookClear := true }) else d).reply r }

/-- `HOOK_USER_SET` (R83, R85). -/
def specHookUserSet : Spec :=
  { op := 0x0443, rings := [1, 2], len := exactly 20, classes := [0x01], right := .owner, timing := .latch
    values := fun c _ => rsv c.payload 1 3
    apply := fun c d =>
      let m := u8 c.payload 0
      let vs := eight c.payload 4
      (d.onAx c.idx (fun (a : Axis) =>
        { a with users := a.users.mapIdx (fun (i : Nat) (x : Int) => if bit m i then vs.getD i 0 else x) })).done }

/-- `AXIS_CONFIGURE` (R127). -/
def execAxisConfigure (c : Cmd) (s : State) : Host.Outcome State Fault Refusal := .next (s.run specAxisConfigure c)
/-- `AXIS_ENABLE` (R127). -/
def execAxisEnable (c : Cmd) (s : State) : Host.Outcome State Fault Refusal := .next (s.run specAxisEnable c)
/-- `AXIS_LIMITS` (R127). -/
def execAxisLimits (c : Cmd) (s : State) : Host.Outcome State Fault Refusal := .next (s.run specAxisLimits c)
/-- `COEF_WRITE` (R107). -/
def execCoefWrite (c : Cmd) (s : State) : Host.Outcome State Fault Refusal := .next (s.run specCoefWrite c)
/-- `COEF_READ` (R127). -/
def execCoefRead (c : Cmd) (s : State) : Host.Outcome State Fault Refusal := .next (s.run specCoefRead c)
/-- `BANK_SWAP` (R108). -/
def execBankSwap (c : Cmd) (s : State) : Host.Outcome State Fault Refusal := .next (s.run specBankSwap c)
/-- `AXIS_MODE` (R104). -/
def execAxisMode (c : Cmd) (s : State) : Host.Outcome State Fault Refusal := .next (s.run specAxisMode c)
/-- `AXIS_MANUAL_SET` (R104). -/
def execAxisManualSet (c : Cmd) (s : State) : Host.Outcome State Fault Refusal := .next (s.run specAxisManualSet c)
/-- `FAULT_CLEAR` (R115). -/
def execFaultClear (c : Cmd) (s : State) : Host.Outcome State Fault Refusal := .next (s.run specFaultClear c)
/-- `INJECT_START` (R122). -/
def execInjectStart (c : Cmd) (s : State) : Host.Outcome State Fault Refusal := .next (s.run specInjectStart c)
/-- `INJECT_STOP` (R123). -/
def execInjectStop (c : Cmd) (s : State) : Host.Outcome State Fault Refusal := .next (s.run specInjectStop c)
/-- `AXIS_FLAGS_CLEAR` (R124). -/
def execAxisFlagsClear (c : Cmd) (s : State) : Host.Outcome State Fault Refusal := .next (s.run specAxisFlagsClear c)
/-- `AXIS_EVENT_ACK` (R125). -/
def execAxisEventAck (c : Cmd) (s : State) : Host.Outcome State Fault Refusal := .next (s.run specAxisEventAck c)
/-- `HOOK_LOAD` (R84). -/
def execHookLoad (c : Cmd) (s : State) : Host.Outcome State Fault Refusal := .next (s.run specHookLoad c)
/-- `HOOK_REMOVE` (R85). -/
def execHookRemove (c : Cmd) (s : State) : Host.Outcome State Fault Refusal := .next (s.run specHookRemove c)
/-- `HOOK_QUERY` (R83). -/
def execHookQuery (c : Cmd) (s : State) : Host.Outcome State Fault Refusal := .next (s.run specHookQuery c)
/-- `HOOK_USER_SET` (R85). -/
def execHookUserSet (c : Cmd) (s : State) : Host.Outcome State Fault Refusal := .next (s.run specHookUserSet c)

end Sys2Proof.Machine
end

