-- ==== Sys2Proof/Machine/CmdProf.lean ====
section
/-! DEFINITION. Area 0x06: moves, virtual masters, gearing, cams, latches, stepping and homing (R156-R186). -/

namespace Sys2Proof.Machine

/-! ### What motion commands share -/

/-- R156: the refusals of a motion command on an axis that come before the busy check. -/
def Dev.motionReady (d : Dev) (i : Nat) (stops : Bool) : List Verdict :=
  [need ((d.armOf i).isNone && !d.jointSoon i) ST.owned 0, need ((d.ax i).state == 4) ST.modeConflict 0,
   need (!(stops && ((d.ax i).stop != 0 || (d.safAx i).ss1))) ST.stopLatched 0] ++ d.safRefusals i false

/-- R156: a source can start: none is active, and no relation waits for its master. -/
def Dev.sourceFree (d : Dev) (i : Nat) : Bool := (d.pf i).source == 0 && (d.pf i).rel.isNone

/-- R156: a command that starts a source on an axis. -/
def Dev.motionObject (d : Dev) (i : Nat) : Verdict :=
  firstFail (d.motionReady i true ++ [need (d.sourceFree i) ST.busy 0])

/-! ### Moves -/

/-- R159, R186: the values of `MOVE`. -/
def moveFault (p : Bytes) : Verdict :=
  let k := u8 p 0
  firstFail [
    inRange (decide (k ≤ 2)) 0, need (decide (u8 p 1 ≤ 1)) ST.reserved 0, rsv p 2 2,
    inRange (if k = 2 then i64 p 12 == 0 else decide (0 < i64 p 12)) 12, inRange (decide (0 < i64 p 20)) 20,
    inRange (decide (0 < i64 p 28)) 28, inRange (decide (0 ≤ i64 p 36)) 36]

/-- R159: the request of a `MOVE` payload. -/
def moveOf (p : Bytes) : MoveReq := ⟨u8 p 0, i64 p 4, i64 p 12, i64 p 20, i64 p 28, i64 p 36⟩

/-- R161: whether a move may join a generator; `free` says that no source is active. -/
def Gen.admits (g : Gen) (free queued : Bool) (kind : Nat) : Verdict :=
  match g.run, g.queue with
  | none, [] => need free ST.busy 0
  | r, q =>
    let runVel : Bool := match r with | some m => m.req.kind == 2 | none => false
    let lastVel : Bool := match q.getLast? with | some m => m.kind == 2 | none => runVel
    if kind == 2 && !queued && runVel then none
    else if lastVel || !queued then some (ST.busy, 0)
    else need (decide (q.length < 8)) ST.busy 1

/-- R159-R161: a move enters a generator, which runs one or not; the generator, and whether it waits in the queue. -/
def Gen.take (g : Gen) (r : MoveReq) (queued : Bool) (p v : Int) (n fs : Nat) : Gen × Bool :=
  match g.run, g.queue with
  | none, [] => ({ g with run := some { r.start p v 0 with begun := false } }, false)
  | some m, _ =>
    -- R162: the new velocity acts on the state of the running move
    if m.req.kind = 2 ∧ ¬ queued then ({ g with run := some { m.shift n fs with req := r, reached := false } }, false)
    else ({ g with queue := g.queue ++ [r] }, true)
  | none, _ => ({ g with queue := g.queue ++ [r] }, true)

/-- R105: the source is the ramp of an entry into `AUTO`, which a move takes over. -/
def Pf.yields (p : Pf) : Bool := p.source == 7 && p.soft

/-- R156, R161, R167: the object state of `MOVE`. -/
def moveObject (c : Cmd) (d : Dev) : Verdict :=
  let p := c.payload
  let queued := bit (u8 p 1) 0
  if c.cls = 0x12 then
    let m := d.vm c.idx
    firstFail [need m.enabled ST.disabled 0, need (m.source == 0) ST.modeConflict 0, need (m.stop == 0) ST.stopLatched 0,
      m.gen.admits m.ramp.isNone queued (u8 p 0)]
  else
    let f := d.pf c.idx
    firstFail (d.motionReady c.idx true ++
      [need (f.source == 0 || f.source == 1 || f.yields) ST.busy 0, f.gen.admits (f.source == 0 || f.yields) queued (u8 p 0)])

/-- R159-R161: a move taken. -/
def applyMove (c : Cmd) (d : Dev) : Eff :=
  let r := moveOf c.payload
  let queued := bit (u8 c.payload 1) 0
  if c.cls = 0x12 then
    let m := d.vm c.idx
    let g := m.gen.take r queued m.next.p1 m.next.v1 d.cyc d.fs
    { dev := d.onVm c.idx (fun (m : Vm) => { m with gen := g.1 }), hold := if g.2 then .move 0x12 c.idx else .stroke }
  else
    let f := d.pf c.idx
    let s := f.planState d.cyc
    let g := f.gen.take r queued s.1 s.2 d.cyc d.fs
    { dev := d.onPf c.idx (fun (f : Pf) => { f with gen := g.1, source := 1, resuming := f.resuming || f.yields })
      hold := if g.2 then .move 0x01 c.idx else .stroke }

/-- `MOVE` (R156-R161, R167). -/
def specMove : Spec :=
  { op := 0x0601, rings := [1], len := exactly 44, classes := [0x01, 0x12], right := .owner, timing := .plan
    values := fun c _ => moveFault c.payload
    object := moveObject
    budget := fun c d => (applyMove c d).dev.budgetCheck
    apply := applyMove }

/-- R162: the limits of a request replaced by the fields a mask selects. -/
def MoveReq.modify (r : MoveReq) (p : Bytes) : MoveReq :=
  let m := u8 p 0
  { r with
    vMax := if bit m 0 then i64 p 4 else r.vMax, accel := if bit m 1 then i64 p 12 else r.accel
    decel := if bit m 2 then i64 p 20 else r.decel, jerk := if bit m 3 then i64 p 28 else r.jerk }

/-- R162: the running move of a generator modified; `held`: a feed hold has taken it to the state (p, v) with the
acceleration `a0` (R165). -/
def Gen.modify (g : Gen) (pl : Bytes) (held : Bool) (p v a0 : Int) (n fs : Nat) : Except Nat Gen :=
  match g.run with
  | none => .error ST.noChange
  | some m =>
    let m0 := if held then m.restart else m.shift n fs
    let m' := { m0 with req := m0.req.modify pl }
    let s : Int × Int × Int := if m'.begun then (m'.p0, m'.v0, m'.a0) else (p * profScale, v * profScale, a0)
    if m'.req.feasible m.goal s.1 s.2.1 s.2.2 n fs then .ok { g with run := some m' } else .error ST.infeasible

/-- R162, R167: what `MOVE_MODIFY` does. -/
def applyMoveModify (c : Cmd) (d : Dev) : Eff :=
  let p := c.payload
  if c.cls = 0x12 then
    let m := d.vm c.idx
    let s : Int × Int := match m.ramp with
      | some r => ((r.after d.cyc).pos, (r.after d.cyc).velCycle d.cyc)
      | none => (m.next.p1, m.next.v1)
    match m.gen.modify p (m.stop == 2) s.1 s.2 (rampAcc m.ramp d.cyc) d.cyc d.fs with
    | .ok g => { dev := d.onVm c.idx (fun (m : Vm) => { m with gen := g }), hold := .stroke }
    | .error st => d.says st
  else
    let f := d.pf c.idx
    let s := f.planState d.cyc
    match f.gen.modify p f.hold s.1 s.2 (rampAcc f.ramp d.cyc) d.cyc d.fs with
    | .ok g => { dev := d.onPf c.idx (fun (f : Pf) => { f with gen := g }), hold := .stroke }
    | .error st => d.says st

/-- `MOVE_MODIFY` (R162, R167). -/
def specMoveModify : Spec :=
  { op := 0x0602, rings := [1], len := exactly 36, classes := [0x01, 0x12], right := .owner, timing := .plan
    values := fun c _ =>
      let p := c.payload
      let m := u8 p 0
      firstFail [need (decide (m < 16)) ST.reserved 0, rsv p 1 3,
        inRange (!(bit m 0 && decide (i64 p 4 ≤ 0))) 4, inRange (!(bit m 1 && decide (i64 p 12 ≤ 0))) 12,
        inRange (!(bit m 2 && decide (i64 p 20 ≤ 0))) 20, inRange (!(bit m 3 && decide (i64 p 28 < 0))) 28]
    object := fun c d =>
      if c.cls = 0x12 then
        firstFail [need (d.vm c.idx).enabled ST.disabled 0, need ((d.vm c.idx).source == 0) ST.modeConflict 0]
      else firstFail (d.motionReady c.idx false)
    apply := applyMoveModify }

/-! ### Virtual masters -/

/-- R168: the object that an object ID of a master names: an axis, or 128 and the virtual master. -/
def masterObj (id : Nat) : Option Obj :=
  let n := id % 2 ^ 24
  if id / 2 ^ 24 = 0x01 ∧ n < 128 then some n
  else if id / 2 ^ 24 = 0x12 ∧ n < 16 then some (128 + n)
  else none

/-- The class and index of an object of the master chains. -/
def objId (o : Obj) : Nat × Nat := if o < 128 then (0x01, o) else (0x12, o - 128)

/-- R168: whether following from `m` reaches `o`. -/
def Dev.reaches (d : Dev) (o : Obj) : Nat → Obj → Bool
  | 0, m => m == o
  | k + 1, m => m == o || (match d.follows m with | some x => d.reaches o k x | none => false)

/-- R168: a master in the compartment of its follower. -/
def Dev.sameComp (d : Dev) (a b : Obj) : Verdict :=
  need (d.owner (objId a).1 (objId a).2 == d.owner (objId b).1 (objId b).2) ST.owned 0

/-- R167: the source axis of a `VM_CONFIGURE` payload. -/
def vmSource (p : Bytes) : Option Obj := if u8 p 0 = 0 then none else masterObj (u32 p 4)

/-- R167: a virtual master configured. -/
def Vm.configure (m : Vm) (p : Bytes) : Vm :=
  let src := u8 p 0
  let on := u8 p 1 == 1
  let fresh := on && (!m.enabled || m.source != src || m.object != u32 p 4 % 2 ^ 24)
  { m with
    source := src, enabled := on, object := u32 p 4 % 2 ^ 24, decel := i64 p 8, preset := i64 p 16
    primed := m.primed && !fresh, startAt := if fresh ∧ src = 0 then some (i64 p 16) else none }

/-- `VM_CONFIGURE` (R167, R168). -/
def specVmConfigure : Spec :=
  { op := 0x0603, rings := [2], len := exactly 24, classes := [0x12], right := .owner, timing := .plan
    values := fun c d =>
      let p := c.payload
      firstFail [
        inRange (decide (u8 p 0 ≤ 2)) 0, inRange (decide (u8 p 1 ≤ 1)) 1, rsv p 2 2,
        inRange (if u8 p 0 = 0 then u32 p 4 == 0 else decide (u32 p 4 / 2 ^ 24 = 1) && decide (u32 p 4 % 2 ^ 24 < 128)) 4,
        inRange (decide (0 < i64 p 8)) 8,
        (match vmSource p with | some a => inRange (!d.reaches (128 + c.idx) 144 a) 0 | none => none)]
    object := fun c d =>
      let m := d.vm c.idx
      need (m.gen.run.isNone && m.gen.queue.isEmpty && m.ramp.isNone) ST.busy 0
    resource := fun c d => match vmSource c.payload with | some a => d.sameComp a (128 + c.idx) | none => none
    budget := fun c d => (d.onVm c.idx (fun (m : Vm) => m.configure c.payload)).budgetCheck
    apply := fun c d => { dev := d.onVm c.idx (fun (m : Vm) => m.configure c.payload), hold := .stroke } }

/-! ### Relations -/

/-- R168, R169, R176: the master fields of `GEAR_ENGAGE` and `CAM_ENGAGE`. -/
def masterFault (c : Cmd) (d : Dev) : Verdict :=
  let p := c.payload
  match masterObj (u32 p 0) with
  | none => some (ST.badValue, 0)
  | some m => firstFail [inRange (!d.reaches c.idx 144 m) 0,
      inRange (u8 p 4 == 0 || (u8 p 4 == 1 && decide (m < 128))) 4, need (decide (u8 p 5 ≤ 1)) ST.reserved 0]

/-- R168: the master of an engage command lies in the axis's compartment. -/
def masterResource (c : Cmd) (d : Dev) : Verdict :=
  match masterObj (u32 c.payload 0) with | some m => d.sameComp m c.idx | none => none

/-- A relation as an engage command describes it, not yet engaged. -/
def relOf (cam : Bool) (p : Bytes) (num : Int) (den : Nat) (len : Int) (table : Nat) (xOff at_ trim : Int) : Rel :=
  let m := (masterObj (u32 p 0)).getD 0
  { isCam := cam, mCls := (objId m).1, mIdx := (objId m).2, mVal := u8 p 4, no := 0, do_ := 1, nn := num, dn := den
    len := len, b := 0, mc := 0, table := table, xOff := xOff, nextTable := none, phi := Phase1.zero, trimStep := trim
    engaged := false, waitAt := if bit (u8 p 5) 0 then some at_ else none, ratio := none, firstM := none, mKnots := none }

/-- R169, R176: a relation is taken up; one without `at_master` starts with the next cycle planned. -/
def Dev.takeRel (d : Dev) (i : Nat) (r : Rel) : Eff :=
  let d := d.onPf i (fun (p : Pf) =>
    { p with rel := some r, gearSynced := false, source := if r.waitAt.isSome then 0 else if r.isCam then 3 else 2 })
  { dev := d.camsUse, hold := if r.waitAt.isSome then .rel i else .stroke }

/-- The relation of a `GEAR_ENGAGE` payload. -/
def gearOf (p : Bytes) : Rel := relOf false p (i32 p 8) (u32 p 12) (i64 p 16) 0 0 (i64 p 24) (i64 p 32)

/-- `GEAR_ENGAGE` (R156, R168, R169, R176). -/
def specGearEngage : Spec :=
  { op := 0x0604, rings := [1], len := exactly 40, classes := [0x01], right := .owner, timing := .plan
    values := fun c d =>
      let p := c.payload
      firstFail [masterFault c d, rsv p 6 2, inRange (i32 p 8 != 0) 8,
        inRange (decide (1 ≤ u32 p 12) && decide (u32 p 12 ≤ 2 ^ 31)) 12, inRange (decide (0 ≤ i64 p 32)) 32]
    object := fun c d => d.motionObject c.idx
    resource := masterResource
    budget := fun c d => (d.takeRel c.idx (gearOf c.payload)).dev.budgetCheck
    apply := fun c d => d.takeRel c.idx (gearOf c.payload) }

/-- R186: an engaged relation of a kind; any kind with `none`. -/
def Pf.related (p : Pf) (cam : Option Bool) : Bool :=
  match p.rel with
  | some r => r.engaged && (match cam with | some k => r.isCam == k | none => true)
  | none => false

/-- A change of the relation of an axis. -/
def Dev.onRel (d : Dev) (i : Nat) (f : Rel → Rel) : Dev := d.onPf i (fun (p : Pf) => { p with rel := p.rel.map f })

/-- `GEAR_RATIO` (R170). -/
def specGearRatio : Spec :=
  { op := 0x0605, rings := [1], len := exactly 16, classes := [0x01], right := .owner, timing := .plan
    values := fun c _ => inRange (decide (1 ≤ u32 c.payload 4) && decide (u32 c.payload 4 ≤ 2 ^ 31)) 4
    object := fun c d => firstFail (d.motionReady c.idx false ++ [need ((d.pf c.idx).related (some false)) ST.busy 0])
    apply := fun c d =>
      let p := c.payload
      { dev := d.onRel c.idx (fun (r : Rel) => { r with ratio := some (i32 p 0, u32 p 4, i64 p 8) }), hold := .stroke } }

/-- `RELATION_PHASE` (R171). -/
def specRelationPhase : Spec :=
  { op := 0x0606, rings := [1], len := exactly 24, classes := [0x01], right := .owner, timing := .plan
    values := fun c _ => firstFail [inRange (decide (0 < i64 c.payload 8)) 8, inRange (decide (0 < i64 c.payload 16)) 16]
    object := fun c d => firstFail (d.motionReady c.idx false ++ [need ((d.pf c.idx).related none) ST.busy 0])
    apply := fun c d =>
      let p := c.payload
      { dev := d.onRel c.idx (fun (r : Rel) => { r with phi := r.phi.retarget (i64 p 0) (i64 p 8) (i64 p 16) }), hold := .stroke } }

/-- `DISENGAGE` (R172, R186). -/
def specDisengage : Spec :=
  { op := 0x0607, rings := [1], len := exactly 8, classes := [0x01], right := .owner, timing := .plan
    values := fun c _ => inRange (decide (0 ≤ i64 c.payload 0)) 0
    object := fun c d => need (d.armOf c.idx).isNone ST.owned 0
    apply := fun c d =>
      let i := c.idx
      let x := i64 c.payload 0
      if !(d.pf i).related none then d.says ST.noChange
      else { dev := d.onPf i (fun (p : Pf) => { p with leave := some (if x = 0 then (d.ax i).lim.haltDecel else x) }), hold := .stroke } }

/-! ### Cam tables -/

/-- R173: the size of the motion-table pool. -/
def camPool : Nat := 16 * 2 ^ 20
/-- R173: what the tables other than table `t` occupy. -/
def Dev.camUsed (d : Dev) (t : Nat) : Nat :=
  ((List.range 256).map (fun (k : Nat) =>
    let c := d.cam k
    if k = t ∨ c.state = 0 then 0 else camBytes c.n c.format)).sum

/-- `CAM_CREATE` (R173). The contents of the new points are open until they are written. -/
def specCamCreate : Spec :=
  { op := 0x0608, rings := [2], len := exactly 8, classes := [0x13], right := .owner, timing := .latch
    values := fun c _ =>
      let p := c.payload
      firstFail [inRange (decide (2 ≤ u32 p 0) && decide (u32 p 0 ≤ 65536)) 0, inRange (decide (u8 p 4 ≤ 1)) 4,
        inRange (decide (u8 p 5 ≤ 1)) 5, rsv p 6 2]
    object := fun c d => need ((d.cam c.idx).state != 3) ST.busy 0
    resource := fun c d => need (decide (d.camUsed c.idx + camBytes (u32 c.payload 0) (u8 c.payload 4) ≤ camPool)) ST.noMemory 0
    apply := fun c d =>
      let p := c.payload
      ((d.skip 1).onCam c.idx (fun _ => ⟨1, u8 p 4, u8 p 5 == 1, u32 p 0, [], d.free⟩)).done }

/-- R173: the bytes of one point of a format. -/
def pointBytes (format : Nat) : Nat := if format = 1 then 24 else 16

/-- R173: the points of a `CAM_WRITE` payload. -/
def Cam.write (t : Cam) (p : Bytes) : Cam :=
  let z := pointBytes t.format
  let k := (p.length - 8) / z
  let first := u32 p 0
  let new := (List.range k).map (fun (j : Nat) =>
    let o := 8 + j * z
    ((first + j, ⟨i64 p o, i64 p (o + 8), if t.format = 1 then i64 p (o + 16) else 0⟩) : Nat × CamPt))
  { t with pts := new ++ t.pts.filter (fun (x : Nat × CamPt) => decide (x.1 < first) || decide (first + k ≤ x.1)) }

/-- `CAM_WRITE` (R173). -/
def specCamWrite : Spec :=
  { op := 0x0609, rings := [3], len := fun n => decide (24 ≤ n) && n % 8 == 0, classes := [0x13], right := .owner, timing := .latch
    values := fun c _ => rsv c.payload 4 4
    object := fun c d =>
      let t := d.cam c.idx
      let z := pointBytes t.format
      let n := c.payload.length - 8
      firstFail [need (t.state == 1) ST.busy 0, need (n % z == 0) ST.badLength 0,
        inRange (decide (u32 c.payload 0 + n / z ≤ t.n)) 0]
    apply := fun c d => (d.onCam c.idx (fun (t : Cam) => t.write c.payload)).done }

/-- `CAM_COMMIT` (R174). -/
def specCamCommit : Spec :=
  { op := 0x060A, rings := [2], len := exactly 0, classes := [0x13], right := .owner, timing := .latch
    object := fun c d => need ((d.cam c.idx).state == 1) ST.busy 0
    apply := fun c d =>
      match (d.cam c.idx).check (d.cam c.idx).n 0 with
      | some i => { dev := d, status := ST.badValue, detail := min i 0xFFFF }
      | none => (d.onCam c.idx (fun (t : Cam) => { t with state := 2 })).done }

/-- `CAM_DELETE` (R173). -/
def specCamDelete : Spec :=
  { op := 0x060B, rings := [2], len := exactly 0, classes := [0x13], right := .owner, timing := .latch
    object := fun c d => need ((d.cam c.idx).state != 3) ST.busy 0
    apply := fun c d =>
      if (d.cam c.idx).state = 0 then d.says ST.noChange else (d.onCam c.idx (fun _ => Cam.reset)).done }

/-- R176: a table a relation may read: committed, and of the axis's compartment. -/
def Dev.camReady (d : Dev) (i t : Nat) : List Verdict :=
  [need (d.owner 0x13 t == d.owner 0x01 i) ST.owned 0, need ((d.cam t).state == 2 || (d.cam t).state == 3) ST.disabled 0]

/-- The relation of a `CAM_ENGAGE` payload. -/
def camOf (p : Bytes) : Rel := relOf true p 0 1 0 (u16 p 6) (i64 p 8) (i64 p 16) (i64 p 24)

/-- `CAM_ENGAGE` (R156, R168, R176). -/
def specCamEngage : Spec :=
  { op := 0x060C, rings := [1], len := exactly 32, classes := [0x01], right := .owner, timing := .plan
    values := fun c d => firstFail [masterFault c d, inRange (decide (u16 c.payload 6 < 256)) 6, inRange (decide (0 ≤ i64 c.payload 24)) 24]
    object := fun c d => firstFail ([d.motionObject c.idx] ++ d.camReady c.idx (u16 c.payload 6))
    resource := masterResource
    budget := fun c d => (d.takeRel c.idx (camOf c.payload)).dev.budgetCheck
    apply := fun c d => d.takeRel c.idx (camOf c.payload) }

/-- `CAM_NEXT` (R177). -/
def specCamNext : Spec :=
  { op := 0x060D, rings := [1], len := exactly 4, classes := [0x01], right := .owner, timing := .plan
    values := fun c d => firstFail [
      inRange (decide (u16 c.payload 0 < 256) && (let t := d.cam (u16 c.payload 0); t.periodic || t.state != 2 && t.state != 3)) 0, rsv c.payload 2 2]
    object := fun c d => firstFail (d.motionReady c.idx false ++ [need ((d.pf c.idx).related (some true)) ST.busy 0] ++
      d.camReady c.idx (u16 c.payload 0) ++
      [need (match (d.pf c.idx).rel with | some r => (d.cam r.table).periodic | none => false) ST.badValue 0])
    apply := fun c d =>
      { dev := (d.onRel c.idx (fun (r : Rel) => { r with nextTable := some (u16 c.payload 0) })).camsUse, hold := .stroke } }

/-! ### Latches -/

/-- R365: whether the registration of an axis owns a latch. -/
def Dev.latchOwned (d : Dev) (i k : Nat) : Bool :=
  d.cap.regs.any (fun (r : Reg) => r.enabled && (match r.cfg with | some g => g.axis == i && g.latch == k | none => false))

/-- R178: the source object of a `LATCH_ARM`. -/
def latchObjectOk (src obj : Nat) : Bool :=
  match src with
  | 0 => obj / 2 ^ 24 == 0x09 && decide (obj % 2 ^ 24 < 32)
  | 1 => obj / 2 ^ 24 == 0x07 && decide (obj % 2 ^ 24 < 128)
  | 2 => obj == 0
  | _ => decide (obj ≤ 3)

/-- `LATCH_ARM` (R178, R180). -/
def specLatchArm : Spec :=
  { op := 0x060E, rings := [1, 2], len := exactly 24, classes := [0x01], right := .owner, timing := .latch
    values := fun c _ =>
      let p := c.payload
      firstFail [
        inRange (decide (u8 p 0 ≤ 3)) 0, inRange (decide (u8 p 1 ≤ 3)) 1, inRange (decide (u8 p 2 ≤ 2)) 2,
        need (decide (u8 p 3 ≤ 3)) ST.reserved 0, inRange (latchObjectOk (u8 p 1) (u32 p 4)) 4,
        inRange (!(bit (u8 p 3) 1 && decide (i64 p 16 < i64 p 8))) 16]
    resource := fun c d =>
      let p := c.payload
      let o := u32 p 4
      firstFail [need (!d.latchOwned c.idx (u8 p 0)) ST.owned 0,
        (if u8 p 1 ≤ 1 then need (d.owner (o / 2 ^ 24) (o % 2 ^ 24) == d.owner 0x01 c.idx) ST.owned 0 else none)]
    apply := fun c d =>
      let p := c.payload
      (d.onPf c.idx (fun (f : Pf) => { f with latches := upd f.latches (u8 p 0) (fun (l : Latch) =>
        { l with
          armed := true, valid := false, stale := false, continuous := bit (u8 p 3) 0, window := bit (u8 p 3) 1, src := u8 p 1
          edge := u8 p 2, object := u32 p 4 % 2 ^ 24, lo := i64 p 8, hi := i64 p 16, since := d.latchAt, hits := [] }) })).done }

/-- `LATCH_DISARM` (R180). -/
def specLatchDisarm : Spec :=
  { op := 0x060F, rings := [1, 2], len := exactly 4, classes := [0x01], right := .owner, timing := .latch
    values := fun c _ => byteField c.payload (decide (u8 c.payload 0 ≤ 3))
    apply := fun c d =>
      let k := u8 c.payload 0
      if !((d.pf c.idx).latches.getD k Latch.reset).armed then d.says ST.noChange
      else (d.onPf c.idx (fun (f : Pf) => { f with latches := upd f.latches k (fun (l : Latch) => { l with armed := false }) })).done }

/-! ### Stepping and homing -/

/-- `STEP_CONFIGURE` (R182). -/
def specStepConfigure : Spec :=
  { op := 0x0610, rings := [2], len := exactly 24, classes := [0x01], right := .owner, timing := .latch
    values := fun c _ =>
      let p := c.payload
      firstFail [inRange (decide (u8 p 0 ≤ 1)) 0, need (decide (u8 p 1 ≤ 1)) ST.reserved 0,
        inRange (decide (1 ≤ u32 p 16)) 16, rsv p 20 4]
    object := fun c d =>
      let a := d.ax c.idx
      firstFail [need (a.state == 0) ST.busy 0, need (u8 c.payload 0 == 0 || (a.local_ && a.cfg.law == 1)) ST.modeConflict 0]
    apply := fun c d =>
      let p := c.payload
      (d.onPf c.idx (fun (f : Pf) =>
        { f with step := ⟨u8 p 0 == 1, u8 p 1 == 1, u16 p 2, i32 p 4, i32 p 8, u32 p 12, u32 p 16, f.step.mu, 0⟩ })).done }

/-- `STEPDIR_CONFIGURE` (R129, R156, R183). -/
def specStepdirConfigure : Spec :=
  { op := 0x0611, rings := [2], len := exactly 16, classes := [0x01], right := .owner, timing := .latch
    values := fun c _ =>
      let p := c.payload
      firstFail [
        inRange (decide (u8 p 0 ≤ 1)) 0, inRange (decide (u8 p 1 ≤ 22)) 1, need (decide (u8 p 2 ≤ 1)) ST.reserved 0, rsv p 3 1,
        inRange (decide (1 ≤ u32 p 8)) 8, inRange (decide (1 ≤ u16 p 12) && decide (u16 p 12 ≤ 16)) 12,
        inRange (decide (1 ≤ u16 p 14) && decide (u16 p 14 ≤ 1000)) 14]
    object := fun c d =>
      if u8 c.payload 0 = 0 then none
      else firstFail (d.motionReady c.idx true ++
        [need (((d.pf c.idx).source == 0 || (d.pf c.idx).source == 4) && (d.pf c.idx).rel.isNone) ST.busy 0])
    resource := fun c d =>
      if u8 c.payload 0 = 0 then none else d.claimPins c.idx 1 [u8 c.payload 1, u8 c.payload 1 + 1]
    apply := fun c d =>
      let p := c.payload
      let i := c.idx
      if u8 p 0 = 0 then
        if !(d.pf i).stepDir.enabled then d.says ST.noChange
        else
          (d.onPf i (fun (f : Pf) =>
            { (f.rest f.cmd) with stepDir := { f.stepDir with enabled := false }, source := if f.source = 4 then 0 else f.source })).done
      else
        (d.onPf i (fun (f : Pf) =>
          { f with
            source := 4
            stepDir := ⟨true, u8 p 1, u8 p 2 == 1, u32 p 4, u32 p 8, u16 p 12, u16 p 14, 0, f.cmd, 0, 0, 0⟩ })).done }

/-- R181, R260: whether the identity cache holds a motor entry for a stage. -/
def Dev.motorKnown (d : Dev) (stage : Nat) : Bool :=
  match d.idents.getD (128 + stage) none with
  | some r => identValid r && (identTag r 0x0011).isSome
  | none => false

/-- R181: stall homing as a payload describes it. -/
def homeOf (p : Bytes) (start : Int) : Home :=
  { vel := i64 p 0, accel := i64 p 8, current := i32 p 16, blank := u16 p 20, count := u8 p 22, bemf := i32 p 24
    angle := i16 p 28, position := i64 p 32, maxTravel := i64 p 40, cycles := 0, stalled := 0, start := start
    prof := (⟨2, i64 p 0, 0, i64 p 8, i64 p 8, 0⟩ : MoveReq).start start 0 0 }

/-- R181: homing starts. -/
def Dev.homeStart (d : Dev) (i : Nat) (p : Bytes) : Dev :=
  d.onPf i (fun (f : Pf) => { f with source := 6, homeState := 1, home := some (homeOf p f.cmd) })

/-- `HOME_STALL` (R156, R181). -/
def specHomeStall : Spec :=
  { op := 0x0612, rings := [1], len := exactly 48, classes := [0x01], right := .owner, timing := .plan
    values := fun c _ =>
      let p := c.payload
      firstFail [
        inRange (decide (0 < i64 p 8)) 8, inRange (decide (0 ≤ i32 p 16)) 16, inRange (decide (1 ≤ u8 p 22)) 22, rsv p 23 1,
        inRange (decide (0 ≤ i16 p 28) && decide (i16 p 28 ≤ 16384)) 28, rsv p 30 2, inRange (decide (0 < i64 p 40)) 40]
    object := fun c d =>
      let a := d.ax c.idx
      firstFail [need (d.armOf c.idx).isNone ST.owned 0, need (a.state == 4 && a.local_) ST.modeConflict 0,
        need (a.stop == 0) ST.stopLatched 0, need (d.sourceFree c.idx) ST.busy 0, need (d.motorKnown a.stage) ST.noMotorData 0]
    budget := fun c d => (d.homeStart c.idx c.payload).budgetCheck
    apply := fun c d => { dev := d.homeStart c.idx c.payload, hold := .home c.idx } }

/-- `PF_EVENT_ACK` (R185). -/
def specPfEventAck : Spec :=
  { op := 0x0613, rings := [1, 2, 3], len := exactly 4, classes := [0x01, 0x12], right := .owner, timing := .latch
    apply := fun c d =>
      let m := u32 c.payload 0
      let d := if c.cls = 0x12 then d.onVm c.idx (fun (v : Vm) => { v with events := clearMask v.events m })
        else d.onPf c.idx (fun (f : Pf) => { f with events := clearMask f.events m })
      (d.settleOf c.cls c.idx).done }

/-- `PF_FLAGS_CLEAR` (R185). -/
def specPfFlagsClear : Spec :=
  { op := 0x0614, rings := [1, 2, 3], len := exactly 0, classes := [0x01], right := .owner, timing := .latch
    apply := fun c d =>
      (d.onPf c.idx (fun (f : Pf) => { f with lost := false, camRange := false, stepLag := false, trimSat := false })).done }

/-- `MOVE` (R159). -/
def execMove (c : Cmd) (s : State) : Host.Outcome State Fault Refusal := .next (s.run specMove c)
/-- `MOVE_MODIFY` (R162). -/
def execMoveModify (c : Cmd) (s : State) : Host.Outcome State Fault Refusal := .next (s.run specMoveModify c)
/-- `VM_CONFIGURE` (R167). -/
def execVmConfigure (c : Cmd) (s : State) : Host.Outcome State Fault Refusal := .next (s.run specVmConfigure c)
/-- `GEAR_ENGAGE` (R169). -/
def execGearEngage (c : Cmd) (s : State) : Host.Outcome State Fault Refusal := .next (s.run specGearEngage c)
/-- `GEAR_RATIO` (R170). -/
def execGearRatio (c : Cmd) (s : State) : Host.Outcome State Fault Refusal := .next (s.run specGearRatio c)
/-- `RELATION_PHASE` (R171). -/
def execRelationPhase (c : Cmd) (s : State) : Host.Outcome State Fault Refusal := .next (s.run specRelationPhase c)
/-- `DISENGAGE` (R186). -/
def execDisengage (c : Cmd) (s : State) : Host.Outcome State Fault Refusal := .next (s.run specDisengage c)
/-- `CAM_CREATE` (R173). -/
def execCamCreate (c : Cmd) (s : State) : Host.Outcome State Fault Refusal := .next (s.run specCamCreate c)
/-- `CAM_WRITE` (R173). -/
def execCamWrite (c : Cmd) (s : State) : Host.Outcome State Fault Refusal := .next (s.run specCamWrite c)
/-- `CAM_COMMIT` (R174). -/
def execCamCommit (c : Cmd) (s : State) : Host.Outcome State Fault Refusal := .next (s.run specCamCommit c)
/-- `CAM_DELETE` (R173). -/
def execCamDelete (c : Cmd) (s : State) : Host.Outcome State Fault Refusal := .next (s.run specCamDelete c)
/-- `CAM_ENGAGE` (R176). -/
def execCamEngage (c : Cmd) (s : State) : Host.Outcome State Fault Refusal := .next (s.run specCamEngage c)
/-- `CAM_NEXT` (R177). -/
def execCamNext (c : Cmd) (s : State) : Host.Outcome State Fault Refusal := .next (s.run specCamNext c)
/-- `LATCH_ARM` (R180). -/
def execLatchArm (c : Cmd) (s : State) : Host.Outcome State Fault Refusal := .next (s.run specLatchArm c)
/-- `LATCH_DISARM` (R180). -/
def execLatchDisarm (c : Cmd) (s : State) : Host.Outcome State Fault Refusal := .next (s.run specLatchDisarm c)
/-- `STEP_CONFIGURE` (R182). -/
def execStepConfigure (c : Cmd) (s : State) : Host.Outcome State Fault Refusal := .next (s.run specStepConfigure c)
/-- `STEPDIR_CONFIGURE` (R183). -/
def execStepdirConfigure (c : Cmd) (s : State) : Host.Outcome State Fault Refusal := .next (s.run specStepdirConfigure c)
/-- `HOME_STALL` (R181). -/
def execHomeStall (c : Cmd) (s : State) : Host.Outcome State Fault Refusal := .next (s.run specHomeStall c)
/-- `PF_EVENT_ACK` (R185). -/
def execPfEventAck (c : Cmd) (s : State) : Host.Outcome State Fault Refusal := .next (s.run specPfEventAck c)
/-- `PF_FLAGS_CLEAR` (R185). -/
def execPfFlagsClear (c : Cmd) (s : State) : Host.Outcome State Fault Refusal := .next (s.run specPfFlagsClear c)

end Sys2Proof.Machine
end

