-- ==== Sys2Proof/Machine/CmdStage.lean ====
section
/-! DEFINITION. Area 0x07: local power stages (R188-R214). -/

namespace Sys2Proof.Machine

/-- R213: a period the host may write. -/
def periodOk (p : Nat) : Bool := decide (2000 ≤ p) && decide (p ≤ 4000000)

/-- R214: the values of the half-bridge fields at offset `o`. -/
def hbFault (p : Bytes) (o : Nat) : List Verdict :=
  let v := u16 p (o + 4)
  [ inRange (decide (u16 p o ≤ 2047)) o, need (decide (u8 p (o + 2) ≤ 1)) ST.reserved 0, inRange (decide (u8 p (o + 3) ≤ 2)) (o + 3),
    inRange (v == 0 || (decide (200 ≤ v) && decide (v ≤ 2000) && v % 50 == 0)) (o + 4),
    inRange (decide (1 ≤ u8 p (o + 6)) && decide (u8 p (o + 6) ≤ 31)) (o + 6) ]

/-- R214: the values of `STAGE_CONFIGURE`. -/
def stgFault (p : Bytes) : Verdict :=
  firstFail ([
    inRange (decide (1 ≤ u8 p 0) && decide (u8 p 0 ≤ 8)) 0, inRange (decide (u8 p 1 ≤ 3)) 1, inRange (decide (1 ≤ u8 p 2)) 2,
    need (decide (u8 p 3 ≤ 3)) ST.reserved 0, inRange (decide (u16 p 4 ≤ 1000)) 4, inRange (decide (u8 p 6 ≤ 200)) 6,
    inRange (decide (u8 p 7 ≤ 1)) 7, inRange (decide (100 ≤ u32 p 8) && decide (u32 p 8 ≤ 1000000)) 8, rsv p 12 4] ++
    (List.range 4).flatMap (fun (k : Nat) => hbFault p (16 + 8 * k)))

/-- R214: the configuration of a `STAGE_CONFIGURE` payload. -/
def stgCfgOf (p : Bytes) : StgCfg :=
  { pps := u8 p 0, gain := u8 p 1, refreshN := u8 p 2, tripFlags := u8 p 3, precharge := u16 p 4, tripFilt := u8 p 6
    hsSupply := u8 p 7, shunt := u32 p 8
    hbs := (List.range 4).map (fun (k : Nat) =>
      let o := 16 + 8 * k
      ⟨u16 p o, u8 p (o + 2), u8 p (o + 3), u16 p (o + 4), u8 p (o + 6), u8 p (o + 7)⟩) }

/-- `STAGE_CONFIGURE` (R214). -/
def specStageConfigure : Spec :=
  { op := 0x0701, rings := [2], len := exactly 48, classes := [0x05], right := .owner, timing := .latch
    values := fun c _ => stgFault c.payload
    object := fun c d => need ((d.stg c.idx).mode == 0) ST.cyclic 0
    apply := fun c d => (d.onStg c.idx (fun (s : Stg) => { s with cfg := stgCfgOf c.payload })).done }

/-- R188, R189, R214: the object state of `STAGE_ENABLE`. -/
def stgEnableObject (c : Cmd) (d : Dev) : Verdict :=
  let m := u8 c.payload 0
  let s := d.stg c.idx
  let ax := d.stageAxis c.idx
  if m = s.mode then none
  else if m = 0 then need (match ax with | some i => !(d.ax i).runs | none => true) ST.busy 0
  else firstFail [need (s.mode == 0) ST.busy 0, need (ax.isSome == (m == 1)) ST.modeConflict 0]

/-- R196, R200: a stage enabled: its outputs are off while the offsets are measured. -/
def Stg.enable (s : Stg) (mode period : Nat) : Stg :=
  { s.off with
    mode := mode, period := period, periodSh := none, ready := false, measuring := true, locked := false, needCompare := true
    dutyPend := none, pIdx := 0 }

/-- `STAGE_ENABLE` (R188, R189, R200, R214). -/
def specStageEnable : Spec :=
  { op := 0x0702, rings := [2], len := exactly 8, classes := [0x05], right := .owner, timing := .latch
    values := fun c _ =>
      let p := c.payload
      firstFail [inRange (decide (u8 p 0 ≤ 2)) 0, rsv p 1 3, inRange (if u8 p 0 = 2 then periodOk (u32 p 4) else u32 p 4 == 0) 4]
    object := stgEnableObject
    apply := fun c d =>
      let m := u8 c.payload 0
      if m = (d.stg c.idx).mode then d.says ST.noChange
      else if m = 0 then (d.onStg c.idx Stg.disable).done
      else { dev := d.onStg c.idx (fun (s : Stg) => s.enable m (u32 c.payload 4)), hold := .stage c.idx } }

/-- R196: the object state of a host write of the PWM. -/
def pwmObject (c : Cmd) (d : Dev) : Verdict :=
  let m := (d.stg c.idx).mode
  firstFail [need (m != 0) ST.disabled 0, need (m == 2) ST.modeConflict 0]

/-- `PWM_SET` (R195, R196). -/
def specPwmSet : Spec :=
  { op := 0x0703, rings := [1, 2], len := exactly 24, classes := [0x05], right := .owner, timing := .latch
    values := fun c _ => firstFail (inRange (periodOk (u32 c.payload 0)) 0 ::
      (List.range 4).map (fun (k : Nat) => inRange (decide (u8 c.payload (20 + k) ≤ 3)) (20 + k)))
    object := pwmObject
    apply := fun c d =>
      let p := c.payload
      (d.onStg c.idx (fun (s : Stg) =>
        { s with
          periodSh := some (u32 p 0)
          hbs := s.hbs.mapIdx (fun (k : Nat) (h : Hb) =>
            { h with cmpSh := some (u32 p (4 + 4 * k)), modeSh := some (u8 p (20 + k)) }) })).done }

/-- `PWM_COMPARE_SET` (R195, R196). -/
def specPwmCompareSet : Spec :=
  { op := 0x0704, rings := [1, 2], len := exactly 20, classes := [0x05], right := .owner, timing := .latch
    values := fun c _ => firstFail [need (decide (u8 c.payload 0 < 16)) ST.reserved 0, rsv c.payload 1 3]
    object := pwmObject
    apply := fun c d =>
      let p := c.payload
      (d.onStg c.idx (fun (s : Stg) =>
        { s with hbs := s.hbs.mapIdx (fun (k : Nat) (h : Hb) =>
            if bit (u8 p 0) k then { h with cmpSh := some (u32 p (4 + 4 * k)) } else h) })).done }

/-- `PWM_PERIOD_SET` (R195, R196). -/
def specPwmPeriodSet : Spec :=
  { op := 0x0705, rings := [1, 2], len := exactly 4, classes := [0x05], right := .owner, timing := .latch
    values := fun c _ => inRange (periodOk (u32 c.payload 0)) 0
    object := pwmObject
    apply := fun c d => (d.onStg c.idx (fun (s : Stg) => { s with periodSh := some (u32 c.payload 0) })).done }

/-- `PWM_LOCK` (R197). -/
def specPwmLock : Spec :=
  { op := 0x0706, rings := [1, 2], len := exactly 4, classes := [0x05], right := .owner, timing := .latch
    values := fun c _ => byteField c.payload (decide (u8 c.payload 0 ≤ 1))
    object := fun c d => need ((d.stg c.idx).mode != 0) ST.disabled 0
    apply := fun c d =>
      let l := u8 c.payload 0 == 1
      if (d.stg c.idx).locked = l then d.says ST.noChange
      else (d.onStg c.idx (fun (s : Stg) => { s with locked := l })).done }

/-- `PWM_EVENT_CONFIGURE` (R194, R195, R214). -/
def specPwmEventConfigure : Spec :=
  { op := 0x0707, rings := [2], len := exactly 8, classes := [0x05], right := .owner, timing := .latch
    values := fun c _ =>
      let p := c.payload
      firstFail [
        inRange (decide (u8 p 0 ≤ 5)) 0, inRange (if u8 p 0 ≤ 1 then u8 p 1 == 0 else decide (u8 p 1 ≤ 2)) 1,
        inRange (decide (u16 p 2 ≤ 256)) 2, inRange (decide (u8 p 4 ≤ 15) || u8 p 4 == 0xFF) 4, inRange (decide (u8 p 5 ≤ 1)) 5,
        rsv p 6 2]
    resource := fun c d =>
      let l := u8 c.payload 4
      need (l == 0xFF || d.owner 0x20 l == d.owner 0x05 c.idx) ST.owned 0
    apply := fun c d =>
      let p := c.payload
      (d.onStg c.idx (fun (s : Stg) =>
        { s with pointsSh := s.pointsSh.set (u8 p 0) (some ⟨u8 p 1, u16 p 2, u8 p 4, u8 p 5 == 1, 0⟩) })).done }

/-- `STAGE_FAULT_CLEAR` (R205). -/
def specStageFaultClear : Spec :=
  { op := 0x0708, rings := [1, 2], len := exactly 0, classes := [0x05], right := .owner, timing := .latch, atEffect := true
    object := fun c d => need (!(d.stg c.idx).tripAsserted) ST.tripActive 0
    apply := fun c d =>
      let s := d.stg c.idx
      if s.faults &&& 0x3FF = 0 ∧ s.tripped = false then d.says ST.noChange else (d.onStg c.idx Stg.clearTrip).done }

/-- `STAGE_EVENT_ACK` (R212). -/
def specStageEventAck : Spec :=
  { op := 0x0709, rings := [1, 2, 3], len := exactly 4, classes := [0x05], right := .owner, timing := .latch
    apply := fun c d => (d.ack (280 + c.idx) (u32 c.payload 0)).done }

/-- `STAGE_FLAGS_CLEAR` (R212). -/
def specStageFlagsClear : Spec :=
  { op := 0x070A, rings := [1, 2, 3], len := exactly 0, classes := [0x05], right := .owner, timing := .latch
    apply := fun c d =>
      (d.onStg c.idx (fun (s : Stg) => { s with faults := clearMask s.faults 0xFF0000, refreshes := 0, blocked := 0 })).done }

/-- `STAGE_CONFIGURE` (R214). -/
def execStageConfigure (c : Cmd) (s : State) : Host.Outcome State Fault Refusal := .next (s.run specStageConfigure c)
/-- `STAGE_ENABLE` (R214). -/
def execStageEnable (c : Cmd) (s : State) : Host.Outcome State Fault Refusal := .next (s.run specStageEnable c)
/-- `PWM_SET` (R196). -/
def execPwmSet (c : Cmd) (s : State) : Host.Outcome State Fault Refusal := .next (s.run specPwmSet c)
/-- `PWM_COMPARE_SET` (R196). -/
def execPwmCompareSet (c : Cmd) (s : State) : Host.Outcome State Fault Refusal := .next (s.run specPwmCompareSet c)
/-- `PWM_PERIOD_SET` (R196). -/
def execPwmPeriodSet (c : Cmd) (s : State) : Host.Outcome State Fault Refusal := .next (s.run specPwmPeriodSet c)
/-- `PWM_LOCK` (R197). -/
def execPwmLock (c : Cmd) (s : State) : Host.Outcome State Fault Refusal := .next (s.run specPwmLock c)
/-- `PWM_EVENT_CONFIGURE` (R194). -/
def execPwmEventConfigure (c : Cmd) (s : State) : Host.Outcome State Fault Refusal := .next (s.run specPwmEventConfigure c)
/-- `STAGE_FAULT_CLEAR` (R205). -/
def execStageFaultClear (c : Cmd) (s : State) : Host.Outcome State Fault Refusal := .next (s.run specStageFaultClear c)
/-- `STAGE_EVENT_ACK` (R212). -/
def execStageEventAck (c : Cmd) (s : State) : Host.Outcome State Fault Refusal := .next (s.run specStageEventAck c)
/-- `STAGE_FLAGS_CLEAR` (R212). -/
def execStageFlagsClear (c : Cmd) (s : State) : Host.Outcome State Fault Refusal := .next (s.run specStageFlagsClear c)

end Sys2Proof.Machine
end

