-- ==== Sys2Proof/Machine/CmdFinaval.lean ====
section
/-! DEFINITION. Area 0x08: Finaval segments, nodes and schedule tables (R228-R230, R246-R271). -/

namespace Sys2Proof.Machine

/-! ### Services and stops -/

/-- R250: the masks of the positions present, in mismatch and absent. -/
def Seg.masks (s : Seg) : Bytes :=
  let m (st : Nat) : Nat := maskOf ((List.range 8).map (fun (p : Nat) => (s.node p).state == st))
  e8 (m 4) ++ e8 (m 5) ++ e8 (m 1)

/-- R271: the node command that asked for a service finishes. -/
def Dev.finishHost (d : Dev) (ring tag seq status detail : Nat) (result : Bytes) : Dev :=
  let hit (f : Flight) : Bool := f.stage == .hold && f.cmd.ring.val == ring && f.cmd.tag == tag && f.cmd.seq == seq
  let done := (d.nov.flights.filter hit).map (fun (f : Flight) =>
    { f with stage := Stage.post, hold := Hold.none, status := status, detail := detail, result := result })
  { d with nov := { d.nov with flights := d.nov.flights.filter (fun (f : Flight) => !hit f) ++ done } }

/-- R264, R271: a service is over. An axis whose node did not take its law is not enabled (DEDUCED, log entry 107). -/
def Dev.svcEnd (d : Dev) (v : Svc) (status detail : Nat) (result : Bytes) : Dev :=
  match v.who with
  | .host r t q => d.finishHost r t q status detail result
  | .law i =>
    let d := if status = ST.ok then d else d.axDisable i
    d.finishHold (fun (h : Hold) => h == .law i) status detail [] none
  | _ => d

/-- R257, R258: the services of a segment that a predicate picks end without their node. -/
def Dev.dropServices (d : Dev) (n : Nat) (p : Svc → Bool) : Dev :=
  let s := d.seg n
  let gone := ((match s.svc with | some v => [v] | none => []) ++ s.waiting).filter p
  let d := d.onSeg n (fun (s : Seg) =>
    { s with svc := s.svc.filter (fun (v : Svc) => !p v), waiting := s.waiting.filter (fun (v : Svc) => !p v) })
  gone.foldl (fun (d : Dev) (v : Svc) => d.svcEnd v ST.nodeAbsent 0 []) d

/-- R258: the positions of a segment that has stopped. -/
def Seg.clearNodes (s : Seg) : Seg :=
  { s with pos := s.pos.mapIdx (fun (p : Nat) (n : NodePos) => n.leave (if (s.suctionOf p).isSome then 1 else 0)) }

/-- R258: a segment is `STOPPED`; a start that still ran completes with the masks as they stood (DEDUCED, log entry 104). -/
def Dev.segStopped (d : Dev) (n : Nat) : Dev :=
  let s := d.seg n
  let d := d.dropServices n (fun _ => true)
  let d := d.finishHold (fun (h : Hold) => h == .segStart n) ST.ok 0 (s.masks ++ e8 0 ++ e32 s.sinceListen) none
  let d := d.onSeg n (fun (s : Seg) => { s.clearNodes.toState 0 with startReq := false, offLeft := 0, echo := none })
  d.finishHold (fun (h : Hold) => h == .segStop n) ST.ok 0 [] none

/-- R258: whether an axis bound to a node of segment `n` runs. -/
def Dev.segRuns (d : Dev) (n : Nat) : Bool :=
  d.axes.any (fun (a : Axis) => a.remote && a.node.1 == n && a.runs)

/-- R258, R271: a stop is accepted. Where nothing is sent yet the segment stops at once (DEDUCED, log entry 104). -/
def Dev.segStop (d : Dev) (n : Nat) : Dev :=
  if (d.seg n).state ≤ 1 then d.segStopped n
  else
    let d := d.dropServices n (fun _ => true)
    d.onSeg n (fun (s : Seg) => { s.toState 5 with offLeft := 2 })

/-! ### Segment commands -/

/-- `SEGMENT_CONFIGURE` (R271). -/
def specSegmentConfigure : Spec :=
  { op := 0x0801, rings := [2], len := exactly 4, classes := [0x03], right := .owner, timing := .latch
    values := fun c _ =>
      let p := c.payload
      firstFail [inRange (decide (u8 p 0 ≤ 1)) 0, inRange (decide (1 ≤ u8 p 1)) 1, rsv p 2 2]
    object := fun c d => need ((d.seg c.idx).state == 0) ST.cyclic 0
    apply := fun c d =>
      let p := c.payload
      (d.onSeg c.idx (fun (s : Seg) => { s with term := u8 p 0, busThr := u8 p 1 })).done }

/-- R250: the conditions of `SEGMENT_START`, in the order of the table. -/
def startObject (c : Cmd) (d : Dev) : Verdict :=
  let s := d.seg c.idx
  firstFail [
    need (s.state == 0 && !s.startReq) ST.busy (if s.state = 2 then s.backoffMs else 0),
    need s.table.isSome ST.badValue 0,
    need (s.entries.any (fun (e : SchEntry) => e.type == 4 && decide (49 ≤ e.len))) ST.budget (0x5000 + c.idx)]

/-- `SEGMENT_START` (R250). -/
def specSegmentStart : Spec :=
  { op := 0x0802, rings := [2], len := exactly 0, classes := [0x03], right := .owner, timing := .latch
    object := startObject
    apply := fun c d =>
      { dev := d.onSeg c.idx (fun (s : Seg) => { s with startReq := true }), hold := .segStart c.idx } }

/-- `SEGMENT_STOP` (R258, R271). -/
def specSegmentStop : Spec :=
  { op := 0x0803, rings := [1, 2], len := exactly 0, classes := [0x03], right := .owner, timing := .latch
    object := fun c d => need (!d.segRuns c.idx) ST.busy 0
    apply := fun c d =>
      let s := d.seg c.idx
      if (s.state = 0 ∧ s.startReq = false) ∨ s.state = 2 ∨ s.state = 5 then d.says ST.noChange
      else
        let e := d.segStop c.idx
        if (e.seg c.idx).state = 5 then { dev := e, hold := .segStop c.idx } else e.done }

/-- `SEGMENT_EVENT_ACK` (R270, R271). -/
def specSegmentEventAck : Spec :=
  { op := 0x0808, rings := [1, 2, 3], len := exactly 4, classes := [0x03], right := .owner, timing := .latch
    apply := fun c d => (d.ack (256 + c.idx) (u32 c.payload 0)).done }

/-! ### Node commands -/

/-- The position a node command names. -/
def Dev.target (d : Dev) (c : Cmd) : NodePos := (d.seg (c.idx / 8)).node (c.idx % 8)

/-- R271: no node command to a position that is `EMPTY` or `ABSENT`. -/
def nodeThere (c : Cmd) (d : Dev) : Verdict := need (decide (2 ≤ (d.target c).state)) ST.nodeAbsent 0

/-- R263: a service of the host, which waits for its windows. -/
def Dev.askNode (d : Dev) (c : Cmd) (service space offset left : Nat) (data : Bytes) : Eff :=
  let v : Svc :=
    { pos := c.idx % 8, who := .host c.ring.val c.tag c.seq, service := service, space := space, offset := offset
      left := left, data := data, got := [], repeats := 0, limit := 0, sent := 0, asked := false }
  { dev := d.onSeg (c.idx / 8) (fun (s : Seg) => { s with waiting := s.waiting ++ [v] }), hold := .service (c.idx / 8) }

/-- R271: a cached read. -/
def readCached (c : Cmd) : Bool := bit (u8 c.payload 1) 0

/-- `NODE_READ` (R261, R264, R271). Where the cache holds no record there is no node to read (DEDUCED, log entry 108). -/
def specNodeRead : Spec :=
  { op := 0x0804, rings := [1, 2, 3], len := exactly 8, classes := [0x04], right := .own, timing := .latch
    rights := fun c d =>
      need (match d.holder c.cls c.idx with
        | some k => d.owns c.port.val k || (readCached c && d.observes c.port.val k)
        | none => false) ST.notOwner 0
    values := fun c _ =>
      let p := c.payload
      firstFail [
        inRange (decide (u8 p 0 ≤ 2) && !(readCached c && u8 p 0 != 0)) 0, need (decide (u8 p 1 ≤ 1)) ST.reserved 0,
        inRange (decide (1 ≤ u16 p 4) && decide (u16 p 4 ≤ 4072)) 4, rsv p 6 2]
    object := fun c d => firstFail [nodeThere c d,
      need (!readCached c || (d.idents.getD c.idx none).isSome) ST.nodeAbsent 0]
    apply := fun c d =>
      let p := c.payload
      if readCached c then d.reply ((((d.idents.getD c.idx none).getD []).drop (u16 p 2)).take (u16 p 4))
      else d.askNode c 1 (u8 p 0) (u16 p 2) (u16 p 4) [] }

/-- `NODE_WRITE` (R264, R271). -/
def specNodeWrite : Spec :=
  { op := 0x0805, rings := [2], len := fun (n : Nat) => decide (5 ≤ n) && decide (n ≤ 4076), classes := [0x04], right := .owner
    timing := .latch
    values := fun c _ => firstFail [inRange (u8 c.payload 0 == 2) 0, rsv c.payload 1 1]
    object := nodeThere
    apply := fun c d => d.askNode c 2 2 (u16 c.payload 2) 0 (c.payload.drop 4) }

/-- `NODE_ACTION` (R264, R271). -/
def specNodeAction : Spec :=
  { op := 0x0806, rings := [1, 2], len := exactly 4, classes := [0x04], right := .owner, timing := .latch
    values := fun c _ =>
      let p := c.payload
      firstFail [inRange ([1, 3, 4].contains (u8 p 0)) 0, inRange (u8 p 0 != 3 || decide (u8 p 1 ≤ 1)) 1, rsv p 2 2]
    object := fun c d => firstFail [nodeThere c d,
      need (!(u8 c.payload 0 == 4 &&
        d.axes.any (fun (a : Axis) => a.remote && 8 * a.node.1 + a.node.2.1 == c.idx && a.runs))) ST.busy 0]
    apply := fun c d => d.askNode c 4 0 0 0 (c.payload.take 4) }

/-- `NODE_ACCEPT` (R262, R271). -/
def specNodeAccept : Spec :=
  { op := 0x0807, rings := [2], len := exactly 0, classes := [0x04], right := .owner, timing := .latch
    object := nodeThere
    apply := fun c d =>
      let n := d.target c
      match n.state == 5, n.record with
      | true, some r =>
        if identValid r then
          (d.onSeg (c.idx / 8) (fun (s : Seg) =>
            s.onNode (c.idx % 8) (fun (n : NodePos) => { n with reference := some r, state := 4 }))).done
        else d.says ST.noChange
      | _, _ => d.says ST.noChange }

/-! ### Schedule tables and counters -/

/-- R246: the explicit entries of a `SCHEDULE_WRITE` payload. -/
def schedEntries (p : Bytes) : List SchEntry :=
  (List.range (u8 p 0)).map (fun (k : Nat) =>
    let o := 4 + 8 * k
    ⟨u16 p o, u16 p (o + 2), u8 p (o + 4), u8 p (o + 5), u8 p (o + 6), u8 p (o + 7)⟩)

/-- R246: the axis counts of an automatic `SCHEDULE_WRITE`. -/
def schedCounts (p : Bytes) : List Nat := (List.range 8).map (fun (k : Nat) => u8 p (4 + k))

/-- R228, R230: the table of a `SCHEDULE_WRITE` payload. -/
def Dev.schedTable (d : Dev) (p : Bytes) : SchTable :=
  if bit (u8 p 1) 0 then ⟨true, schedCounts p, autoTable d.stk.cfg (schedCounts p)⟩ else ⟨false, [], schedEntries p⟩

/-- R247: the values of `SCHEDULE_WRITE`. -/
def schedFault (c : Cmd) (d : Dev) : Verdict :=
  let p := c.payload
  firstFail ([need (decide (u8 p 1 ≤ 1)) ST.reserved 0, rsv p 2 2] ++
    (if bit (u8 p 1) 0 then
      inRange (u8 p 0 == 0) 0 :: (List.range 8).map (fun (k : Nat) => inRange (decide (u8 p (4 + k) ≤ 2)) (4 + k))
    else
      [ inRange (decide (u8 p 0 ≤ 32)) 0,
        (match tableFault d.stk.cfg (schedEntries p) with
         | some k => some (ST.badValue, 4 + 8 * k)
         | none => none) ]))

/-- R228: a table put in force. -/
def Seg.setTable (s : Seg) (t : SchTable) : Seg :=
  ({ s with table := some t, ver := (s.ver + 1) % 256 } : Seg).clearNodes

/-- `SCHEDULE_WRITE` (R228, R230, R246, R247). -/
def specScheduleWrite : Spec :=
  { op := 0x0880, rings := [2], len := fun (n : Nat) => decide (4 ≤ n), classes := [0x03], right := .owner, timing := .latch
    form := fun c => need (c.payload.length == if bit (u8 c.payload 1) 0 then 12 else 4 + 8 * u8 c.payload 0) ST.badLength 0
    values := schedFault
    object := fun c d => need ((d.seg c.idx).state == 0) ST.cyclic 0
    budget := fun c d => (d.onSeg c.idx (fun (s : Seg) => s.setTable (d.schedTable c.payload))).budgetCheck
    apply := fun c d =>
      let d := d.onSeg c.idx (fun (s : Seg) => s.setTable (d.schedTable c.payload))
      let s := d.seg c.idx
      let es := s.entries
      d.reply (e8 s.ver ++ e8 0 ++ e16 (sucUsed es) ++ e16 (disUsed es) ++ e16 (slackUsed es)) }

/-- R228: an entry as it is written. -/
def SchEntry.bytes (e : SchEntry) : Bytes := e16 e.start ++ e16 e.len ++ e8 e.type ++ e8 e.pos ++ e8 e.dir ++ e8 e.axes

/-- `SCHEDULE_READ` (R246). -/
def specScheduleRead : Spec :=
  { op := 0x0881, rings := [1, 2, 3], len := exactly 0, classes := [0x03], right := .observer, timing := .now
    apply := fun c d =>
      let s := d.seg c.idx
      let auto := match s.table with | some t => t.auto | none => false
      d.reply (e8 s.entries.length ++ e8 (b2n auto) ++ e8 s.ver ++ e8 0 ++ s.entries.flatMap SchEntry.bytes) }

/-- `BUS_COUNTERS_READ` (R246). -/
def specBusCountersRead : Spec :=
  { op := 0x0882, rings := [1, 2, 3], len := exactly 4, classes := [0x03], right := .observer, timing := .now
    values := fun c _ => byteField c.payload (decide (u8 c.payload 0 ≤ 7))
    apply := fun c d =>
      let n := (d.seg c.idx).node (u8 c.payload 0)
      d.reply (n.counters.flatMap e32 ++ e16 (n.delay.getD 0xFFFF) ++ e16 (n.candidate.getD 0xFFFF)) }

/-- `BUS_COUNTERS_CLEAR` (R245, R246). -/
def specBusCountersClear : Spec :=
  { op := 0x0883, rings := [1, 2, 3], len := exactly 0, classes := [0x03], right := .owner, timing := .latch
    apply := fun c d =>
      (d.onSeg c.idx (fun (s : Seg) =>
        { s with
          pos := s.pos.map (fun (n : NodePos) => { n with counters := List.replicate 8 0 })
          delayJump := 0, guardBlock := 0, spanBase := 0 })).done }

/-- `SEGMENT_CONFIGURE` (R271). -/
def execSegmentConfigure (c : Cmd) (s : State) : Host.Outcome State Fault Refusal := .next (s.run specSegmentConfigure c)
/-- `SEGMENT_START` (R250). -/
def execSegmentStart (c : Cmd) (s : State) : Host.Outcome State Fault Refusal := .next (s.run specSegmentStart c)
/-- `SEGMENT_STOP` (R258). -/
def execSegmentStop (c : Cmd) (s : State) : Host.Outcome State Fault Refusal := .next (s.run specSegmentStop c)
/-- `NODE_READ` (R271). -/
def execNodeRead (c : Cmd) (s : State) : Host.Outcome State Fault Refusal := .next (s.run specNodeRead c)
/-- `NODE_WRITE` (R271). -/
def execNodeWrite (c : Cmd) (s : State) : Host.Outcome State Fault Refusal := .next (s.run specNodeWrite c)
/-- `NODE_ACTION` (R271). -/
def execNodeAction (c : Cmd) (s : State) : Host.Outcome State Fault Refusal := .next (s.run specNodeAction c)
/-- `NODE_ACCEPT` (R271). -/
def execNodeAccept (c : Cmd) (s : State) : Host.Outcome State Fault Refusal := .next (s.run specNodeAccept c)
/-- `SEGMENT_EVENT_ACK` (R271). -/
def execSegmentEventAck (c : Cmd) (s : State) : Host.Outcome State Fault Refusal := .next (s.run specSegmentEventAck c)
/-- `SCHEDULE_WRITE` (R246). -/
def execScheduleWrite (c : Cmd) (s : State) : Host.Outcome State Fault Refusal := .next (s.run specScheduleWrite c)
/-- `SCHEDULE_READ` (R246). -/
def execScheduleRead (c : Cmd) (s : State) : Host.Outcome State Fault Refusal := .next (s.run specScheduleRead c)
/-- `BUS_COUNTERS_READ` (R246). -/
def execBusCountersRead (c : Cmd) (s : State) : Host.Outcome State Fault Refusal := .next (s.run specBusCountersRead c)
/-- `BUS_COUNTERS_CLEAR` (R246). -/
def execBusCountersClear (c : Cmd) (s : State) : Host.Outcome State Fault Refusal := .next (s.run specBusCountersClear c)

end Sys2Proof.Machine
end

