-- ==== Sys2Proof/Machine/CmdArm.lean ====
section
/-! DEFINITION. Area 0x09: arms, yards, zones and claims (R274-R278, R288-R300, R305, R306). -/

namespace Sys2Proof.Machine

/-- A failing field, by its offset. -/
def badAt (o : Option Nat) : Verdict := o.map (fun (o : Nat) => (ST.badValue, o))

/-- A change of the description of an arm, accepted only in `DISABLED` (R274, R275, R306). -/
def armAtRest (c : Cmd) (d : Dev) : Verdict := need ((d.arm c.idx).state == 0 && !(d.arm c.idx).enabling) ST.busy 0

/-- The length of a list of `n` entries of `size` bytes behind a header. -/
def listForm (head size : Nat) (c : Cmd) : Verdict := need (c.payload.length == head + size * u8 c.payload 0) ST.badLength 0

/-- `ARM_CONFIGURE` (R274). -/
def specArmConfigure : Spec :=
  { op := 0x0901, rings := [2], len := fun (n : Nat) => decide (72 ≤ n), classes := [0x02], right := .owner, timing := .latch
    form := listForm 72 216
    values := fun c _ => firstFail ([badAt (armCfgFault c.payload), rsv c.payload 1 7] ++
      (List.range (u8 c.payload 0)).map (fun (j : Nat) => rsv c.payload (72 + 216 * j + 5) 3))
    object := armAtRest
    apply := fun c d => (d.onArm c.idx (fun (m : Arm) => { m with cfg := some (armCfgOf c.payload) })).done }

/-- The joints of an arm; 9 where none is configured (DEDUCED, log entry 140). -/
def Arm.jointCount (m : Arm) : Nat := match m.cfg with | some g => g.joints.length | none => 9

/-- `ARM_CAPSULES` (R275, R306). -/
def specArmCapsules : Spec :=
  { op := 0x0902, rings := [2], len := fun (n : Nat) => decide (8 ≤ n), classes := [0x02], right := .owner, timing := .latch
    form := listForm 8 64
    values := fun c d => firstFail ([badAt (capsulesFault c.payload (d.arm c.idx).jointCount), rsv c.payload 1 7] ++
      (List.range (u8 c.payload 0)).map (fun (j : Nat) => rsv c.payload (8 + 64 * j + 2) 6))
    object := armAtRest
    apply := fun c d => (d.onArm c.idx (fun (m : Arm) => { m with capsules := capsulesOf c.payload })).done }

/-- `ARM_TOOLS` (R276, R306). -/
def specArmTools : Spec :=
  { op := 0x0903, rings := [2], len := fun (n : Nat) => decide (8 ≤ n), classes := [0x02], right := .owner, timing := .latch
    form := listForm 8 96
    values := fun c _ => firstFail ([badAt (toolsFault c.payload), rsv c.payload 1 7] ++
      (List.range (u8 c.payload 0)).map (fun (j : Nat) => rsv c.payload (8 + 96 * j + 1) 7))
    object := armAtRest
    apply := fun c d => (d.onArm c.idx (fun (m : Arm) => { m with tools := some (toolsOf c.payload) })).done }

/-- `ARM_STOP_MODEL` (R277, R306). -/
def specArmStopModel : Spec :=
  { op := 0x0904, rings := [2], len := fun (n : Nat) => decide (8 ≤ n), classes := [0x02], right := .owner, timing := .latch
    form := fun c => need (c.payload.length == stopModelLen (u8 c.payload 0) (u8 c.payload 1)) ST.badLength 0
    values := fun c _ => firstFail [badAt (stopModelFault c.payload), rsv c.payload 2 6]
    object := armAtRest
    apply := fun c d => (d.onArm c.idx (fun (m : Arm) => { m with model := some (stopModelOf c.payload) })).done }

/-! ### Enabling -/

/-- R278: the conditions of an enable, in the order of the table. -/
def Dev.armReady (d : Dev) (k : Nat) : Verdict :=
  let m := d.arm k
  let js := match m.cfg with | some g => g.joints | none => []
  firstFail [
    need (m.cfg.isSome && m.tools.isSome && m.model.isSome) ST.armNotConfigured 0,
    need (js.all (fun (j : Joint) =>
      d.owner 0x01 j.axis == d.owner 0x02 k && (d.armOf j.axis).isNone && !d.jointSoon j.axis)) ST.owned 0,
    need (js.all (fun (j : Joint) => (d.ax j.axis).state == 4 && d.sourceFree j.axis)) ST.modeConflict 0,
    firstFail (js.flatMap (fun (j : Joint) => d.safRefusals j.axis true)),
    need ((d.safArm k).sto == false) ST.stoActive 0,
    (js.findIdx? (fun (j : Joint) => !j.inRange (d.fb j.axis).pAct)).map (fun (n : Nat) => (ST.jointRange, n))]

/-- R278, R300: an arm is disabled; the zones it does not touch are released. -/
def Dev.armDisable (d : Dev) (k : Nat) : Dev :=
  let out (z : Nat) : Bool := !d.armTouches k z
  let d := (d.arm k).axes.foldl (fun (d : Dev) (i : Nat) =>
    if (d.pf i).source = 5 then d.onPf i (fun (p : Pf) => { (p.rest p.cmd) with source := 0, vel := 0 }) else d) (d.skip 1)
  let d := { d with
    claims := d.claims.filter (fun (c : ClaimReq) => c.who != k)
    zones := d.zones.mapIdx (fun (z : Nat) (x : Zone) => if x.holder = some k ∧ out z then { x with holder := none } else x) }
  d.onArm k (fun (m : Arm) =>
    { m with
      state := 0, stop := 0, spans := [], rate := 0, target := 0, tau := 0, segId := 0, faultCode := 0, releasing := false
      resuming := false, claimWait := false, yardLimited := false, protective := false, standstill := false })

/-- `ARM_ENABLE` (R278, R300). -/
def specArmEnable : Spec :=
  { op := 0x0905, rings := [2], len := exactly 4, classes := [0x02], right := .owner, timing := .plan
    values := fun c _ => byteField c.payload (decide (u8 c.payload 0 ≤ 1))
    object := fun c d =>
      let m := d.arm c.idx
      if u8 c.payload 0 = 1 then (if m.state ≠ 0 ∨ m.enabling = true then none else d.armReady c.idx)
      else need (m.state == 0 || ((m.state == 1 || m.state == 4 || m.state == 5) && m.standstill)) ST.busy 0
    budget := fun c d =>
      if u8 c.payload 0 = 1 then (d.onArm c.idx (fun (m : Arm) => { m with state := if m.state = 0 then 1 else m.state })).budgetCheck
      else none
    apply := fun c d =>
      let m := d.arm c.idx
      if u8 c.payload 0 = 1 then
        (if m.state ≠ 0 ∨ m.enabling = true then d.says ST.noChange
        else { dev := d.onArm c.idx (fun (m : Arm) => { m with enabling := true }), hold := .stroke })
      else if m.state = 0 ∧ m.enabling = false then d.says ST.noChange
      else { dev := (d.armDisable c.idx).onArm c.idx (fun (m : Arm) => { m with enabling := false }), hold := .stroke } }

/-! ### The yard and the path -/

/-- R289: a ring of 64 to 65,536 records, a power of two. -/
def yardEntries (n : Nat) : Bool := (List.range 11).any (fun (k : Nat) => n == 2 ^ (k + 6))

/-- `YARD_CONFIGURE` (R289, R305). A ring in host memory is for H0 and H1. -/
def specYardConfigure : Spec :=
  { op := 0x0906, rings := [2], len := exactly 24, classes := [0x02], right := .owner, timing := .latch
    values := fun c _ =>
      let p := c.payload
      let ring := u8 p 0 == 0
      firstFail [
        inRange (decide (u8 p 0 ≤ 1) && !(ring && decide (2 ≤ c.port.val))) 0, rsv p 1 1,
        inRange (decide (64 ≤ u16 p 2) && decide (u16 p 2 ≤ 1024)) 2, inRange (decide (u16 p 4 < u16 p 2)) 4, rsv p 6 2,
        inRange (!ring || yardEntries (u32 p 8)) 8, rsv p 12 4, inRange (!ring || u64 p 16 % 4096 == 0) 16]
    object := fun c d =>
      let m := d.arm c.idx
      need ((m.yard.state == 0 || m.yard.state == 2) && m.state != 2) ST.busy 0
    apply := fun c d =>
      let p := c.payload
      (d.onArm c.idx (fun (m : Arm) =>
        { m with yard := { m.yard with
            loc := u8 p 0, high := u16 p 2, low := u16 p 4, entries := u32 p 8, base := u64 p 16, head := 0, tail := 0
            segs := [], checked := 0 } })).done }

/-- R59: a stop category or `HALT` is in force on an arm. -/
def Arm.stopped (m : Arm) : Bool := m.stop != 0 && m.stop != 2

/-- R289: the records of a `YARD_APPEND` payload. -/
def yardRecords (p : Bytes) : List Bytes := (List.range (u8 p 0)).map (fun (k : Nat) => slice p (8 + 160 * k) 160)

/-- `YARD_APPEND` (R289, R292, R305). A flushed yard, or one in error, takes no segments (DEDUCED, log entry 137). -/
def specYardAppend : Spec :=
  { op := 0x0907, rings := [1], len := fun (n : Nat) => decide (8 ≤ n), classes := [0x02], right := .owner, timing := .latch
    form := listForm 8 160
    values := fun c _ => firstFail [inRange (decide (1 ≤ u8 c.payload 0) && decide (u8 c.payload 0 ≤ 25)) 0, rsv c.payload 1 7]
    object := fun c d =>
      let m := d.arm c.idx
      firstFail [need (!m.stopped) ST.stopLatched 0, need (m.yard.loc == 1 && decide (m.yard.state ≤ 1)) ST.modeConflict 0]
    resource := fun c d => need (decide ((d.arm c.idx).yard.segs.length + u8 c.payload 0 ≤ 1024)) ST.noMemory 0
    apply := fun c d =>
      let d := d.onArm c.idx (fun (m : Arm) =>
        { m with yard := { m.yard with segs := m.yard.segs ++ yardRecords c.payload, state := 1 } })
      d.reply (e16 (d.arm c.idx).yard.segs.length ++ e16 0) }

/-- `ARM_PATH_RESET` (R292). -/
def specArmPathReset : Spec :=
  { op := 0x0908, rings := [1, 2], len := exactly 4, classes := [0x02], right := .owner, timing := .latch
    object := fun c d =>
      let m := d.arm c.idx
      firstFail [need (!m.stopped) ST.stopLatched 0, need (m.state == 1 || m.state == 4) ST.busy 0]
    apply := fun c d =>
      (d.onArm c.idx (fun (m : Arm) =>
        { m with errSeg := 0, yard := { m.yard with segs := [], checked := 0, state := 0, head := u32 c.payload 0 } })).done }

/-- `ARM_OVERRIDE` (R288). -/
def specArmOverride : Spec :=
  { op := 0x0909, rings := [1], len := exactly 4, classes := [0x02], right := .owner, timing := .plan
    values := fun c _ => firstFail [inRange (decide (u16 c.payload 0 ≤ 1500)) 0, rsv c.payload 2 2]
    apply := fun c d => { dev := d.onArm c.idx (fun (m : Arm) => { m with override := u16 c.payload 0 }), hold := .stroke } }

/-- `ARM_PAYLOAD` (R276, R277). -/
def specArmPayload : Spec :=
  { op := 0x090A, rings := [1, 2], len := exactly 8, classes := [0x02], right := .owner, timing := .plan
    values := fun c d =>
      let w := u64 c.payload 0
      let top := match (d.arm c.idx).model with | some s => s.payloads.getLast? | none => none
      inRange (fpNonneg w && (match top with | some t => fpLeq w t | none => true)) 0
    apply := fun c d => { dev := d.onArm c.idx (fun (m : Arm) => { m with payload := u64 c.payload 0 }), hold := .stroke } }

/-! ### Zones -/

/-- A zone is held or requested. -/
def Dev.zoneBusy (d : Dev) (z : Nat) : Bool := (d.zone z).holder.isSome || d.claims.any (fun (r : ClaimReq) => r.who != 9 && bit r.zones z)

/-- R295: a zone defined. -/
def Dev.defineZone (d : Dev) (z : Nat) (p : Bytes) : Dev :=
  d.onZone z (fun (x : Zone) =>
    { x with
      defined := true, margin := u64 p 8
      planes := (List.range (u8 p 0)).map (fun (k : Nat) => fpWords p (16 + 32 * k) 4) })

/-- `ZONE_DEFINE` (R295, R306). -/
def specZoneDefine : Spec :=
  { op := 0x090B, rings := [2], len := fun (n : Nat) => decide (16 ≤ n), classes := [0x14], right := .owner, timing := .latch
    form := listForm 16 32
    values := fun c _ => firstFail [badAt (zoneFault c.payload), rsv c.payload 1 7]
    object := fun c d => need (!d.zoneBusy c.idx) ST.busy 0
    budget := fun c d => (d.defineZone c.idx c.payload).budgetCheck
    apply := fun c d => (d.defineZone c.idx c.payload).done }

/-- R299, R306: the compartment of a claim is that of the packet (DEDUCED, log entry 138). -/
def hostRight (c : Cmd) (d : Dev) : Verdict := need (d.owns c.port.val c.comp) ST.notOwner 0

/-- R388: no claim while the compartment migrates. -/
def hostMigrates (c : Cmd) (d : Dev) : Verdict := need ((d.comp c.comp).state != 3) ST.migrating 0

/-- R306: the zones of a mask belong to the compartment. -/
def zonesOwned (c : Cmd) (d : Dev) : Verdict :=
  need ((bitsSet (u64 c.payload 0) 64).all (fun (z : Nat) => d.owner 0x14 z == some c.comp)) ST.owned 0

/-- R299: the zones the host of a compartment holds. -/
def Dev.hostZones (d : Dev) (k : Nat) : Nat :=
  maskOf ((List.range 64).map (fun (z : Nat) => (d.zone z).holder == some 8 && d.owner 0x14 z == some k))

/-- `ZONE_CLAIM` (R299, R306). A second claim while one waits is refused as busy (DEDUCED, log entry 138). -/
def specZoneClaim : Spec :=
  { op := 0x090C, rings := [1, 2], len := exactly 8, classes := [0x14], right := .own, timing := .latch, exempt := true
    rights := hostRight
    values := fun c _ => inRange (u64 c.payload 0 != 0) 0
    object := fun c d => firstFail [hostMigrates c d, need (d.hostZones c.comp == 0) ST.zoneHeld 0,
      need (!d.claims.any (fun (r : ClaimReq) =>
        r.who == 8 && (bitsSet r.zones 64).any (fun (z : Nat) => d.owner 0x14 z == some c.comp))) ST.busy 0]
    resource := zonesOwned
    apply := fun c d =>
      { dev := { d with claims := d.claims ++ [⟨8, u64 c.payload 0, d.stk.number / d.cyc, false⟩] }, hold := .zone c.comp } }

/-- `ZONE_RELEASE` (R299, R306). -/
def specZoneRelease : Spec :=
  { op := 0x090D, rings := [1, 2], len := exactly 8, classes := [0x14], right := .own, timing := .latch, exempt := true
    rights := hostRight
    object := hostMigrates
    resource := zonesOwned
    apply := fun c d =>
      let mine := u64 c.payload 0 &&& d.hostZones c.comp
      if mine = 0 then d.says ST.noChange
      else ({ d with claims := d.claims ++ [⟨9, mine, d.stk.number / d.cyc, false⟩] } : Dev).done }

/-- `ZONE_FORCE_RELEASE` (R300). -/
def specZoneForceRelease : Spec :=
  { op := 0x090E, rings := [2], len := exactly 0, classes := [0x14], right := .owner, timing := .latch
    apply := fun c d =>
      match (d.zone c.idx).holder with
      | none => d.says ST.noChange
      | some w =>
        let d := d.onZone c.idx (fun (x : Zone) => { x with holder := none })
        if 8 ≤ w then d.done
        else
          let touch := d.armTouches w c.idx
          let d := (d.skip 1).onArm w (fun (m : Arm) => { m with flags := setBit m.flags 2 })
          (if touch then d.strengthenArm w 1 else d).done }

/-! ### Faults and queries -/

/-- `ARM_FAULT_CLEAR` (R294). -/
def specArmFaultClear : Spec :=
  { op := 0x090F, rings := [1, 2], len := exactly 0, classes := [0x02], right := .owner, timing := .latch
    object := fun c d =>
      let m := d.arm c.idx
      need (m.state != 5 || (m.standstill && m.axes.all (fun (i : Nat) => (d.ax i).state == 4 && !(d.ax i).torqueOff))) ST.causeActive 0
    apply := fun c d =>
      let m := d.arm c.idx
      if m.state ≠ 5 then d.says ST.noChange
      else
        let d := m.axes.foldl (fun (d : Dev) (i : Nat) =>
          d.onPf i (fun (p : Pf) => { (p.rest p.cmd) with source := 5, ramp := none, vel := 0 })) d
        (d.onArm c.idx (fun (m : Arm) => { m with state := 1, faultCode := 0, quick := false })).done }

/-- `ARM_EVENT_ACK` (R304). -/
def specArmEventAck : Spec :=
  { op := 0x0910, rings := [1, 2, 3], len := exactly 4, classes := [0x02], right := .owner, timing := .latch
    apply := fun c d => (d.ack (272 + c.idx) (u32 c.payload 0)).done }

/-- `ARM_FLAGS_CLEAR` (R304). -/
def specArmFlagsClear : Spec :=
  { op := 0x0911, rings := [1, 2, 3], len := exactly 0, classes := [0x02], right := .owner, timing := .latch
    apply := fun c d => (d.onArm c.idx (fun (m : Arm) => { m with flags := 0 })).done }

/-- `ARM_QUERY` (R305). -/
def specArmQuery : Spec :=
  { op := 0x0912, rings := [1, 2, 3], len := exactly 0, classes := [0x02], right := .observer, timing := .now
    apply := fun c d =>
      let m := d.arm c.idx
      let age := match d.claims.find? (fun (r : ClaimReq) => r.who == c.idx) with
        | some r => d.stk.number / d.cyc - r.since
        | none => 0
      d.reply (e32 m.flags ++ e16 (m.spans.length - 1) ++ e16 m.yard.segs.length ++ e32 age) }

/-- `ARM_CONFIGURE` (R274). -/
def execArmConfigure (c : Cmd) (s : State) : Host.Outcome State Fault Refusal := .next (s.run specArmConfigure c)
/-- `ARM_CAPSULES` (R275). -/
def execArmCapsules (c : Cmd) (s : State) : Host.Outcome State Fault Refusal := .next (s.run specArmCapsules c)
/-- `ARM_TOOLS` (R276). -/
def execArmTools (c : Cmd) (s : State) : Host.Outcome State Fault Refusal := .next (s.run specArmTools c)
/-- `ARM_STOP_MODEL` (R277). -/
def execArmStopModel (c : Cmd) (s : State) : Host.Outcome State Fault Refusal := .next (s.run specArmStopModel c)
/-- `ARM_ENABLE` (R278). -/
def execArmEnable (c : Cmd) (s : State) : Host.Outcome State Fault Refusal := .next (s.run specArmEnable c)
/-- `YARD_CONFIGURE` (R289). -/
def execYardConfigure (c : Cmd) (s : State) : Host.Outcome State Fault Refusal := .next (s.run specYardConfigure c)
/-- `YARD_APPEND` (R289). -/
def execYardAppend (c : Cmd) (s : State) : Host.Outcome State Fault Refusal := .next (s.run specYardAppend c)
/-- `ARM_PATH_RESET` (R292). -/
def execArmPathReset (c : Cmd) (s : State) : Host.Outcome State Fault Refusal := .next (s.run specArmPathReset c)
/-- `ARM_OVERRIDE` (R288). -/
def execArmOverride (c : Cmd) (s : State) : Host.Outcome State Fault Refusal := .next (s.run specArmOverride c)
/-- `ARM_PAYLOAD` (R277). -/
def execArmPayload (c : Cmd) (s : State) : Host.Outcome State Fault Refusal := .next (s.run specArmPayload c)
/-- `ZONE_DEFINE` (R295). -/
def execZoneDefine (c : Cmd) (s : State) : Host.Outcome State Fault Refusal := .next (s.run specZoneDefine c)
/-- `ZONE_CLAIM` (R299). -/
def execZoneClaim (c : Cmd) (s : State) : Host.Outcome State Fault Refusal := .next (s.run specZoneClaim c)
/-- `ZONE_RELEASE` (R299). -/
def execZoneRelease (c : Cmd) (s : State) : Host.Outcome State Fault Refusal := .next (s.run specZoneRelease c)
/-- `ZONE_FORCE_RELEASE` (R300). -/
def execZoneForceRelease (c : Cmd) (s : State) : Host.Outcome State Fault Refusal := .next (s.run specZoneForceRelease c)
/-- `ARM_FAULT_CLEAR` (R294). -/
def execArmFaultClear (c : Cmd) (s : State) : Host.Outcome State Fault Refusal := .next (s.run specArmFaultClear c)
/-- `ARM_EVENT_ACK` (R304). -/
def execArmEventAck (c : Cmd) (s : State) : Host.Outcome State Fault Refusal := .next (s.run specArmEventAck c)
/-- `ARM_FLAGS_CLEAR` (R304). -/
def execArmFlagsClear (c : Cmd) (s : State) : Host.Outcome State Fault Refusal := .next (s.run specArmFlagsClear c)
/-- `ARM_QUERY` (R305). -/
def execArmQuery (c : Cmd) (s : State) : Host.Outcome State Fault Refusal := .next (s.run specArmQuery c)

end Sys2Proof.Machine
end

