-- ==== Sys2Proof/Machine/CmdSafety.lean ====
section
/-! DEFINITION. Area 0x0A: the configuration of the safety channels, its commit, the safety message (R310-R314,
R329-R340). -/

namespace Sys2Proof.Machine

/-! ### What the configuration commands share -/

/-- R314: the activation codes. -/
def actCode (a : Nat) : Bool := decide (a ≤ 1) || (decide (0x10 ≤ a) && decide (a ≤ 0x2E))

/-- R314, R330: an activation code a function may take: no reset input. -/
def Dev.actOk (d : Dev) (a : Nat) : Bool := actCode a && !(decide (0x10 ≤ a) && decide (a < 0x20) && (d.safIn (a - 0x10)).kind == 1)

/-- The activation codes of `n` functions at offset `o`. -/
def Dev.actsFault (d : Dev) (p : Bytes) (o n : Nat) : List Verdict :=
  (List.range n).map (fun (k : Nat) => inRange (d.actOk (u8 p (o + k))) (o + k))

/-- R314: an activation code names no input of another compartment. -/
def Dev.actOwned (d : Dev) (k : Option Nat) (a : Nat) : Bool := !(decide (0x10 ≤ a) && decide (a < 0x20)) || d.owner 0x0B (a - 0x10) == k

/-- R337: an axis is at rest for a change of its safety configuration. -/
def Dev.axisRests (d : Dev) (i : Nat) : Bool := decide ((d.ax i).state ≤ 1)
/-- R337: an arm is at rest for a change of its safety configuration. -/
def Dev.armRests (d : Dev) (k : Nat) : Bool := (d.arm k).state == 0 || ((d.arm k).state == 1 && (d.arm k).standstill)

/-- R337: every axis and arm of a compartment that a predicate picks is at rest. -/
def Dev.restAll (d : Dev) (k : Nat) (ax arm : Nat → Bool) : Verdict :=
  need ((d.holds 0x01 k).all (fun (i : Nat) => !ax i || d.axisRests i) && (d.holds 0x02 k).all (fun (j : Nat) => !arm j || d.armRests j))
    ST.busy 0

/-- R337: a change marks the compartment uncommitted. -/
def Dev.uncommit (d : Dev) (k : Option Nat) : Dev :=
  match k with | some k => d.onSafCmp k (fun (c : SafCmp) => { c with committed := false }) | none => d

/-- R340: `SAFETY_QUERY` and `SAFETY_EVENT_ACK` are open to owner, observer and stop-right ports. -/
def safetyRight (c : Cmd) (d : Dev) : Verdict :=
  let p := c.port.val
  need (d.observes p c.idx || d.stops p c.idx || (d.comp c.idx).state == 0) ST.notOwner 0

/-! ### Configuration -/

/-- R340: the values of `SAFETY_AXIS_CONFIGURE`. -/
def safAxFault (c : Cmd) (d : Dev) : Verdict :=
  let p := c.payload
  let src := u8 p 0
  let f := (d.fb c.idx).cfg
  let same : Bool := (d.fb c.idx).configured && u8 p 1 == f.index && f.source == src && (src == 1 || src == 2)
  firstFail ([
    inRange (([0, 1, 2, 0xFF].contains src) && !same) 0,
    inRange (match src with | 1 => decide (u8 p 1 ≤ 7) | 2 => decide (u8 p 1 ≤ 22) | _ => true) 1,
    inRange (decide (u8 p 2 ≤ 3) || u8 p 2 == 0xFF) 2, need (decide (u8 p 3 < 16)) ST.reserved 0,
    inRange (decide (1 ≤ u32 p 4)) 4, inRange (decide (1 ≤ u32 p 8)) 8] ++ d.actsFault p 12 5 ++ [
    rsv p 17 3, inRange (decide (10 ≤ u32 p 20) && decide (u32 p 20 ≤ 10000)) 20, inRange (decide (1 ≤ u64 p 24)) 24,
    inRange (decide (1 ≤ u64 p 32)) 32, inRange (decide (1 ≤ u32 p 40) && decide (u32 p 40 ≤ 64)) 40, rsv p 44 4,
    inRange (decide (0 < i64 p 48)) 48, inRange (decide (i64 p 56 < i64 p 64)) 64])

/-- R340: the fields of a `SAFETY_AXIS_CONFIGURE` payload. -/
def safAxOf (p : Bytes) : SafAxCfg :=
  { bSource := u8 p 0, bIndex := u8 p 1, stoOut := u8 p 2, flags := u8 p 3, bNum := u32 p 4, bDen := u32 p 8
    acts := (List.range 5).map (fun (k : Nat) => u8 p (12 + k)), ss1Ms := u32 p 20, posTol := u64 p 24, velTol := u64 p 32
    disc := u32 p 40, sls := i64 p 48, slpMin := i64 p 56, slpMax := i64 p 64, sdiTol := u64 p 72 }

/-- R310: the secondary source can be used: a source for SLS, SLP and SDI, and a second count at the node. -/
def Dev.secondaryOk (d : Dev) (i : Nat) (p : Bytes) : Bool :=
  let wants := (List.range 3).any (fun (k : Nat) => u8 p (14 + k) != 1)
  match u8 p 0 with
  | 0xFF => !wants
  | 0 =>
    let a := d.ax i
    a.remote && (match d.idents.getD (8 * a.node.1 + a.node.2.1) none with | some r => bit (identFlags r) 0 | none => false)
  | _ => true

/-- `SAFETY_AXIS_CONFIGURE` (R310, R314, R337, R340). A node without a declared second count is refused like a missing
source (DEDUCED, log entry 114). -/
def specSafetyAxisConfigure : Spec :=
  { op := 0x0A01, rings := [2], len := exactly 80, classes := [0x01], right := .owner, timing := .latch
    values := safAxFault
    object := fun c d => firstFail [need (d.axisRests c.idx) ST.busy 0, need (d.secondaryOk c.idx c.payload) ST.safetyRefused 0]
    resource := fun c d =>
      let p := c.payload
      let k := d.owner 0x01 c.idx
      firstFail [
        need ((List.range 5).all (fun (n : Nat) => d.actOwned k (u8 p (12 + n)))) ST.owned 0,
        need (u8 p 2 == 0xFF || d.owner 0x22 (u8 p 2) == k) ST.owned 0,
        (if u8 p 0 = 2 then d.claimPins c.idx 2 [u8 p 1, u8 p 1 + 1] else none)]
    apply := fun c d =>
      ((d.onSafAx c.idx (fun (s : SafAx) =>
        { s with cfg := safAxOf c.payload, bPrev := none, discCount := 0, histA := [], histB := [], sdiExt := none, sdiExtB := none })).uncommit
          (d.owner 0x01 c.idx)).done }

/-- `SAFETY_ARM_CONFIGURE` (R314, R337, R340). -/
def specSafetyArmConfigure : Spec :=
  { op := 0x0A02, rings := [2], len := exactly 48, classes := [0x02], right := .owner, timing := .latch
    values := fun c d =>
      let p := c.payload
      firstFail (d.actsFault p 0 4 ++ [
        need (decide (u8 p 4 < 4)) ST.reserved 0, rsv p 5 3, inRange (fpPos (u64 p 8)) 8, inRange (fpNonneg (u64 p 16)) 16,
        inRange (fpNonneg (u64 p 24)) 24, inRange (fpNonneg (u64 p 32)) 32,
        inRange (decide (10 ≤ u32 p 40) && decide (u32 p 40 ≤ 10000)) 40, rsv p 44 4])
    object := fun c d => firstFail [need (d.armRests c.idx) ST.busy 0,
      need (u8 c.payload 3 == 1 || (d.arm c.idx).axes.all (fun (i : Nat) => (d.safAx i).cfg.bSource != 0xFF)) ST.safetyRefused 0]
    resource := fun c d => need ((List.range 4).all (fun (n : Nat) => d.actOwned (d.owner 0x02 c.idx) (u8 c.payload n))) ST.owned 0
    apply := fun c d =>
      let p := c.payload
      ((d.onSafArm c.idx (fun (s : SafArm) =>
        { s with
          acts := (List.range 4).map (fun (k : Nat) => u8 p k), flags := u8 p 4, slsTcp := u64 p 8, zr := u64 p 16
          marginB := u64 p 24, boundTol := u64 p 32, ss1Ms := u32 p 40 })).uncommit (d.owner 0x02 c.idx)).done }

/-- `SAFETY_INPUT_CONFIGURE` (R312, R329, R330, R337). An input that activates a function is no reset input (DEDUCED, log entry 149). -/
def specSafetyInputConfigure : Spec :=
  { op := 0x0A03, rings := [2], len := exactly 8, classes := [0x0B], right := .owner, timing := .latch
    values := fun c d =>
      let p := c.payload
      let used := match d.owner 0x0B c.idx with
        | some k => let u := d.usersOf k c.idx; !(u.1.isEmpty && u.2.isEmpty)
        | none => false
      firstFail [
        inRange (decide (u8 p 0 ≤ 1)) 0, inRange (decide (u8 p 1 ≤ 1) && !(u8 p 1 == 1 && used)) 1,
        need (decide (u8 p 2 ≤ 1)) ST.reserved 0, rsv p 3 1, inRange (decide (u16 p 4 ≤ 900)) 4,
        inRange (decide (5 ≤ u16 p 6) && decide (u16 p 6 ≤ 500)) 6]
    object := fun c d =>
      match d.owner 0x0B c.idx with
      | some k => let u := d.usersOf k c.idx; d.restAll k (fun (i : Nat) => u.1.contains i) (fun (j : Nat) => u.2.contains j)
      | none => none
    apply := fun c d =>
      let p := c.payload
      ((d.onSafIn c.idx (fun (n : SafIn) =>
        { n with
          mode := u8 p 0, kind := u8 p 1, flags := u8 p 2, filt := u16 p 4, disc := u16 p 6
          pending := n.pending && bit (u8 p 2) 0, pulse := false, stuck := false })).uncommit (d.owner 0x0B c.idx)).done }

/-- `SAFETY_OUTPUT_CONFIGURE` (R313, R314, R337). -/
def specSafetyOutputConfigure : Spec :=
  { op := 0x0A04, rings := [2], len := exactly 4, classes := [0x0C], right := .owner, timing := .latch
    values := fun c d =>
      let p := c.payload
      firstFail [inRange (decide (u8 p 0 ≤ 3)) 0, inRange (d.actOk (u8 p 1)) 1, rsv p 2 2]
    object := fun c d => d.restAll c.idx (fun (i : Nat) => (d.safAx i).cfg.stoOut == u8 c.payload 0) (fun _ => false)
    resource := fun c d => need (d.owner 0x22 (u8 c.payload 0) == some c.idx && d.actOwned (some c.idx) (u8 c.payload 1)) ST.owned 0
    apply := fun c d => ((d.onSafOut (u8 c.payload 0) (fun (o : SafOut) => { o with act := u8 c.payload 1 })).uncommit (some c.idx)).done }

/-- `SAFETY_COMPARTMENT_CONFIGURE` (R337, R340). -/
def specSafetyCompartmentConfigure : Spec :=
  { op := 0x0A05, rings := [2], len := exactly 8, classes := [0x0C], right := .owner, timing := .latch
    values := fun c _ =>
      let p := c.payload
      firstFail [inRange (decide (u32 p 0 ≤ 1000000)) 0, inRange (decide (u16 p 4 ≤ 5000)) 4, inRange (decide (1 ≤ u8 p 6)) 6, rsv p 7 1]
    object := fun c d => d.restAll c.idx (fun _ => true) (fun _ => true)
    apply := fun c d =>
      let p := c.payload
      ((d.onSafCmp c.idx (fun (s : SafCmp) => { s with latency := u32 p 0, vhMin := u16 p 4, release := u8 p 6 })).uncommit (some c.idx)).done }

/-! ### The commit -/

/-- R337: the bytes of a compartment's safety configuration, over which the channels form their signatures. -/
def Dev.safetyBytes (d : Dev) (k : Nat) : Bytes :=
  let c := d.safCmp k
  ((d.holds 0x01 k).flatMap (fun (i : Nat) =>
    let g := (d.safAx i).cfg
    e8 i ++ e8 g.bSource ++ e8 g.bIndex ++ e8 g.stoOut ++ e8 g.flags ++ e32 g.bNum ++ e32 g.bDen ++ g.acts.flatMap e8 ++ e32 g.ss1Ms ++
      e64 g.posTol ++ e64 g.velTol ++ e32 g.disc ++ eS64 g.sls ++ eS64 g.slpMin ++ eS64 g.slpMax ++ e64 g.sdiTol)) ++
  ((d.holds 0x02 k).flatMap (fun (j : Nat) =>
    let g := d.safArm j
    e8 j ++ g.acts.flatMap e8 ++ e8 g.flags ++ e64 g.slsTcp ++ e64 g.zr ++ e64 g.marginB ++ e64 g.boundTol ++ e32 g.ss1Ms)) ++
  ((d.holds 0x0B k).flatMap (fun (n : Nat) =>
    let g := d.safIn n
    e8 n ++ e8 g.mode ++ e8 g.kind ++ e8 g.flags ++ e16 g.filt ++ e16 g.disc)) ++
  ((d.holds 0x22 k).flatMap (fun (o : Nat) => e8 o ++ e8 (d.safOut o).act)) ++ e32 c.latency ++ e16 c.vhMin ++ e8 c.release

/-- R337: the signature each channel computes. -/
def Dev.signature (d : Dev) (k : Nat) : Nat := Config.safetySignature (d.safetyBytes k) % 2 ^ 32

/-- R311, R329, R333, R337: a successful commit. -/
def Dev.commitSafety (d : Dev) (k : Nat) : Dev :=
  let d := (d.holds 0x01 k).foldl Dev.safReference d
  (d.onSafCmp k (fun (c : SafCmp) => { c with committed := true, signature := d.signature k, first := true })).demandTests k

/-- `SAFETY_COMMIT` (R311, R337). -/
def specSafetyCommit : Spec :=
  { op := 0x0A06, rings := [2], len := exactly 4, classes := [0x0C], right := .owner, timing := .latch
    apply := fun c d =>
      let s := d.signature c.idx
      let r := e32 s ++ e32 s
      if s = u32 c.payload 0 then (d.commitSafety c.idx).reply r else { dev := d, status := ST.signature, result := r } }

/-- `SAFETY_QUERY` (R340). -/
def specSafetyQuery : Spec :=
  { op := 0x0A07, rings := [1, 2, 3], len := exactly 0, classes := [0x0C], right := .own, timing := .now
    rights := safetyRight
    apply := fun c d =>
      let k := c.idx
      d.reply (((List.range 128).map (fun (i : Nat) =>
          let s := d.safAx i
          if d.owner 0x01 i = some k then
            byteOf (maskOf [d.inSto i, d.inSs1 i, s.active.getD 2 false, s.active.getD 3 false, s.active.getD 4 false, s.viol, decide (0 < s.discCount)])
          else 0)) ++
        (List.range 8).map (fun (j : Nat) =>
          if d.owner 0x02 j = some k then byteOf (maskOf [(d.safArm j).sepActive, (d.arm j).protective, (d.safArm j).demandB]) else 0)) }

/-- `SAFETY_EVENT_ACK` (R339, R340). -/
def specSafetyEventAck : Spec :=
  { op := 0x0A11, rings := [1, 2, 3], len := exactly 4, classes := [0x0C], right := .own, timing := .latch
    rights := safetyRight
    apply := fun c d => (d.ack (416 + c.idx) (u32 c.payload 0)).done }

/-! ### The safety message -/

/-- R332: a track of a message. -/
def trackOf (p : Bytes) (o : Nat) : Track :=
  let v (o : Nat) : List Int := (List.range 3).map (fun (k : Nat) => i32 p (o + 4 * k))
  { id := u8 p o, a := v (o + 4), b := v (o + 16), radius := u32 p (o + 28), vel := v (o + 32), zd := u16 p (o + 44), c := u16 p (o + 46) }

/-- R332: the tracks of a message. -/
def tracksOf (p : Bytes) : List Track := (List.range (u8 p 3)).map (fun (k : Nat) => trackOf p (12 + 48 * k))

/-- R332, R333: the CRC of a message fits. -/
def messageCrc (p : Bytes) : Bool :=
  let n := p.length - 4
  u32 p n == crc32c (p.take n)

/-- R332: the values of a message whose CRC fits. -/
def messageFault (c : Cmd) : Verdict :=
  let p := c.payload
  let ids := (tracksOf p).map (·.id)
  if !messageCrc p then none
  else firstFail ([inRange (u8 p 2 == c.idx) 2, inRange (decide (u8 p 3 ≤ 32)) 3, rsv p 6 6] ++
    (List.range (u8 p 3)).flatMap (fun (k : Nat) =>
      let o := 12 + 48 * k
      [inRange (decide (u8 p o ≤ 31) && !(ids.take k).contains (u8 p o)) o, rsv p (o + 1) 3]))

/-- R333: whether the alive counter of a message is accepted. -/
def SafCmp.aliveOk (c : SafCmp) (alive : Nat) : Bool :=
  let x := (alive + 65536 - c.alive) % 65536
  c.first || (decide (1 ≤ x) && decide (x ≤ 8))

/-- R334: the watchdog of a compartment expires, or a message fault acts as its expiry. -/
def Dev.safExpire (d : Dev) (k : Nat) : Dev :=
  let d := (d.onSafCmp k (fun (c : SafCmp) => { c with msgOk := false, control := 0 })).safEvent k 5
  (d.holds 0x02 k).foldl (fun (d : Dev) (j : Nat) =>
    if (d.arm j).state ≠ 0 ∧ (d.armActs j).getD 3 false = true then
      (d.onArm j (fun (m : Arm) =>
        { m with protective := true, flags := setBit m.flags 3, events := if m.protective then m.events else setBit m.events 8 })).onSafArm j
        (fun (s : SafArm) => { s with clear := 0, waitReset := false })
    else d) d

/-- R330: 50 ms to 2 s. -/
def pulseAccepted (ns : Nat) : Bool := decide (50000000 ≤ ns) && decide (ns ≤ 2000000000)

/-- R330, R333: an accepted message: its permits, its tracks, and its reset bit. -/
def Dev.takeMessage (d : Dev) (k : Nat) (p : Bytes) : Dev :=
  let was := (d.safCmp k).pulse
  let on := bit (u16 p 4) 15
  let d := d.onSafCmp k (fun (c : SafCmp) =>
    { c with
      control := u16 p 4, alive := u16 p 0, first := false, msgOk := true, heard := tracksOf p
      pulse := if on then some (c.pulse.getD 0) else none, pulseStuck := c.pulseStuck && on })
  match was, on with
  | some t, false => if pulseAccepted t then d.safReset k else d
  | _, _ => d

/-- `SAFETY_MESSAGE` (R332-R334, R340). A message fault is reported like a CRC failure (DEDUCED, log entry 150). -/
def specSafetyMessage : Spec :=
  { op := 0x0A10, rings := [1], len := fun (n : Nat) => decide (16 ≤ n), classes := [0x0C], right := .own, timing := .latch
    exempt := true
    form := fun c => need (c.payload.length == 16 + 48 * u8 c.payload 3) ST.badLength 0
    rights := fun c d =>
      need (c.port.val == 3 && (d.owns 3 c.idx || d.stops 3 c.idx || (d.comp c.idx).state == 0)) ST.notSafetyPort 0
    values := fun c _ => messageFault c
    budget := fun c d =>
      if messageCrc c.payload then (d.onSafCmp c.idx (fun (s : SafCmp) => { s with heard := tracksOf c.payload })).budgetCheck else none
    apply := fun c d =>
      let k := c.idx
      let p := c.payload
      if !messageCrc p then
        (d.onSafCmp k (fun (s : SafCmp) => { s with crcFails := sat16 (s.crcFails + 1) })).says ST.safetyRefused
      else if (d.safCmp k).aliveOk (u16 p 0) then (d.takeMessage k p).done
      else ((d.onSafCmp k (fun (s : SafCmp) => { s with msgFaults := sat16 (s.msgFaults + 1) })).safExpire k).says ST.safetyRefused }

/-- `SAFETY_AXIS_CONFIGURE` (R340). -/
def execSafetyAxisConfigure (c : Cmd) (s : State) : Host.Outcome State Fault Refusal := .next (s.run specSafetyAxisConfigure c)
/-- `SAFETY_ARM_CONFIGURE` (R340). -/
def execSafetyArmConfigure (c : Cmd) (s : State) : Host.Outcome State Fault Refusal := .next (s.run specSafetyArmConfigure c)
/-- `SAFETY_INPUT_CONFIGURE` (R312). -/
def execSafetyInputConfigure (c : Cmd) (s : State) : Host.Outcome State Fault Refusal := .next (s.run specSafetyInputConfigure c)
/-- `SAFETY_OUTPUT_CONFIGURE` (R313). -/
def execSafetyOutputConfigure (c : Cmd) (s : State) : Host.Outcome State Fault Refusal := .next (s.run specSafetyOutputConfigure c)
/-- `SAFETY_COMPARTMENT_CONFIGURE` (R340). -/
def execSafetyCompartmentConfigure (c : Cmd) (s : State) : Host.Outcome State Fault Refusal := .next (s.run specSafetyCompartmentConfigure c)
/-- `SAFETY_COMMIT` (R337). -/
def execSafetyCommit (c : Cmd) (s : State) : Host.Outcome State Fault Refusal := .next (s.run specSafetyCommit c)
/-- `SAFETY_QUERY` (R340). -/
def execSafetyQuery (c : Cmd) (s : State) : Host.Outcome State Fault Refusal := .next (s.run specSafetyQuery c)
/-- `SAFETY_MESSAGE` (R333). -/
def execSafetyMessage (c : Cmd) (s : State) : Host.Outcome State Fault Refusal := .next (s.run specSafetyMessage c)
/-- `SAFETY_EVENT_ACK` (R339). -/
def execSafetyEventAck (c : Cmd) (s : State) : Host.Outcome State Fault Refusal := .next (s.run specSafetyEventAck c)

end Sys2Proof.Machine
end

