-- ==== Sys2Proof/Machine/TrigOps.lean ====
section
/-! DEFINITION. What a trigger does beyond its unit: bus lines, `TRIGIO` pulses, captures, combiners, position latches and
registration (R178-R180, R345-R347, R363-R366). -/

namespace Sys2Proof.Machine

/-! ### Position latches -/

/-- R135: the step count at `t` from the samples of a channel, newest first; none while the sample after `t` is missing. -/
def stepsAt (t : Nat) : List (Nat × Int) → Option Int
  | [] => none
  | (tb, sb) :: r =>
    if tb < t then none
    else if tb = t then some sb
    else match r with
      | [] => some sb
      | (ta, sa) :: _ => if ta ≤ t then some (sa + rdivUp ((sb - sa) * ((t - ta : Nat) : Int)) 500) else stepsAt t r

/-- R179: p_act of axis `i` at the instant `t`, and whether it rests on a predicted position; none while the positions it
needs are not known. -/
def Dev.latchValue (d : Dev) (i t : Nat) : Option (Int × Bool) :=
  let f := d.fb i
  let lim (x : Int) : Int := clampI f.softMin f.softMax x
  match f.past.dropWhile (fun (e : FbAt) => decide (t < e.t)) with
  | [] => f.past.getLast?.map (fun (e : FbAt) => (lim e.p, e.stale))
  | e :: r =>
    let local_ (dc : Int) : Int := lim (e.p + (if f.cfg.den = 0 then 0 else Int.fdiv (dc * f.cfg.num + e.rem) f.cfg.den))
    match f.cfg.source with
    | 0 =>
      if f.past.head? = some e ∧ e.t + e.len ≤ t then none
      else
        let p1 := match r with | x :: _ => x.p | [] => e.p
        some (lim (latchRemote e.p p1 (t - e.t) e.len), e.stale)
    | 1 =>
      (stepsAt t (d.sc f.cfg.index).samples).map (fun (s : Int) => (local_ (if f.flag 1 then e.c - s else s - e.c), false))
    | _ =>
      let c := match f.counts.find? (fun (x : Nat × Int) => decide (x.1 ≤ t)) with | some x => x.2 | none => e.c
      some (local_ (c - e.c), false)

/-- R180: a trigger tagged `t` reaches an armed latch. -/
def Latch.trigger (l : Latch) (t : Nat) : Latch :=
  if l.armed && decide (l.since ≤ t) then { l with hits := l.hits ++ [t] } else l

/-- R178: whether an edge to level `lv` is one the latch takes; sources 1 and 2 have no edge to choose (DEDUCED, log entry 80). -/
def Latch.takesEdge (l : Latch) (lv : Bool) : Bool :=
  (l.src == 1 || l.src == 2) || l.edge == 2 || (l.edge == 0) == lv

/-- R178: a trigger of source `src` and object `obj` at the latches of axis `i`. -/
def Dev.latchAxis (d : Dev) (i src obj : Nat) (lv : Bool) (t : Nat) : Dev :=
  if !(d.pf i).latches.any (fun (l : Latch) => l.armed && l.src == src && l.object == obj) then d
  else d.onPf i (fun (p : Pf) => { p with latches := p.latches.map (fun (l : Latch) =>
    if l.src == src && l.object == obj && l.takesEdge lv then l.trigger t else l) })

/-- R178: a trigger at the latches of every axis. -/
def Dev.latchAll (d : Dev) (src obj : Nat) (lv : Bool) (t : Nat) : Dev :=
  (List.range 128).foldl (fun (d : Dev) (i : Nat) => d.latchAxis i src obj lv t) d

/-- R180: a value formed for a trigger. -/
def Latch.take (l : Latch) (v : Int) (stale : Bool) (t : Nat) : Latch :=
  let l := { l with valid := true, pos := v, stale := stale, ns := t % 1000000000, sec := t / 1000000000 % 2 ^ 32 }
  if l.continuous then { l with count := (l.count + 1) % 32 } else { l with armed := false }

/-- R180: whether a value counts for a latch. -/
def Latch.counts (l : Latch) (v : Int) : Bool := !l.window || (decide (l.lo ≤ v) && decide (v ≤ l.hi))

/-- R179, R180: the triggers of latch `k` of axis `i` whose values are known at this latch point: the device, and the
values that counted. A single-shot latch takes one. -/
def Dev.latchPoint (d : Dev) (i k : Nat) : Dev × List Int :=
  let l := (d.pf i).latches.getD k Latch.reset
  let known := l.hits.filterMap (fun (t : Nat) => (d.latchValue i t).map (fun (v : Int × Bool) => (t, v)))
  let wait := l.hits.filter (fun (t : Nat) => (d.latchValue i t).isNone)
  let good := known.filter (fun (x : Nat × Int × Bool) => l.counts x.2.1)
  let good := if l.continuous then good else good.take 1
  if l.hits.isEmpty then (d, [])
  else
    let l1 := good.foldl (fun (l : Latch) (x : Nat × Int × Bool) => l.take x.2.1 x.2.2 x.1) { l with hits := wait }
    let l1 := if !l.continuous && !good.isEmpty then { l1 with hits := [] } else l1
    (d.onPf i (fun (p : Pf) =>
      { p with latches := p.latches.set k l1, events := if good.isEmpty then p.events else setBit p.events 2 }),
     good.map (fun (x : Nat × Int × Bool) => x.2.1))

/-! ### Registration -/

/-- R172: a correction enters the pending trim of axis `i`; a relation with `trim_step_max` 0 takes none. -/
def Dev.addTrim (d : Dev) (i : Nat) (c : Int) : Dev :=
  match (d.pf i).rel with
  | some r =>
    if r.trimStep = 0 then d
    else d.onPf i (fun (p : Pf) =>
      let x := p.pendTrim + c
      let y := clampI (-(2 ^ 31 - 1)) (2 ^ 31 - 1) x
      { p with pendTrim := y, trimSat := p.trimSat || x != y })
  | none => d

/-- R364: the newest of the values that a latch gained corrects its registration. -/
def Dev.regMarks (d : Dev) (i : Nat) (c : RegCfg) (vals : List Int) : Dev :=
  match vals.getLast?, (d.pf i).rel with
  | some x, some r =>
    let p := d.pf i
    let y := (d.relValue r x).1 + r.phi.now + p.appTrim + p.pendTrim
    let m := (d.reg i).mark c x y vals.length
    (d.onReg i (fun _ => m.1)).addTrim i m.2
  | _, _ => d

/-- R364-R366: the latches of every axis and the registrations at a latch point. -/
def Dev.latchPoints (d : Dev) : Dev :=
  let step (d : Dev) (i k : Nat) : Dev :=
    let r := d.latchPoint i k
    (List.range 128).foldl (fun (d : Dev) (j : Nat) =>
      let g := d.reg j
      match g.cfg with
      | some c => if g.enabled && c.axis == i && c.latch == k then d.regMarks j c r.2 else d
      | none => d) r.1
  let d := (List.range 128).foldl (fun (d : Dev) (i : Nat) =>
    if (d.pf i).latches.any (fun (l : Latch) => !l.hits.isEmpty) then (List.range 4).foldl (fun (d : Dev) (k : Nat) => step d i k) d
    else d) d
  (List.range 128).foldl (fun (d : Dev) (j : Nat) =>
    let g := d.reg j
    match g.cfg with
    | some c => if g.enabled then d.onReg j (fun (r : Reg) => r.missed c (d.fb c.axis).pAct) else d
    | none => d) d

/-! ### Pulses -/

/-- R347: a `TRIGIO` output pulse detected at `t`. -/
def Pin.pulse (p : Pin) (t : Nat) : Pin := { p with level := true, endAt := t + 20 + 4 * cdivN p.pulseNs 4 }

/-- R347: a pulse of a unit (kind 0) or line (kind 1) at the pins it drives. -/
def Dev.pinPulse (d : Dev) (kind index t : Nat) : Dev :=
  { d with cap := { d.cap with pins := d.cap.pins.map (fun (p : Pin) =>
      if p.dir == 1 && p.drvKind == kind && p.drvIndex == index then p.pulse t else p) } }

/-- The configuration of a trigger unit, where it is enabled. -/
def Trig.live (u : Trig) : Option TrigCfg := if u.on then u.cfg else none

/-- R346: unit `n` fires with tag `t`: circular captures, bursts, blazes, latches and `TRIGIO` pins. -/
def Dev.fired (d : Dev) (n t : Nat) : Dev :=
  let u := d.trig n
  let d := d.onTrig n (fun (u : Trig) => { u with fires := sat32 (u.fires + 1), lastTag := tagOf t, blazes := sat32 (u.blazes + 1) })
  let cap := (List.range 64).foldl (fun (c : Cap) (k : Nat) => (c.trigger k n t).startBurst k n t) d.cap
  let cap := match u.cfg with
    | some g => (bitsSet g.blazeMask 64).foldl (fun (c : Cap) (k : Nat) => c.blaze k n g.blazeId (u.blazes + 1) t) cap
    | none => cap
  (({ d with cap := cap } : Dev).latchAll 1 n true t).pinPulse 0 n t

/-- An output of a unit that is still to be acted on. -/
abbrev Pending := List (Nat × TrigOut)

/-- R345: what a unit's output does to the combiners above it. -/
def Dev.combine (d : Dev) (n : Nat) (o : TrigOut) : Dev × Pending :=
  (List.range 128).foldl (fun (s : Dev × Pending) (m : Nat) =>
    let u := s.1.trig m
    match u.live with
    | some g =>
      if g.kind = 4 ∧ n < m then
        let r := u.combine g n o (fun (k : Nat) => let x := s.1.trig k; (x.on && x.out, x.outAt))
        (s.1.onTrig m (fun _ => r.1), if r.2 = .none then s.2 else s.2 ++ [(m, r.2)])
      else s
    | none => s) (d, [])

/-- R346, R347: a pulse with tag `t` on a bus line: a second one in the same trigger cycle merges. `seen` holds the
line-fed units that this step has reached. -/
def Dev.linePulse (d : Dev) (line t : Nat) (seen : List Nat) : Dev × Pending :=
  let l := d.cap.lines.getD line ⟨none, 0⟩
  if l.cycle = some (t / 4) then
    (({ d with cap := { d.cap with lines := upd d.cap.lines line (fun (l : Line) => { l with tag := min l.tag (tagOf t) }) } } : Dev).onEng
      (line / 4) (fun (e : Eng) => { e with merges := sat32 (e.merges + 1) }), [])
  else
    let d := { d with cap := { d.cap with lines := upd d.cap.lines line (fun _ => ⟨some (t / 4), tagOf t⟩) } }
    (List.range 128).foldl (fun (s : Dev × Pending) (m : Nat) =>
      let u := s.1.trig m
      match u.live with
      | some g =>
        if g.kind = 3 ∧ g.index = line ∧ !seen.contains m then
          let r := u.input g 1 t
          (s.1.onTrig m (fun _ => r.1), if r.2 = .none then s.2 else s.2 ++ [(m, r.2)])
        else s
      | none => s) (d.pinPulse 1 line t, [])

/-- R344-R347: the outputs of units acted on in order, with what they cause in other units; a unit fed by a bus line
is reached once in a step. -/
def Dev.cascade : Nat → Dev → Pending → List Nat → Dev
  | 0, d, _, _ => d
  | _ + 1, d, [], _ => d
  | k + 1, d, (n, o) :: rest, seen =>
    match o with
    | .none => Dev.cascade k d rest seen
    | .fall => let r := d.combine n o; Dev.cascade k r.1 (rest ++ r.2) seen
    | .pulse t | .rise t =>
      let d := d.fired n t
      let seen := if (match (d.trig n).cfg with | some g => g.kind == 3 | none => false) then n :: seen else seen
      let l := match (d.trig n).cfg with
        | some g => if g.line < 16 then d.linePulse g.line t seen else (d, [])
        | none => (d, [])
      let r := l.1.combine n o
      Dev.cascade k r.1 (rest ++ l.2 ++ r.2) seen

/-- A bound on the outputs that one input can set off: every line-fed unit once, and the combiners above each. -/
def cascadeBound : Nat := 128 * 129

/-- R344: the output of a unit after an input, acted on. -/
def Dev.unitStep (d : Dev) (n : Nat) (r : Trig × TrigOut) : Dev := Dev.cascade cascadeBound (d.onTrig n (fun _ => r.1)) [(n, r.2)] []

/-- R343, R344: a value at the input of unit `n` at instant `t`. -/
def Dev.unitInput (d : Dev) (n : Nat) (x : Int) (t : Nat) : Dev :=
  let u := d.trig n
  match u.cfg with
  | some g => d.unitStep n (u.input g x t)
  | none => d

/-- R343: a value at every unit with a given input. -/
def Dev.feedUnits (d : Dev) (kind index : Nat) (x : Int) (t : Nat) : Dev :=
  (List.range 128).foldl (fun (d : Dev) (n : Nat) =>
    match (d.trig n).cfg with
    | some g => if g.kind == kind && g.index == index then d.unitInput n x t else d
    | none => d) d

/-- R194, R346, R448: a pulse from outside the trigger units on a bus line. -/
def Dev.lineDriven (d : Dev) (line t : Nat) : Dev :=
  let r := d.linePulse line t []
  Dev.cascade cascadeBound r.1 r.2 []

/-- R346: unit `n` is enabled from the latch instant `t` on, or disabled; a level output of a unit that is disabled falls. -/
def Dev.unitEnable (d : Dev) (n : Nat) (on : Bool) (t : Nat) : Dev :=
  let u := d.trig n
  if on then
    d.onTrig n (fun (u : Trig) => { u with on := true, since := t, last := t, lead := none, out := false, seqA := none, blazes := 0 })
  else
    Dev.cascade cascadeBound (d.onTrig n (fun (u : Trig) => { u with on := false, out := false, lead := none, seqA := none }))
      (if u.out then [(n, .fall)] else []) []

end Sys2Proof.Machine
end

