-- ==== Sys2Proof/Machine/CmdCapture.lean ====
section
/-! DEFINITION. Area 0x0B: trigger units, `TRIGIO` pins, capture channels, landing, flume rings and registration
(R341-R369). -/

namespace Sys2Proof.Machine

/-! ### Trigger units -/

/-- R369: the fields of a `TRIG_CONFIGURE` payload. -/
def trigOf (p : Bytes) : TrigCfg :=
  { kind := u8 p 0, cond := u8 p 1, pol := u8 p 2, line := u8 p 3, index := u16 p 4, thrHi := i32 p 8, thrLo := i32 p 12
    tMin := u32 p 16, tMax := u32 p 20, operands := (List.range 4).map (fun (k : Nat) => u8 p (24 + k)), blazeMask := u64 p 32
    blazeId := u16 p 40 }

/-- R344, R345: the conditions a kind of input allows. -/
def condAllowed (kind cond : Nat) : Bool :=
  if kind = 4 then decide (8 ≤ cond) && decide (cond ≤ 10)
  else match cond with
    | 0 => true | 1 => kind != 3 | 2 => kind != 3 | 3 => kind == 0 | 4 => true | 5 => kind == 0 | _ => false

/-- R352, R369: how many inputs of a kind there are. -/
def trigInputs (kind : Nat) : Nat := [16, 32, 4, 16, 1, 4096, 8].getD kind 0

/-- R345: an operand of a combiner is a lower unit. -/
def operandFault (n : Nat) (p : Bytes) : List Verdict :=
  (List.range 4).map (fun (k : Nat) =>
    inRange (u8 p 0 != 4 || u8 p (24 + k) == 0xFF || decide (u8 p (24 + k) < n)) (24 + k))

/-- Whether a resource is of a compartment, for the names a command gives (R369). -/
def Dev.named (d : Dev) (k : Option Nat) (cls idx : Nat) : Bool := d.owner cls idx == k

/-- `TRIG_CONFIGURE` (R343-R346, R369). -/
def specTrigConfigure : Spec :=
  { op := 0x0B01, rings := [2], len := exactly 48, classes := [0x07], right := .owner, timing := .latch
    values := fun c _ =>
      let p := c.payload
      firstFail ([
        inRange (decide (u8 p 0 ≤ 6)) 0, inRange (condAllowed (u8 p 0) (u8 p 1)) 1,
        inRange (decide (u8 p 2 ≤ 1) || (u8 p 2 == 2 && (u8 p 1 == 0 || u8 p 1 == 4))) 2,
        inRange (decide (u8 p 3 < 16) || u8 p 3 == 0xFF) 3, inRange (decide (u16 p 4 < trigInputs (u8 p 0))) 4, rsv p 6 2,
        inRange (decide (i32 p 12 ≤ i32 p 8)) 12,
        inRange (decide (u32 p 16 ≤ u32 p 20) && !((u8 p 1 == 4 || u8 p 1 == 10) && u32 p 20 == 0)) 20] ++
        operandFault c.idx p ++ [rsv p 28 4, rsv p 42 6])
    object := fun c d => need (!(d.trig c.idx).on) ST.busy 0
    resource := fun c d =>
      let p := c.payload
      let k := d.owner 0x07 c.idx
      let input := match u8 p 0 with
        | 0 => d.named k 0x11 (u16 p 4) | 1 => d.named k 0x09 (u16 p 4) | 2 => d.named k 0x21 (u16 p 4)
        | 3 => d.named k 0x20 (u16 p 4) | _ => true
      need (input && (u8 p 3 == 0xFF || d.named k 0x20 (u8 p 3)) &&
        (List.range 4).all (fun (j : Nat) => u8 p 0 != 4 || u8 p (24 + j) == 0xFF || d.named k 0x07 (u8 p (24 + j))) &&
        (bitsSet (u64 p 32) 64).all (fun (n : Nat) => d.named k 0x06 n)) ST.owned 0
    apply := fun c d =>
      (d.onTrig c.idx (fun (u : Trig) => { Trig.reset with cfg := some (trigOf c.payload), fires := u.fires, lastTag := u.lastTag })).done }

/-- `TRIG_ENABLE` (R346, R369). A unit never configured cannot be enabled (DEDUCED, log entry 162). -/
def specTrigEnable : Spec :=
  { op := 0x0B02, rings := [1, 2], len := exactly 4, classes := [0x07], right := .owner, timing := .latch
    values := fun c _ => byteField c.payload (decide (u8 c.payload 0 ≤ 1))
    object := fun c d => need (u8 c.payload 0 == 0 || (d.trig c.idx).cfg.isSome) ST.disabled 0
    apply := fun c d =>
      let on := u8 c.payload 0 == 1
      if (d.trig c.idx).on = on then d.says ST.noChange else (d.unitEnable c.idx on d.latchAt).done }

/-- `TRIG_QUERY` (R369). -/
def specTrigQuery : Spec :=
  { op := 0x0B03, rings := [1, 2, 3], len := exactly 0, classes := [0x07], right := .observer, timing := .now
    apply := fun c d => d.reply (e32 (d.trig c.idx).fires ++ enc 6 (d.trig c.idx).lastTag ++ zeros 2) }

/-- `TRIGIO_CONFIGURE` (R347, R369). -/
def specTrigioConfigure : Spec :=
  { op := 0x0B04, rings := [2], len := exactly 8, classes := [0x0C], right := .owner, timing := .latch
    values := fun c _ =>
      let p := c.payload
      firstFail [inRange (decide (u8 p 0 ≤ 3)) 0, inRange (decide (u8 p 1 ≤ 1)) 1, inRange (decide (u8 p 2 ≤ 1)) 2, rsv p 3 1,
        inRange (decide (u16 p 4 < if u8 p 2 = 0 then 128 else 16)) 4, inRange (decide (8 ≤ u16 p 6)) 6]
    resource := fun c d =>
      let p := c.payload
      let k := some c.idx
      need (d.named k 0x21 (u8 p 0) && (u8 p 1 == 0 || d.named k (if u8 p 2 = 0 then 0x07 else 0x20) (u16 p 4))) ST.owned 0
    apply := fun c d =>
      let p := c.payload
      ({ d with cap := { d.cap with pins := upd d.cap.pins (u8 p 0) (fun (q : Pin) =>
          { q with
            dir := u8 p 1, drvKind := u8 p 2, drvIndex := u16 p 4, pulseNs := u16 p 6
            level := q.level && q.dir == u8 p 1, endAt := if q.dir == u8 p 1 then q.endAt else 0 }) } } : Dev).done }

/-! ### Channels -/

/-- R369: the fields of a `CAP_CONFIGURE` payload. -/
def chanOf (p : Bytes) : ChanCfg :=
  { kind := u8 p 0, storage := u8 p 1, flume := u8 p 2 == 1, meas := u8 p 3, index := u16 p 4, ring := u8 p 6, burstUnit := u8 p 7
    deadband := u32 p 8, decimate := u32 p 12, depth := u32 p 16, post := u32 p 20, burstLen := u32 p 24, window := u32 p 28
    trigUnit := u16 p 32, flushUs := u16 p 34, thrHi := i32 p 36, thrLo := i32 p 40, fvOffset := u16 p 44, fvWidth := u8 p 46
    fvPos := u8 p 47 }

/-- R350: the measurements a source has. -/
def measAllowed (kind meas : Nat) : Bool :=
  if meas ≤ 3 then true else if meas ≤ 6 then kind != 1 && kind != 2 else meas == 7 && kind == 0

/-- R349, R352: digital sources have edge records only, so no full rate (DEDUCED, log entry 163). -/
def capFault (c : Cmd) (_ : Dev) : Verdict :=
  let p := c.payload
  let circ := u8 p 2 == 0
  firstFail [
    inRange (decide (u8 p 0 ≤ 5)) 0, inRange (decide (u8 p 1 ≤ 2) && !(u8 p 1 == 1 && (u8 p 0 == 1 || u8 p 0 == 2))) 1,
    inRange (decide (u8 p 2 ≤ 1)) 2, inRange (if u8 p 1 = 2 then measAllowed (u8 p 0) (u8 p 3) else u8 p 3 == 0) 3,
    inRange (decide (u16 p 4 < [16, 32, 4, 8, 16, 4096].getD (u8 p 0) 0)) 4,
    inRange (decide (u8 p 6 ≤ 3) && (!circ || u8 p 6 == 0)) 6, inRange (decide (u8 p 7 ≤ 127) || u8 p 7 == 0xFF) 7,
    inRange (decide (1 ≤ u32 p 12) && decide (u32 p 12 ≤ 65536)) 12,
    inRange (!circ || (decide (256 ≤ u32 p 16) && decide (u32 p 16 ≤ 4194304) && u32 p 16 % 256 == 0)) 16,
    inRange (!circ || decide (u32 p 20 < u32 p 16)) 20,
    inRange (if u8 p 7 = 0xFF then u32 p 24 == 0 else decide (1 ≤ u32 p 24) && decide (u32 p 24 ≤ 16777216)) 24,
    inRange (if u8 p 1 = 2 then decide (1000 ≤ u32 p 28) && decide (u32 p 28 ≤ 1000000000) else u32 p 28 == 0) 28,
    inRange (!circ || decide (u16 p 32 ≤ 127)) 32, inRange (circ || (decide (10 ≤ u16 p 34) && decide (u16 p 34 ≤ 10000))) 34,
    inRange (decide (i32 p 40 ≤ i32 p 36)) 40,
    (if u8 p 0 = 4 then
      firstFail [inRange (decide (u16 p 44 ≤ 32) && decide (u16 p 44 + u8 p 46 ≤ 33)) 44, inRange ([1, 2, 4].contains (u8 p 46)) 46,
        inRange (decide (u8 p 47 ≤ 7)) 47]
     else none)]

/-- The flume ring that a channel of an engine names (R358). -/
def Dev.flumeOf (d : Dev) (chan ring : Nat) : Flume := (d.eng (engOf chan)).rings.getD ring Flume.reset

/-- `CAP_CONFIGURE` (R349-R352, R369). A held buffer is given up (R356). -/
def specCapConfigure : Spec :=
  { op := 0x0B05, rings := [2], len := exactly 48, classes := [0x06], right := .owner, timing := .latch
    values := capFault
    object := fun c d => need ((d.chan c.idx).state == 0) ST.busy 0
    resource := fun c d =>
      let p := c.payload
      let k := d.owner 0x06 c.idx
      let src := match u8 p 0 with
        | 0 => d.named k 0x11 (u16 p 4) | 1 => d.named k 0x09 (u16 p 4) | 2 => d.named k 0x21 (u16 p 4) | _ => true
      let f := d.flumeOf c.idx (u8 p 6)
      need (src && (u8 p 7 == 0xFF || d.named k 0x07 (u8 p 7)) && (u8 p 2 == 1 || d.named k 0x07 (u16 p 32)) &&
        (u8 p 2 == 0 || f.state == 0 || some f.comp == k)) ST.owned 0
    apply := fun c d =>
      ({ d with cap := (d.cap.stop c.idx true).chan c.idx (fun (k : Chan) => { k with cfg := some (chanOf c.payload) }) } : Dev).done }

/-- R360: the blocks that arming a channel reserves. -/
def Chan.depthBlocks (k : Chan) : Nat := match k.cfg with | some g => if g.flume then 0 else g.depth / 256 | none => 0

/-- `CAP_ARM` (R348, R355, R360, R369). -/
def specCapArm : Spec :=
  { op := 0x0B06, rings := [1, 2], len := exactly 0, classes := [0x06], right := .owner, timing := .latch
    object := fun c d =>
      let k := d.chan c.idx
      firstFail [need k.cfg.isSome ST.disabled 0, need (k.state == 0 || k.state == 3) ST.busy 0]
    resource := fun c d =>
      let k := d.chan c.idx
      let e := engOf c.idx
      need (decide (d.cap.fillOf e - k.resv + k.depthBlocks ≤ (d.eng e).share)) ST.noMemory 0
    apply := fun c d => ({ d with cap := d.cap.arm c.idx d.latchAt } : Dev).done }

/-- `CAP_STOP` (R356, R369). In `DONE` it ends the capture; without `release` the buffer stays for reading (DEDUCED, log entry 164). -/
def specCapStop : Spec :=
  { op := 0x0B07, rings := [1, 2], len := exactly 4, classes := [0x06], right := .owner, timing := .latch
    values := fun c _ => byteField c.payload (decide (u8 c.payload 0 ≤ 1))
    apply := fun c d =>
      let k := d.chan c.idx
      let rel := u8 c.payload 0 == 1
      if k.state = 0 ∧ ¬ (rel ∧ k.resv ≠ 0) then d.says ST.noChange
      else ({ d with cap := d.cap.stop c.idx rel } : Dev).done }

/-- `CAP_READ` (R357): the records held, oldest first. By reference they go to the host's buffer from its start
(DEDUCED, log entry 165). -/
def specCapRead : Spec :=
  { op := 0x0B08, rings := [3], len := exactly 8, classes := [0x06], right := .observer, timing := .now
    object := fun c d => let k := d.chan c.idx; need (k.state != 1 && k.state != 2) ST.busy 0
    apply := fun c d =>
      let buf := (d.chan c.idx).buf
      let n := u32 c.payload 4
      let recs := (buf.drop (u32 c.payload 0)).take (if cmdByRef c then n else min n 254)
      let head := e32 recs.length ++ e32 buf.length
      if cmdByRef c then { dev := d, result := head, data := some (c.refAddr, recs.flatten) }
      else d.reply (head ++ recs.flatten) }

/-! ### Landing and flume rings -/

/-- `LANDING_CONFIGURE` (R358, R360, R369). -/
def specLandingConfigure : Spec :=
  { op := 0x0B09, rings := [2], len := exactly 16, classes := [0x16], right := .cellOwner, timing := .latch
    values := fun c _ =>
      let p := c.payload
      firstFail [inRange (decide (u32 p 4 ≤ u32 p 0)) 4, inRange (decide (u32 p 8 < u32 p 4)) 8, rsv p 12 4]
    object := fun c d =>
      need (((d.cap.chans.drop (16 * c.idx)).take 16).all (fun (k : Chan) => k.state == 0 && k.resv == 0)) ST.busy 0
    resource := fun c d =>
      let others := ((List.range 4).filter (· != c.idx)).foldl (fun (n e : Nat) => n + (d.eng e).share) 0
      need (decide (others + u32 c.payload 0 ≤ 16384)) ST.noMemory 0
    apply := fun c d =>
      let p := c.payload
      let d := d.onEng c.idx (fun (e : Eng) => { e with share := u32 p 0, high := u32 p 4, low := u32 p 8 })
      ({ d with cap := d.cap.settle c.idx } : Dev).done }

/-- R369: a flume ring belongs to the compartment of the packet, whose owner sends it. -/
def flumeRight (c : Cmd) (d : Dev) : Verdict := need (decide (c.comp < 8) && d.owns c.port.val c.comp) ST.notOwner 0

/-- `FLUME_RING_CONFIGURE` (R358, R369). -/
def specFlumeRingConfigure : Spec :=
  { op := 0x0B0A, rings := [2], len := exactly 16, classes := [0x16], right := .own, timing := .latch
    form := fun c => need (decide (c.port.val ≤ 1)) ST.badReference 0
    rights := flumeRight
    values := fun c _ =>
      let p := c.payload
      let n := u32 p 4
      let off := u8 p 1 == 0
      firstFail [inRange (decide (u8 p 0 ≤ 3)) 0, inRange (decide (u8 p 1 ≤ 1)) 1, rsv p 2 2,
        inRange (off || (decide (4096 ≤ n) && decide (n ≤ 16777216) && n &&& (n - 1) == 0)) 4,
        inRange (off || u64 p 8 % 4096 == 0) 8]
    resource := fun c d =>
      let f := (d.eng c.idx).rings.getD (u8 c.payload 0) Flume.reset
      need (f.state == 0 || f.comp == c.comp) ST.owned 0
    apply := fun c d =>
      let p := c.payload
      let f := (d.eng c.idx).rings.getD (u8 p 0) Flume.reset
      let new : Flume := if u8 p 1 = 0 then Flume.reset
        else { Flume.reset with state := 1, comp := c.comp, port := c.port.val, base := u64 p 8, entries := u32 p 4 }
      if f.state = 0 ∧ u8 p 1 = 0 then d.says ST.noChange
      else
        let d := d.onEng c.idx (fun (e : Eng) => { e with rings := e.rings.set (u8 p 0) new })
        ({ d with cap := d.cap.settle c.idx } : Dev).done }

/-! ### Registration -/

/-- R369: the fields of a `REG_CONFIGURE` payload. -/
def regOf (p : Bytes) : RegCfg :=
  { axis := u32 p 0 % 2 ^ 24, latch := u8 p 4, unit := u16 p 6, yRef := i64 p 8, yRepeat := i64 p 16, accept := i64 p 24
    deadband := i64 p 32, kNum := i32 p 40, kDen := u32 p 44, miss := i64 p 48 }

/-- `REG_CONFIGURE` (R363, R369). -/
def specRegConfigure : Spec :=
  { op := 0x0B0B, rings := [2], len := exactly 56, classes := [0x01], right := .owner, timing := .latch
    values := fun c _ =>
      let p := c.payload
      firstFail [inRange (u32 p 0 / 2 ^ 24 == 0x01 && decide (u32 p 0 % 2 ^ 24 < 128)) 0, inRange (decide (u8 p 4 ≤ 3)) 4, rsv p 5 1,
        inRange (decide (u16 p 6 < 128)) 6, inRange (decide (0 < i64 p 16)) 16, inRange (decide (i64 p 32 ≤ i64 p 24)) 24,
        inRange (decide (0 ≤ i64 p 32)) 32, inRange (i32 p 40 != 0) 40, inRange (decide (1 ≤ u32 p 44)) 44,
        inRange (decide (0 ≤ i64 p 48)) 48]
    object := fun c d => need (!(d.reg c.idx).enabled) ST.busy 0
    resource := fun c d => need (d.named (d.owner 0x01 c.idx) 0x07 (u16 c.payload 6)) ST.owned 0
    apply := fun c d => (d.onReg c.idx (fun (r : Reg) => { r with cfg := some (regOf c.payload) })).done }

/-- R363: whether `axis` is the master axis of a relation, or the source axis of its virtual master. -/
def Dev.masterIs (d : Dev) (r : Rel) (axis : Nat) : Bool :=
  if r.mCls = 0x12 then let m := d.vm r.mIdx; (m.source == 1 || m.source == 2) && m.object == axis
  else r.mIdx == axis

/-- R363: the registration of axis `i` takes its latch and begins. -/
def Dev.regStart (d : Dev) (i : Nat) (c : RegCfg) : Dev :=
  let t := d.latchAt
  let d := d.onPf c.axis (fun (p : Pf) => { p with latches := upd p.latches c.latch (fun (l : Latch) =>
    { l with armed := true, valid := false, stale := false, continuous := true, window := false, src := 1, edge := 2, object := c.unit
             since := t, hits := [] }) })
  d.onReg i (fun (r : Reg) => { r with enabled := true, missFrom := none })

/-- `REG_ENABLE` (R363, R369). -/
def specRegEnable : Spec :=
  { op := 0x0B0C, rings := [1, 2], len := exactly 4, classes := [0x01], right := .owner, timing := .latch
    values := fun c _ => byteField c.payload (decide (u8 c.payload 0 ≤ 1))
    object := fun c d =>
      let r := d.reg c.idx
      if u8 c.payload 0 = 0 ∨ r.enabled then none
      else match r.cfg, (d.pf c.idx).rel with
        | none, _ => some (ST.disabled, 0)
        | some _, none => some (ST.busy, 0)
        | some g, some m => inRange (d.masterIs m g.axis) 0
    resource := fun c d =>
      let r := d.reg c.idx
      match r.cfg with
      | some g => need (u8 c.payload 0 == 0 || r.enabled || !d.latchOwned g.axis g.latch) ST.owned 0
      | none => none
    budget := fun c d =>
      if u8 c.payload 0 = 0 then none else (d.onReg c.idx (fun (r : Reg) => { r with enabled := true })).budgetCheck
    apply := fun c d =>
      let r := d.reg c.idx
      let on := u8 c.payload 0 == 1
      if r.enabled = on then d.says ST.noChange
      else match r.cfg with
        | some g =>
          if on then (d.regStart c.idx g).done
          else
            let d := d.onReg c.idx (fun (r : Reg) => { r with enabled := false })
            (d.onPf g.axis (fun (p : Pf) => { p with latches := upd p.latches g.latch (fun (l : Latch) => { l with armed := false }) })).done
        | none => d.done }

/-! ### Events and counters -/

/-- R36, R369: an engine's causes are served by the owner of the compartment of the packet, or by the cell owner. -/
def capRight (c : Cmd) (d : Dev) : Verdict :=
  let p := c.port.val
  if c.cls = 0x16 then need (if c.comp = 0xFF then d.cps.cellOwner == p else d.owns p c.comp) ST.notOwner 0
  else match d.owner 0x06 c.idx with
    | some k => need (d.owns p k) ST.notOwner 0
    | none => some (ST.notOwner, 0)

/-- `CAP_EVENT_ACK` (R368, R369). -/
def specCapEventAck : Spec :=
  { op := 0x0B0D, rings := [1, 2, 3], len := exactly 4, classes := [0x06, 0x16], right := .own, timing := .latch
    rights := capRight
    apply := fun c d => (d.ack (if c.cls = 0x16 then 352 + c.idx else 288 + c.idx) (u32 c.payload 0)).done }

/-- `REG_EVENT_ACK` (R368, R369). -/
def specRegEventAck : Spec :=
  { op := 0x0B0E, rings := [1, 2, 3], len := exactly 4, classes := [0x01], right := .owner, timing := .latch
    apply := fun c d =>
      ((d.onReg c.idx (fun (r : Reg) => { r with events := clearMask r.events (u32 c.payload 0) })).settleOf 0x01 c.idx).done }

/-- `CAP_COUNTERS_CLEAR` (R367, R369). -/
def specCapCountersClear : Spec :=
  { op := 0x0B0F, rings := [1, 2, 3], len := exactly 0, classes := [0x16], right := .own, timing := .latch
    rights := capRight
    apply := fun c d => (d.onEng c.idx (fun (e : Eng) => { e with peak := e.fill, merges := 0 })).done }

/-- `TRIG_CONFIGURE` (R369). -/
def execTrigConfigure (c : Cmd) (s : State) : Host.Outcome State Fault Refusal := .next (s.run specTrigConfigure c)
/-- `TRIG_ENABLE` (R346). -/
def execTrigEnable (c : Cmd) (s : State) : Host.Outcome State Fault Refusal := .next (s.run specTrigEnable c)
/-- `TRIG_QUERY` (R369). -/
def execTrigQuery (c : Cmd) (s : State) : Host.Outcome State Fault Refusal := .next (s.run specTrigQuery c)
/-- `TRIGIO_CONFIGURE` (R347). -/
def execTrigioConfigure (c : Cmd) (s : State) : Host.Outcome State Fault Refusal := .next (s.run specTrigioConfigure c)
/-- `CAP_CONFIGURE` (R352). -/
def execCapConfigure (c : Cmd) (s : State) : Host.Outcome State Fault Refusal := .next (s.run specCapConfigure c)
/-- `CAP_ARM` (R348). -/
def execCapArm (c : Cmd) (s : State) : Host.Outcome State Fault Refusal := .next (s.run specCapArm c)
/-- `CAP_STOP` (R356). -/
def execCapStop (c : Cmd) (s : State) : Host.Outcome State Fault Refusal := .next (s.run specCapStop c)
/-- `CAP_READ` (R357). -/
def execCapRead (c : Cmd) (s : State) : Host.Outcome State Fault Refusal := .next (s.run specCapRead c)
/-- `LANDING_CONFIGURE` (R358). -/
def execLandingConfigure (c : Cmd) (s : State) : Host.Outcome State Fault Refusal := .next (s.run specLandingConfigure c)
/-- `FLUME_RING_CONFIGURE` (R358). -/
def execFlumeRingConfigure (c : Cmd) (s : State) : Host.Outcome State Fault Refusal := .next (s.run specFlumeRingConfigure c)
/-- `REG_CONFIGURE` (R363). -/
def execRegConfigure (c : Cmd) (s : State) : Host.Outcome State Fault Refusal := .next (s.run specRegConfigure c)
/-- `REG_ENABLE` (R363). -/
def execRegEnable (c : Cmd) (s : State) : Host.Outcome State Fault Refusal := .next (s.run specRegEnable c)
/-- `CAP_EVENT_ACK` (R368). -/
def execCapEventAck (c : Cmd) (s : State) : Host.Outcome State Fault Refusal := .next (s.run specCapEventAck c)
/-- `REG_EVENT_ACK` (R368). -/
def execRegEventAck (c : Cmd) (s : State) : Host.Outcome State Fault Refusal := .next (s.run specRegEventAck c)
/-- `CAP_COUNTERS_CLEAR` (R369). -/
def execCapCountersClear (c : Cmd) (s : State) : Host.Outcome State Fault Refusal := .next (s.run specCapCountersClear c)

end Sys2Proof.Machine
end

