-- ==== Sys2Proof/Machine/CmdIo.lean ====
section
/-! DEFINITION. Areas 0x0C and 0x0D: digital inputs and outputs and the CAN FD channels (R421-R442). -/

namespace Sys2Proof.Machine

/-! ### Digital inputs and outputs -/

/-- A change of the field I/O. -/
def Dev.onIo (d : Dev) (f : Io → Io) : Dev := { d with io := f d.io }

/-- `DI_CONFIGURE` (R421, R422, R431, R442). -/
def specDiConfigure : Spec :=
  { op := 0x0C01, rings := [2], len := exactly 8, classes := [0x09], right := .owner, timing := .latch
    values := fun c _ =>
      let p := c.payload
      firstFail [inRange (u8 p 0 == 1 || u8 p 0 == 3) 0, need (decide (u8 p 1 ≤ 3)) ST.reserved 0,
        inRange (decide (2 ≤ u16 p 2) && decide (u16 p 2 ≤ 4096)) 2, inRange (decide (1000 ≤ u32 p 4) && decide (u32 p 4 ≤ 64000000)) 4]
    apply := fun c d =>
      let p := c.payload
      (d.onDi c.idx (fun (x : Di) => { x with diType := u8 p 0, edgeEvents := u8 p 1, cntN := u16 p 2, debounce := u32 p 4 })).done }

/-- `DI_TEST` (R424, R442). -/
def specDiTest : Spec :=
  { op := 0x0C02, rings := [1, 2], len := exactly 4, classes := [0x09], right := .owner, timing := .latch
    values := fun c _ => byteField c.payload (decide (u8 c.payload 0 ≤ 1))
    apply := fun c d =>
      let on := u8 c.payload 0 == 1
      if (d.di c.idx).test = on then d.says ST.noChange
      else ((d.onDi c.idx (fun (x : Di) => { x with test := on })).onIo Io.modes).done }

/-- `FIELD_SUPPLY_CONFIGURE` (R424, R442). -/
def specFieldSupplyConfigure : Spec :=
  { op := 0x0C03, rings := [2], len := exactly 4, classes := [0x00], right := .cellOwner, timing := .latch
    values := fun c _ => firstFail [inRange (decide (1 ≤ u16 c.payload 0) && decide (u16 c.payload 0 ≤ 1000)) 0, rsv c.payload 2 2]
    apply := fun c d => (d.onIo (fun (x : Io) => { x with recoverMs := u16 c.payload 0 })).done }

/-- `DO_CONFIGURE` (R427, R442). -/
def specDoConfigure : Spec :=
  { op := 0x0C04, rings := [2], len := exactly 4, classes := [0x0A], right := .owner, timing := .latch
    values := fun c _ =>
      let p := c.payload
      firstFail [inRange (decide (u8 p 0 ≤ 1)) 0, inRange (decide (u8 p 1 ≤ 1)) 1, rsv p 2 2]
    apply := fun c d =>
      (d.onDo c.idx (fun (o : Do) => { o with restart := u8 c.payload 0 == 1, offTest := u8 c.payload 1 == 1 })).done }

/-- R426: a commanded level of an output. -/
def Do.set (o : Do) (v : Bool) : Do := ({ o with command := v } : Do).follow

/-- `DO_SET` (R426, R428, R442). -/
def specDoSet : Spec :=
  { op := 0x0C05, rings := [1, 2], len := exactly 4, classes := [0x0C], right := .owner, timing := .latch
    resource := fun c d => need ((bitsSet (u16 c.payload 0) 16).all (fun (n : Nat) => d.owner 0x0A n == some c.idx)) ST.owned 0
    apply := fun c d =>
      ((bitsSet (u16 c.payload 0) 16).foldl (fun (d : Dev) (n : Nat) => d.onDo n (fun (o : Do) => o.set (bit (u16 c.payload 2) n))) d).done }

/-- `DO_FAULT_CLEAR` (R428). -/
def specDoFaultClear : Spec :=
  { op := 0x0C06, rings := [1, 2], len := exactly 0, classes := [0x0A], right := .owner, timing := .latch, atEffect := true
    object := fun c d => need (!(d.dout c.idx).overtemp) ST.causeActive 0
    apply := fun c d =>
      if !(d.dout c.idx).live then d.says ST.noChange
      else (d.onDo c.idx (fun (o : Do) => ({ o with overload := false, held := false, retrying := false } : Do).follow)).done }

/-- R442: the causes of a DI or DO are served by its owner, those of the summary by the cell owner. -/
def ioRight (c : Cmd) (d : Dev) : Verdict :=
  if c.cls = 0 then need (d.cps.cellOwner == c.port.val) ST.notCellOwner 0
  else match d.owner c.cls c.idx with
    | some k => need (d.owns c.port.val k) ST.notOwner 0
    | none => some (ST.notOwner, 0)

/-- `IO_EVENT_ACK` (R431, R442). -/
def specIoEventAck : Spec :=
  { op := 0x0C07, rings := [1, 2, 3], len := exactly 4, classes := [0x09, 0x0A, 0x00], right := .own, timing := .latch
    rights := ioRight
    apply := fun c d =>
      (d.ack (if c.cls = 0x09 then 360 + c.idx else if c.cls = 0x0A then 392 + c.idx else 408) (u32 c.payload 0)).done }

/-- `IO_FLAGS_CLEAR` (R442). -/
def specIoFlagsClear : Spec :=
  { op := 0x0C08, rings := [1, 2, 3], len := exactly 0, classes := [0x09, 0x0A], right := .owner, timing := .latch
    apply := fun c d =>
      if c.cls = 0x09 then (d.onDi c.idx (fun (x : Di) => { x with lostSeen := false })).done
      else (d.onDo c.idx (fun (o : Do) => { o with seen := 0, retries := 0 })).done }

/-! ### CAN FD -/

/-- R442: a channel that is configured and filtered only while stopped. -/
def Dev.canStopped (d : Dev) (n : Nat) : Verdict := need ((d.can n).state == 0) ST.cyclic 0

/-- `CAN_CONFIGURE` (R432, R433, R442). -/
def specCanConfigure : Spec :=
  { op := 0x0D01, rings := [2], len := exactly 24, classes := [0x08], right := .owner, timing := .latch
    values := fun c _ =>
      let p := c.payload
      firstFail [need (decide (u8 p 1 < 16)) ST.reserved 0, rsv p 9 1, rsv p 18 6,
        (match canCfgFault p with | some o => some (ST.badValue, o) | none => none)]
    object := fun c d => d.canStopped c.idx
    apply := fun c d => (d.onCan c.idx (fun (x : Can) => { x with cfg := canCfgOf c.payload })).done }

/-- The filter entry at offset `o` of a payload (R442). -/
def filterAt (p : Bytes) (o : Nat) : CanFilter := ⟨u32 p o, u32 p (o + 4), u8 p (o + 8), u8 p (o + 9), u8 p (o + 10), bit (u8 p (o + 11)) 0⟩

/-- The fields of a filter entry (R442). -/
def filterFault (p : Bytes) (o : Nat) : Verdict :=
  let t := u8 p (o + 10)
  firstFail [inRange (decide (u8 p (o + 8) ≤ 1)) (o + 8), need (decide (u8 p (o + 9) ≤ 3)) ST.reserved 0,
    inRange (decide (t ≤ 0x41) || t == 0xFF) (o + 10), need (decide (u8 p (o + 11) ≤ 1)) ST.reserved 0]

/-- `CAN_FILTER_SET` (R436, R442). -/
def specCanFilterSet : Spec :=
  { op := 0x0D02, rings := [2], len := fun n => decide (16 ≤ n) && n % 12 == 4, classes := [0x08], right := .owner, timing := .latch
    form := fun c => need (c.payload.length == 4 + 12 * u8 c.payload 1) ST.badLength 0
    values := fun c _ =>
      let p := c.payload
      firstFail ([inRange (decide (u8 p 0 ≤ 127)) 0, inRange (decide (1 ≤ u8 p 1) && decide (u8 p 0 + u8 p 1 ≤ 128)) 1, rsv p 2 2] ++
        (List.range (u8 p 1)).map (fun (k : Nat) => filterFault p (4 + 12 * k)))
    object := fun c d => d.canStopped c.idx
    apply := fun c d =>
      let p := c.payload
      let put (l : List CanFilter) (k : Nat) : List CanFilter := l.set (u8 p 0 + k) (filterAt p (4 + 12 * k))
      (d.onCan c.idx (fun (x : Can) => { x with filters := (List.range (u8 p 1)).foldl put x.filters })).done }

/-- `CAN_START` (R432, R442): error counters begin at 0. A channel never configured has no bit timing (DEDUCED, log entry 162). -/
def specCanStart : Spec :=
  { op := 0x0D03, rings := [2], len := exactly 0, classes := [0x08], right := .owner, timing := .latch
    object := fun c d => need ((d.can c.idx).cfg.nBrp != 0) ST.disabled 0
    apply := fun c d =>
      if (d.can c.idx).state ≠ 0 then d.says ST.noChange
      else (d.onCan c.idx (fun (x : Can) => ({ x with tec := 0, recv := 0 } : Can).setState 1)).done }

/-- R434: whether a chosen frame has started is the bus's affair. -/
def Dev.canSof (d : Dev) (n : Nat) : Dev := ((if Config.canSof d.free then d.onCan n Can.sof else d) : Dev).skip 1

/-- `CAN_STOP` (R439). -/
def specCanStop : Spec :=
  { op := 0x0D04, rings := [1, 2], len := exactly 0, classes := [0x08], right := .owner, timing := .latch
    apply := fun c d =>
      if (d.can c.idx).state = 0 then d.says ST.noChange
      else
        let d := (d.canSof c.idx).onCan c.idx Can.stop
        if (d.can c.idx).stopping then { dev := d, hold := .canStop c.idx } else d.done }

/-- R442: the frame that a `CAN_TX` payload describes. -/
def txFrame (p : Bytes) : CanFrame :=
  let f := u8 p 1
  { id := u32 p 4, ext := bit f 0, remote := bit f 1, fd := bit f 2, brs := bit f 3, esi := false, dlc := u8 p 2, data := p.drop 8
    stamp := 0, filter := 0 }

/-- R432, R442: the fields of a `CAN_TX`; a remote frame carries no data bytes (DEDUCED, log entry 179). -/
def canTxFault (c : Cmd) (d : Dev) : Verdict :=
  let p := c.payload
  let f := u8 p 1
  firstFail [
    inRange (decide (u8 p 0 ≤ 31)) 0, need (decide (f < 32)) ST.reserved 0,
    inRange (!(bit f 2 && bit f 1) && !(bit f 3 && !bit f 2) && !(bit f 2 && !bit (d.can c.idx).cfg.flags 3)) 1,
    inRange (decide (u8 p 2 ≤ if bit f 2 then 15 else 8)) 2, rsv p 3 1,
    inRange (decide (u32 p 4 < 2 ^ (if bit f 0 then 29 else 11))) 4]

/-- `CAN_TX` (R432, R434, R442). -/
def specCanTx : Spec :=
  { op := 0x0D05, rings := [1], len := fun n => decide (8 ≤ n) && decide (n ≤ 72), classes := [0x08], right := .owner, timing := .latch
    form := fun c =>
      let f := txFrame c.payload
      need (c.payload.length == 8 + (if f.remote then 0 else dlcLen f.dlc)) ST.badLength 0
    values := canTxFault
    object := fun c d =>
      let x := d.can c.idx
      firstFail [need (x.state != 0) ST.disabled 0, need (x.cfg.mode == 0 || x.cfg.mode == 3) ST.modeConflict 0,
        need ((x.tx.getD (u8 c.payload 0) CanTx.reset).state == 0) ST.busy 0]
    apply := fun c d =>
      let p := c.payload
      let b : CanTx := { CanTx.reset with state := 1, frame := some (txFrame p), notify := bit (u8 p 1) 4 }
      ((d.onCan c.idx (fun (x : Can) => { x with tx := x.tx.set (u8 p 0) b })).canSof c.idx).done }

/-- R435: an abort of one buffer. -/
def Can.abortTx (c : Can) (n : Nat) : Can :=
  match (c.tx.getD n CanTx.reset).state with
  | 1 => c.finish n 2
  | 2 => { c with tx := upd c.tx n (fun (b : CanTx) => { b with state := 3 }) }
  | _ => c

/-- `CAN_TX_ABORT` (R435). -/
def specCanTxAbort : Spec :=
  { op := 0x0D06, rings := [1], len := exactly 4, classes := [0x08], right := .owner, timing := .latch
    apply := fun c d =>
      let m := bitsSet (u32 c.payload 0) 32
      if m.all (fun (n : Nat) => ((d.can c.idx).tx.getD n CanTx.reset).state == 0) then d.says ST.noChange
      else ((d.canSof c.idx).onCan c.idx (fun (x : Can) => m.foldl Can.abortTx x)).done }

/-- `CAN_FIFO_READ` (R438, R440, R442): the frames leave the FIFO at the decode. -/
def specCanFifoRead : Spec :=
  { op := 0x0D07, rings := [1, 2, 3], len := exactly 4, classes := [0x08], right := .owner, timing := .now
    values := fun c _ => firstFail [inRange (decide (u8 c.payload 0 ≤ 1)) 0,
      inRange (decide (1 ≤ u8 c.payload 1) && decide (u8 c.payload 1 ≤ 42)) 1, rsv c.payload 2 2]
    apply := fun c d =>
      let k := u8 c.payload 0
      let q := (d.can c.idx).fifos.getD k ⟨[], 0, 0⟩
      let out := q.frames.take (u8 c.payload 1)
      let left := q.frames.drop (u8 c.payload 1)
      let body := (out.mapIdx (fun (i : Nat) (f : CanFrame) => let x := Config.fifoField (d.free + i); e32 0 ++ f.mirror x.1 x.2)).flatten
      let d := d.onCan c.idx (fun (x : Can) => { x with fifos := upd x.fifos k (fun (f : CanFifo) => { f with frames := left }) })
      (d.skip out.length).reply (e16 out.length ++ e16 left.length ++ body) }

/-- `CAN_RECOVER` (R439). -/
def specCanRecover : Spec :=
  { op := 0x0D08, rings := [1, 2], len := exactly 0, classes := [0x08], right := .owner, timing := .latch
    apply := fun c d =>
      if (d.can c.idx).state ≠ 3 then d.says ST.noChange else (d.onCan c.idx (fun (x : Can) => x.setState 4)).done }

/-- `CAN_EVENT_ACK` (R441). -/
def specCanEventAck : Spec :=
  { op := 0x0D09, rings := [1, 2, 3], len := exactly 4, classes := [0x08], right := .owner, timing := .latch
    apply := fun c d => (d.ack (356 + c.idx) (u32 c.payload 0)).done }

/-- `CAN_COUNTERS_CLEAR` (R440, R442): the error counters of fault confinement are none of these. -/
def specCanCountersClear : Spec :=
  { op := 0x0D0A, rings := [1, 2, 3], len := exactly 0, classes := [0x08], right := .owner, timing := .latch
    apply := fun c d =>
      (d.onCan c.idx (fun (x : Can) =>
        { x with
          txOk := 0, rxOk := 0, errors := 0, busOffs := 0, rxLost := 0, tdcRange := false
          fifos := x.fifos.map (fun (f : CanFifo) => { f with peak := f.frames.length, dropped := 0 }) })).done }

/-- `DI_CONFIGURE` (R422). -/
def execDiConfigure (c : Cmd) (s : State) : Host.Outcome State Fault Refusal := .next (s.run specDiConfigure c)
/-- `DI_TEST` (R424). -/
def execDiTest (c : Cmd) (s : State) : Host.Outcome State Fault Refusal := .next (s.run specDiTest c)
/-- `FIELD_SUPPLY_CONFIGURE` (R424). -/
def execFieldSupplyConfigure (c : Cmd) (s : State) : Host.Outcome State Fault Refusal := .next (s.run specFieldSupplyConfigure c)
/-- `DO_CONFIGURE` (R427). -/
def execDoConfigure (c : Cmd) (s : State) : Host.Outcome State Fault Refusal := .next (s.run specDoConfigure c)
/-- `DO_SET` (R426). -/
def execDoSet (c : Cmd) (s : State) : Host.Outcome State Fault Refusal := .next (s.run specDoSet c)
/-- `DO_FAULT_CLEAR` (R428). -/
def execDoFaultClear (c : Cmd) (s : State) : Host.Outcome State Fault Refusal := .next (s.run specDoFaultClear c)
/-- `IO_EVENT_ACK` (R431). -/
def execIoEventAck (c : Cmd) (s : State) : Host.Outcome State Fault Refusal := .next (s.run specIoEventAck c)
/-- `IO_FLAGS_CLEAR` (R442). -/
def execIoFlagsClear (c : Cmd) (s : State) : Host.Outcome State Fault Refusal := .next (s.run specIoFlagsClear c)
/-- `CAN_CONFIGURE` (R433). -/
def execCanConfigure (c : Cmd) (s : State) : Host.Outcome State Fault Refusal := .next (s.run specCanConfigure c)
/-- `CAN_FILTER_SET` (R436). -/
def execCanFilterSet (c : Cmd) (s : State) : Host.Outcome State Fault Refusal := .next (s.run specCanFilterSet c)
/-- `CAN_START` (R442). -/
def execCanStart (c : Cmd) (s : State) : Host.Outcome State Fault Refusal := .next (s.run specCanStart c)
/-- `CAN_STOP` (R439). -/
def execCanStop (c : Cmd) (s : State) : Host.Outcome State Fault Refusal := .next (s.run specCanStop c)
/-- `CAN_TX` (R434). -/
def execCanTx (c : Cmd) (s : State) : Host.Outcome State Fault Refusal := .next (s.run specCanTx c)
/-- `CAN_TX_ABORT` (R435). -/
def execCanTxAbort (c : Cmd) (s : State) : Host.Outcome State Fault Refusal := .next (s.run specCanTxAbort c)
/-- `CAN_FIFO_READ` (R438). -/
def execCanFifoRead (c : Cmd) (s : State) : Host.Outcome State Fault Refusal := .next (s.run specCanFifoRead c)
/-- `CAN_RECOVER` (R439). -/
def execCanRecover (c : Cmd) (s : State) : Host.Outcome State Fault Refusal := .next (s.run specCanRecover c)
/-- `CAN_EVENT_ACK` (R441). -/
def execCanEventAck (c : Cmd) (s : State) : Host.Outcome State Fault Refusal := .next (s.run specCanEventAck c)
/-- `CAN_COUNTERS_CLEAR` (R442). -/
def execCanCountersClear (c : Cmd) (s : State) : Host.Outcome State Fault Refusal := .next (s.run specCanCountersClear c)

end Sys2Proof.Machine
end

