-- ==== Sys2Proof/Machine/CmdTime.lean ====
section
/-! DEFINITION. Area 0x0E: cell time, PTP, compare units and check-value units (R443-R460). -/

namespace Sys2Proof.Machine

/-- A change of cell time and what runs on it. -/
def Dev.onTm (d : Dev) (f : Tm → Tm) : Dev := { d with tm := f d.tm }

/-! ### The clock -/


/-- R446. -/
def Dev.clockFree (d : Dev) : Verdict := need (!d.tm.ptp.holdsRate) ST.busy 0

/-- R445: a set or step takes effect at its latch point; the reading changes at the next stroke boundary. -/
def Dev.clockOp (d : Dev) (o : ClockOp) : Eff := (d.onTm (fun (t : Tm) => { t with pend := t.pend ++ [o] })).done

/-- `CLOCK_SET` (R445, R446, R460). -/
def specClockSet : Spec :=
  { op := 0x0E01, rings := [2], len := exactly 16, classes := [0x00], right := .cellOwner, timing := .latch
    values := fun c _ => firstFail [inRange (decide (u64 c.payload 0 < 2 ^ 48)) 0, inRange (decide (u32 c.payload 8 < 1000000000)) 8,
      rsv c.payload 12 4]
    object := fun _ d => d.clockFree
    apply := fun c d => d.clockOp (.set (u64 c.payload 0 * 1000000000 + u32 c.payload 8)) }

/-- `CLOCK_STEP` (R445, R446, R460). -/
def specClockStep : Spec :=
  { op := 0x0E02, rings := [2], len := exactly 8, classes := [0x00], right := .cellOwner, timing := .latch
    values := fun c _ => inRange (decide ((i64 c.payload 0).natAbs < 2 ^ 62)) 0
    object := fun _ d => d.clockFree
    apply := fun c d => d.clockOp (.step (i64 c.payload 0)) }

/-- `CLOCK_RATE_SET` (R444, R446, R460). -/
def specClockRateSet : Spec :=
  { op := 0x0E03, rings := [1, 2], len := exactly 8, classes := [0x00], right := .cellOwner, timing := .latch
    values := fun c _ => firstFail [inRange (decide ((i32 c.payload 0).natAbs ≤ 1000000)) 0, rsv c.payload 4 4]
    object := fun _ d => d.clockFree
    apply := fun c d => (d.onTm (fun (t : Tm) => { t with target := i32 c.payload 0 })).done }

/-- R10: the bounds of the present phase in ns from the stroke's start. -/
def Dev.phaseSpan (d : Dev) : Nat × Nat :=
  let c := d.stk.cfg
  match d.stk.phase with
  | .beacon => (0, c.latchNs)
  | .suction => (0, c.latchNs)
  | .lift => (c.latchNs, c.disNs)
  | .discharge => (c.disNs, c.slackNs)
  | .slack => (c.slackNs, d.len)

/-- `CLOCK_READ` (R443, R460): the reading at decode, an instant within the present phase. -/
def specClockRead : Spec :=
  { op := 0x0E04, rings := [1, 2, 3], len := exactly 0, classes := [0x00], right := .any, timing := .now
    apply := fun _ d =>
      let s := d.phaseSpan
      let t := d.at_ (s.1 + Config.decodeNs d.free % max 1 (s.2 - s.1))
      (d.skip 1).reply (e64 (t / 1000000000) ++ e32 (t % 1000000000) ++ e16 (Config.decodeFrac d.free) ++ zeros 2 ++ e64 d.stk.number) }

/-! ### PTP -/

/-- R460: the fields of a `PTP_CONFIGURE` payload. -/
def ptpOf (p : Bytes) : PtpCfg :=
  { mode := u8 p 0, transport := u8 p 1, domain := u8 p 2, priority1 := u8 p 3, priority2 := u8 p 4, clockClass := u8 p 5
    logSync := i8 p 6, logAnnounce := i8 p 7, logDelay := i8 p 8, announceTimeout := u8 p 9, stepNs := u32 p 12, lockNs := u32 p 16 }

/-- `PTP_CONFIGURE` (R451, R460). A new mode restarts the port; with mode 0 it is `DISABLED` (DEDUCED, log entry 184). -/
def specPtpConfigure : Spec :=
  { op := 0x0E05, rings := [2], len := exactly 24, classes := [0x00], right := .cellOwner, timing := .latch
    values := fun c _ =>
      let p := c.payload
      let within (lo hi x : Int) : Bool := decide (lo ≤ x) && decide (x ≤ hi)
      firstFail [inRange (decide (u8 p 0 ≤ 2)) 0, inRange (decide (u8 p 1 ≤ 2)) 1, inRange (decide (u8 p 2 ≤ 127)) 2,
        inRange (decide (6 ≤ u8 p 5) && !(u8 p 0 == 1 && u8 p 5 != 255)) 5, inRange (within (-7) 4 (i8 p 6)) 6,
        inRange (within (-3) 4 (i8 p 7)) 7, inRange (within (-7) 5 (i8 p 8)) 8, inRange (decide (2 ≤ u8 p 9) && decide (u8 p 9 ≤ 10)) 9,
        rsv p 10 2, inRange (decide (1 ≤ u32 p 16) && decide (u32 p 16 ≤ 1000000)) 16, rsv p 20 4]
    apply := fun c d =>
      let g := ptpOf c.payload
      let new := g.mode != d.tm.ptp.cfg.mode
      let d := d.onPtp (fun (x : Ptp) =>
        let y := { x with cfg := g }
        if new then { (y.setPort (if g.mode = 0 then 3 else 1)).setServo 0 with inBand := 0, syncSeq := none, queue := [] } else y)
      (d.onTm (fun (t : Tm) => { t with source := if new && t.source == 2 then 0 else t.source })).done }

/-- `PTP_PHY_LATENCY` (R452, R460). -/
def specPtpPhyLatency : Spec :=
  { op := 0x0E06, rings := [2], len := exactly 32, classes := [0x00], right := .cellOwner, timing := .latch
    values := fun c _ => firstFail ((List.range 8).map (fun (k : Nat) => inRange (decide (u32 c.payload (4 * k) ≤ 1000000)) (4 * k)))
    apply := fun c d =>
      (d.onPtp (fun (x : Ptp) =>
        { x with latency := (List.range 4).map (fun (k : Nat) => (u32 c.payload (8 * k), u32 c.payload (8 * k + 4))) })).done }

/-! ### Compare units -/

/-- R447-R449: compare unit `n` at a tick whose reading is `now`: it may fire, pulse its line and set its cause. -/
def Dev.tcuFire (d : Dev) (n now : Nat) (onTime : Bool) : Dev :=
  let r := (d.tcu n).fire now d.tm.rate onTime
  match r.2 with
  | none => d
  | some tag =>
    let d := d.onTcu n (fun _ => r.1)
    let d := match d.owner 0x15 n with
      | some k => d.onTm (fun (t : Tm) => { t with causes := upd t.causes k (fun (m : Nat) => setBit m n) })
      | none => d
    if (d.tcu n).line < 16 then d.lineDriven (d.tcu n).line tag else d

/-- `CMP_ARM` (R447, R448, R450, R460): an old target reached at the latch point fires first. -/
def specCmpArm : Spec :=
  { op := 0x0E10, rings := [1, 2], len := exactly 24, classes := [0x15], right := .owner, timing := .latch
    values := fun c d =>
      let p := c.payload
      let t := u64 p 0 * 1000000000 + u32 p 8
      firstFail [inRange (decide (u64 p 0 < 2 ^ 48)) 0, inRange (decide (u32 p 8 < 1000000000)) 8,
        inRange (decide ((tcuDiff d.tm.now t).natAbs ≤ 2 ^ 46 * 1000000000)) 0, inRange (decide (u8 p 12 < 16) || u8 p 12 == 0xFF) 12,
        rsv p 13 3, inRange (u64 p 16 == 0 || (decide (1000 ≤ u64 p 16) && decide (u64 p 16 ≤ 1000000000000))) 16]
    resource := fun c d => need (u8 c.payload 12 == 0xFF || d.named (d.owner 0x15 c.idx) 0x20 (u8 c.payload 12)) ST.owned 0
    apply := fun c d =>
      let p := c.payload
      let now := d.latchAt
      let d := d.tcuFire c.idx now true
      let d := d.onTcu c.idx (fun (u : Tcu) =>
        { u with state := 1, line := u8 p 12, target := u64 p 0 * 1000000000 + u32 p 8, period := u64 p 16 })
      (d.tcuFire c.idx now false).done }

/-- `CMP_DISARM` (R450, R460). -/
def specCmpDisarm : Spec :=
  { op := 0x0E11, rings := [1, 2], len := exactly 0, classes := [0x15], right := .owner, timing := .latch
    apply := fun c d =>
      let d := d.tcuFire c.idx d.latchAt true
      if (d.tcu c.idx).state ≠ 1 then d.says ST.noChange
      else (d.onTcu c.idx (fun (u : Tcu) => { u with state := 0 })).done }

/-! ### Check-value units -/

/-- R460: the fields of a `CRC_CONFIGURE` payload. -/
def crcCfgOf (p : Bytes) : CrcCfg :=
  { poly := u8 p 0, kind := u8 p 1, index := u8 p 2, flags := u8 p 3, sel := u16 p 4, spanOff := u16 p 6, spanLen := u16 p 8
    chkOff := u16 p 10, ctrOff := u16 p 12, ctrBit := u8 p 14, ctrWidth := u8 p 15, stepMax := u8 p 16, timeout := u32 p 20 }

/-- `CRC_CONFIGURE` (R455-R458, R460). -/
def specCrcConfigure : Spec :=
  { op := 0x0E20, rings := [2], len := exactly 24, classes := [0x0E], right := .owner, timing := .latch
    values := fun c _ =>
      let p := c.payload
      firstFail [inRange (decide (u8 p 0 ≤ 3)) 0, inRange (decide (u8 p 1 ≤ 3)) 1,
        inRange (decide (u8 p 2 < [16, 1, 1, 4].getD (u8 p 1) 1)) 2, need (decide (u8 p 3 ≤ 3)) ST.reserved 0,
        inRange (decide (u16 p 4 < [65536, 8, 64, 128].getD (u8 p 1) 1)) 4, inRange (decide (u16 p 6 ≤ 4095)) 6,
        inRange (decide (u16 p 8 ≤ 4096)) 8, inRange (decide (u8 p 14 ≤ 28) && decide (u8 p 14 + u8 p 15 ≤ 32)) 14,
        inRange ([0, 4, 8, 16].contains (u8 p 15)) 15, inRange (decide (1 ≤ u8 p 16)) 16, rsv p 17 3,
        inRange (u32 p 20 == 0 || (decide (10 ≤ u32 p 20) && decide (u32 p 20 ≤ 10000000))) 20]
    object := fun c d => need (!(d.crcu c.idx).enabled) ST.busy 0
    resource := fun c d =>
      let p := c.payload
      let k := d.owner 0x0E c.idx
      need (match u8 p 1 with
        | 0 => d.named k 0x03 (u8 p 2) | 1 => k == some (u16 p 4) | 2 => d.named k 0x06 (u16 p 4) | _ => d.named k 0x08 (u8 p 2))
        ST.owned 0
    apply := fun c d => (d.onCrcu c.idx (fun (u : Crcu) => { u with cfg := some (crcCfgOf c.payload) })).done }

/-- `CRC_ENABLE` (R457, R460). A unit never configured cannot be enabled (DEDUCED, log entry 162). -/
def specCrcEnable : Spec :=
  { op := 0x0E21, rings := [1, 2], len := exactly 4, classes := [0x0E], right := .owner, timing := .latch
    values := fun c _ => byteField c.payload (decide (u8 c.payload 0 ≤ 1))
    object := fun c d => need (u8 c.payload 0 == 0 || (d.crcu c.idx).cfg.isSome) ST.disabled 0
    apply := fun c d =>
      let on := u8 c.payload 0 == 1
      if (d.crcu c.idx).enabled = on then d.says ST.noChange
      else (d.onCrcu c.idx (fun (u : Crcu) => { u with enabled := on, ctr := none })).done }

/-- `CRC_READ` (R459, R460). -/
def specCrcRead : Spec :=
  { op := 0x0E22, rings := [1, 2, 3], len := exactly 0, classes := [0x0E], right := .owner, timing := .now
    apply := fun c d => d.reply (d.crcu c.idx).bytes }

/-- `CRC_COUNTERS_CLEAR` (R459, R460). -/
def specCrcCountersClear : Spec :=
  { op := 0x0E23, rings := [1, 2, 3], len := exactly 0, classes := [0x0E], right := .owner, timing := .latch
    apply := fun c d =>
      (d.onCrcu c.idx (fun (u : Crcu) => { u with timeouts := 0, good := 0, bad := 0, repeat_ := 0, skip := 0 })).done }

/-- R449, R459, R460: whose right the causes of a target need. -/
def timeRight (c : Cmd) (d : Dev) : Verdict :=
  let p := c.port.val
  if c.cls = 0 then need (d.cps.cellOwner == p) ST.notCellOwner 0
  else if c.cls = 0x0C then need ((d.comp c.idx).state == 0 || d.owns p c.idx) ST.notOwner 0
  else match d.owner 0x0E c.idx with
    | some k => need (d.owns p k) ST.notOwner 0
    | none => some (ST.notOwner, 0)

/-- `TIME_EVENT_ACK` (R449, R458-R460). -/
def specTimeEventAck : Spec :=
  { op := 0x0E30, rings := [1, 2, 3], len := exactly 4, classes := [0x0C, 0x00, 0x0E], right := .own, timing := .latch
    rights := timeRight
    apply := fun c d =>
      (d.ack (if c.cls = 0x0C then 448 + c.idx else if c.cls = 0 then 456 else 464 + c.idx) (u32 c.payload 0)).done }

/-- `CLOCK_SET` (R445). -/
def execClockSet (c : Cmd) (s : State) : Host.Outcome State Fault Refusal := .next (s.run specClockSet c)
/-- `CLOCK_STEP` (R445). -/
def execClockStep (c : Cmd) (s : State) : Host.Outcome State Fault Refusal := .next (s.run specClockStep c)
/-- `CLOCK_RATE_SET` (R444). -/
def execClockRateSet (c : Cmd) (s : State) : Host.Outcome State Fault Refusal := .next (s.run specClockRateSet c)
/-- `CLOCK_READ` (R460). -/
def execClockRead (c : Cmd) (s : State) : Host.Outcome State Fault Refusal := .next (s.run specClockRead c)
/-- `PTP_CONFIGURE` (R460). -/
def execPtpConfigure (c : Cmd) (s : State) : Host.Outcome State Fault Refusal := .next (s.run specPtpConfigure c)
/-- `PTP_PHY_LATENCY` (R452). -/
def execPtpPhyLatency (c : Cmd) (s : State) : Host.Outcome State Fault Refusal := .next (s.run specPtpPhyLatency c)
/-- `CMP_ARM` (R447). -/
def execCmpArm (c : Cmd) (s : State) : Host.Outcome State Fault Refusal := .next (s.run specCmpArm c)
/-- `CMP_DISARM` (R450). -/
def execCmpDisarm (c : Cmd) (s : State) : Host.Outcome State Fault Refusal := .next (s.run specCmpDisarm c)
/-- `CRC_CONFIGURE` (R460). -/
def execCrcConfigure (c : Cmd) (s : State) : Host.Outcome State Fault Refusal := .next (s.run specCrcConfigure c)
/-- `CRC_ENABLE` (R457). -/
def execCrcEnable (c : Cmd) (s : State) : Host.Outcome State Fault Refusal := .next (s.run specCrcEnable c)
/-- `CRC_READ` (R459). -/
def execCrcRead (c : Cmd) (s : State) : Host.Outcome State Fault Refusal := .next (s.run specCrcRead c)
/-- `CRC_COUNTERS_CLEAR` (R460). -/
def execCrcCountersClear (c : Cmd) (s : State) : Host.Outcome State Fault Refusal := .next (s.run specCrcCountersClear c)
/-- `TIME_EVENT_ACK` (R460). -/
def execTimeEventAck (c : Cmd) (s : State) : Host.Outcome State Fault Refusal := .next (s.run specTimeEventAck c)

end Sys2Proof.Machine
end

