-- ==== Sys2Proof/Machine/CmdPower.lean ====
section
/-! DEFINITION. Area 0x0F: the save set, the backup registers, the options and the journal (R471, R476, R486-R490). -/

namespace Sys2Proof.Machine

/-- R471: B, the largest save set the configuration can reach. -/
def Pwr.bound (p : Pwr) : Nat := 1900000 + p.save.tailBytes

/-- `SAVE_CONFIGURE` (R471, R490). -/
def specSaveConfigure : Spec :=
  { op := 0x0F01, rings := [2], len := exactly 24, classes := [0x00], right := .cellOwner, timing := .latch
    values := fun c _ =>
      let p := c.payload
      firstFail [inRange (decide (u32 p 0 ≤ 1048576) && u32 p 0 % 16 == 0) 0, inRange (decide (u32 p 4 ≤ 2 ^ 31)) 4,
        need (decide (u8 p 16 ≤ 1)) ST.reserved 0, rsv p 17 7]
    apply := fun c d =>
      let p := c.payload
      let d := d.onPwr (fun (w : Pwr) => { w with save := ⟨u32 p 0, u32 p 4, u64 p 8, bit (u8 p 16) 0⟩ })
      d.reply (e32 d.pwr.bound) }

/-- The offset and length of a backup access (R490). -/
def backupFault (c : Cmd) (_ : Dev) : Verdict :=
  let p := c.payload
  firstFail [rsv p 1 1, inRange (decide (1 ≤ u16 p 2) && decide (u16 p 2 ≤ 256) && decide (u8 p 0 + u16 p 2 ≤ 256)) 2]

/-- `BACKUP_READ` (R476, R490). -/
def specBackupRead : Spec :=
  { op := 0x0F02, rings := [1, 2, 3], len := exactly 4, classes := [0x00], right := .any, timing := .now
    values := backupFault
    apply := fun c d => d.reply (slice d.pwr.bkp.regs (u8 c.payload 0) (u16 c.payload 2)) }

/-- Bytes written over a byte string from offset `o`. -/
def overwrite (b : Bytes) (o : Nat) (data : Bytes) : Bytes := b.take o ++ data ++ b.drop (o + data.length)

/-- `BACKUP_WRITE` (R476, R490). -/
def specBackupWrite : Spec :=
  { op := 0x0F03, rings := [1, 2], len := fun n => decide (5 ≤ n) && decide (n ≤ 260), classes := [0x00], right := .cellOwner
    timing := .latch
    form := fun c => need (c.payload.length == 4 + u16 c.payload 2) ST.badLength 0
    values := backupFault
    apply := fun c d =>
      (d.onPwr (fun (w : Pwr) => { w with bkp := { w.bkp with regs := overwrite w.bkp.regs (u8 c.payload 0) (c.payload.drop 4) } })).done }

/-- R486: the bytes of an item of the options. -/
def itemLen (item : Nat) : Option Nat :=
  if item = 1 then some 4 else if item = 2 ∨ item = 3 then some 64 else if item = 4 ∨ item = 5 then some 4
  else if 0x10 ≤ item ∧ item ≤ 0x13 then some 32 else if item = 0x20 then some 64 else if item = 0x21 then some 8 else none

/-- R32, R420, R486: the values of an item; offsets count from the start of the payload. -/
def itemFault (d : Dev) (item : Nat) (b : Bytes) : Verdict :=
  match item with
  | 0x01 => firstFail [inRange (decide (u8 b 0 ≤ 3)) 4, inRange ([4, 8, 16, 32].contains (u8 b 1)) 5, rsv b 2 2]
  | 0x04 => inRange (decide (d.pwr.opt.fwFloor ≤ u32 b 0)) 4
  | 0x05 => firstFail [inRange (decide (u8 b 0 ≤ 1)) 4, rsv b 1 3]
  | 0x20 => firstFail [need (decide (u8 b 0 < 16) && allZero b 1 1 && allZero b 6 2 && allZero b 37 7 && allZero b 60 4) ST.reserved 0,
      (match h2CfgFault b with | some o => some (ST.badValue, 4 + o) | none => none)]
  | 0x21 => rsv b 6 2
  | _ => none

/-- R486: an item written. -/
def Options.put (o : Options) (item : Nat) (b : Bytes) : Options :=
  match item with
  | 0x01 => { o with stroke := b }
  | 0x02 => { o with keys := o.keys.set 0 b }
  | 0x03 => { o with keys := o.keys.set 1 b }
  | 0x04 => { o with fwFloor := u32 b 0 }
  | 0x05 => { o with keyLock := o.keyLock || u8 b 0 == 1 }
  | 0x20 => { o with h2 := b }
  | 0x21 => { o with mac := b }
  | n => { o with psk := o.psk.set (n - 0x10) (some b) }

/-- `OPTIONS_WRITE` (R486, R490). -/
def specOptionsWrite : Spec :=
  { op := 0x0F04, rings := [2], len := fun n => decide (4 ≤ n), classes := [0x00], right := .cellOwner, timing := .latch
    form := fun c => need (c.payload.length == 4 + u16 c.payload 2) ST.badLength 0
    values := fun c d =>
      let p := c.payload
      firstFail [inRange (itemLen (u16 p 0)).isSome 0, inRange (itemLen (u16 p 0) == some (u16 p 2)) 2, itemFault d (u16 p 0) (p.drop 4)]
    object := fun c d => need (!((u16 c.payload 0 == 2 || u16 c.payload 0 == 3) && d.pwr.opt.keyLock)) ST.busy 0
    apply := fun c d =>
      let put (o : Options) : Options := o.put (u16 c.payload 0) (c.payload.drop 4)
      (d.onPwr (fun (w : Pwr) => { w with optA := put w.optA, optB := put w.optB, opt := put w.opt })).done }

/-- R486: what `OPTIONS_READ` returns of an item. -/
def Options.get (o : Options) (item : Nat) : Bytes :=
  match item with
  | 0x01 => o.stroke
  | 0x02 => o.keys.getD 0 []
  | 0x03 => o.keys.getD 1 []
  | 0x04 => e32 o.fwFloor
  | 0x05 => e8 (b2n o.keyLock) ++ zeros 3
  | 0x20 => o.h2
  | 0x21 => o.mac
  | n => e8 (b2n (o.psk.getD (n - 0x10) none).isSome) ++ zeros 3

/-- `OPTIONS_READ` (R486, R490). -/
def specOptionsRead : Spec :=
  { op := 0x0F05, rings := [1, 2, 3], len := exactly 4, classes := [0x00], right := .any, timing := .now
    values := fun c _ => firstFail [inRange (itemLen (u16 c.payload 0)).isSome 0, rsv c.payload 2 2]
    apply := fun c d => d.reply (d.pwr.opt.get (u16 c.payload 0)) }

/-- R487: the 32 bytes of a journal entry. -/
def JEntry.bytes (e : JEntry) : Bytes :=
  e32 e.seq ++ e16 e.code ++ e16 e.source ++ e64 e.stroke ++ e64 (e.time / 1000000000) ++ e32 (e.time % 1000000000) ++ e32 e.detail

/-- `JOURNAL_READ` (R487, R490). The two sequence numbers of an empty journal are open. -/
def specJournalRead : Spec :=
  { op := 0x0F06, rings := [1, 2, 3], len := exactly 8, classes := [0x00], right := .any, timing := .now
    values := fun c _ => firstFail [inRange (decide (1 ≤ u16 c.payload 4) && decide (u16 c.payload 4 ≤ 127)) 4, rsv c.payload 6 2]
    apply := fun c d =>
      let j := d.pwr.journal
      let none_ := Config.noEntry d.free
      let old := match j.head? with | some e => e.seq | none => none_.1
      let new := match j.getLast? with | some e => e.seq | none => none_.2
      let from_ := (j.dropWhile (fun (e : JEntry) => decide (e.seq < u32 c.payload 0))).take (u16 c.payload 4)
      (d.skip 1).reply (e32 old ++ e32 new ++ from_.flatMap JEntry.bytes) }

/-- `PWR_EVENT_ACK` (R489). -/
def specPwrEventAck : Spec :=
  { op := 0x0F07, rings := [1, 2, 3], len := exactly 4, classes := [0x00], right := .cellOwner, timing := .latch
    apply := fun c d => (d.ack 480 (u32 c.payload 0)).done }

/-- `RESET_COUNTERS_CLEAR` (R477). -/
def specResetCountersClear : Spec :=
  { op := 0x0F08, rings := [2], len := exactly 0, classes := [0x00], right := .cellOwner, timing := .latch
    apply := fun _ d => (d.onPwr (fun (w : Pwr) => { w with bkp := { w.bkp with powerOns := 0, pinResets := 0 } })).done }

/-- `SAVE_CONFIGURE` (R490). -/
def execSaveConfigure (c : Cmd) (s : State) : Host.Outcome State Fault Refusal := .next (s.run specSaveConfigure c)
/-- `BACKUP_READ` (R476). -/
def execBackupRead (c : Cmd) (s : State) : Host.Outcome State Fault Refusal := .next (s.run specBackupRead c)
/-- `BACKUP_WRITE` (R476). -/
def execBackupWrite (c : Cmd) (s : State) : Host.Outcome State Fault Refusal := .next (s.run specBackupWrite c)
/-- `OPTIONS_WRITE` (R486). -/
def execOptionsWrite (c : Cmd) (s : State) : Host.Outcome State Fault Refusal := .next (s.run specOptionsWrite c)
/-- `OPTIONS_READ` (R486). -/
def execOptionsRead (c : Cmd) (s : State) : Host.Outcome State Fault Refusal := .next (s.run specOptionsRead c)
/-- `JOURNAL_READ` (R487). -/
def execJournalRead (c : Cmd) (s : State) : Host.Outcome State Fault Refusal := .next (s.run specJournalRead c)
/-- `PWR_EVENT_ACK` (R489). -/
def execPwrEventAck (c : Cmd) (s : State) : Host.Outcome State Fault Refusal := .next (s.run specPwrEventAck c)
/-- `RESET_COUNTERS_CLEAR` (R477). -/
def execResetCountersClear (c : Cmd) (s : State) : Host.Outcome State Fault Refusal := .next (s.run specResetCountersClear c)

end Sys2Proof.Machine
end

