-- ==== Sys2Proof/Machine/CmdEvent.lean ====
section
/-! DEFINITION. Area 0x10: event routes, vectors and causes, and the settings of the ports (R413-R420). -/

namespace Sys2Proof.Machine

/-- R415: whether a port may set the route of a source to a port. -/
def Dev.mayRoute (d : Dev) (p s target : Nat) : Verdict :=
  if s < 128 then need ((d.ring s).state != 0 && (d.ring s).port == p && target == p) ST.notOwner s
  else match d.srcHolder s with
    | some k => need (d.owns p k && (d.observes target k || d.stops target k)) ST.notOwner s
    | none => need (d.cps.cellOwner == p) ST.notCellOwner s

/-- R415, R418: a new route of a source; a pending event counts on a new vector. -/
def Dev.route (d : Dev) (s : Nat) (r : Route) : Dev :=
  (d.onSrc s (fun (x : Src) =>
    { x with route := r, pend := x.pend && x.route.port == r.port && x.route.vec == r.vec })).settleSrc s

/-- `EV_ROUTE_SET` (R415, R418, R420). -/
def specEvRouteSet : Spec :=
  { op := 0x1001, rings := [2], len := exactly 8, classes := [0x00], right := .any, timing := .latch
    values := fun c d =>
      let p := c.payload
      let n := u16 p 2
      firstFail ([inRange (decide (1 ≤ n) && decide (n ≤ 1024) && decide (u16 p 0 + n ≤ 1024)) 2,
        inRange (d.isOpen (u8 p 4)) 4, inRange (decide (u8 p 5 ≤ 63)) 5, inRange (decide (u8 p 6 ≤ 15)) 6,
        inRange (decide (u8 p 7 ≤ 1)) 7] ++
        (List.range n).map (fun (k : Nat) => d.mayRoute c.port.val (u16 p 0 + k) (u8 p 4)))
    apply := fun c d =>
      let p := c.payload
      let r : Route := ⟨u8 p 7 == 1, u8 p 4, u8 p 5, u8 p 6⟩
      ((List.range (u16 p 2)).foldl (fun (d : Dev) (k : Nat) => d.route (u16 p 0 + k) r) d).done }

/-- `EV_COALESCE_SET` (R416). -/
def specEvCoalesceSet : Spec :=
  { op := 0x1002, rings := [1, 2], len := exactly 4, classes := [0x00], right := .any, timing := .latch
    values := fun c _ => firstFail [inRange (decide (u8 c.payload 0 ≤ 63)) 0, inRange (decide (1 ≤ u8 c.payload 1)) 1]
    apply := fun c d =>
      (d.onVec c.port.val (u8 c.payload 0) (fun (v : Vec) =>
        { v with evCount := u8 c.payload 1, evTime := u16 c.payload 2 })).done }

/-- `EV_VECTOR_PARK` (R418). -/
def specEvVectorPark : Spec :=
  { op := 0x1003, rings := [1, 2], len := exactly 16, classes := [0x00], right := .any, timing := .latch
    values := fun c _ => firstFail [inRange (decide (u8 c.payload 8 ≤ 1)) 8, rsv c.payload 9 7]
    apply := fun c d =>
      ((bitsSet (u64 c.payload 0) 64).foldl (fun (d : Dev) (v : Nat) =>
        (d.onVec c.port.val v (fun (x : Vec) => { x with parked := u8 c.payload 8 == 1 })).retry c.port.val v) d).done }

/-- R413, R420: whether a port may see the causes of a source. -/
def Dev.maySee (d : Dev) (p s : Nat) : Bool :=
  if s < 128 then d.mayServe p s
  else match d.srcHolder s with
    | some k => d.observes p k
    | none => d.cps.cellOwner == p

/-- R420: the status of a source that a port may not name. -/
def Dev.srcRefused (d : Dev) (s : Nat) : Nat :=
  if 128 ≤ s ∧ (d.srcHolder s).isNone then ST.notCellOwner else ST.notOwner

/-- `EV_QUERY` (R420). -/
def specEvQuery : Spec :=
  { op := 0x1004, rings := [1, 2, 3], len := exactly 4, classes := [0x00], right := .own, timing := .now
    rights := fun c d =>
      let s := u16 c.payload 0
      need (srcReserved s || d.maySee c.port.val s) (d.srcRefused s) 0
    values := fun c _ => firstFail [inRange (!srcReserved (u16 c.payload 0)) 0, rsv c.payload 2 2]
    apply := fun c d =>
      let s := u16 c.payload 0
      let x := d.src s
      d.reply (e8 x.route.port ++ e8 x.route.vec ++ e8 x.route.prio ++
        e8 (maskOf [x.route.on, d.asserted s, d.srcPending s, x.serv.isSome]) ++ e32 (d.causes s)) }

/-- `EV_ACK` (R413, R420). -/
def specEvAck : Spec :=
  { op := 0x1005, rings := [1, 2, 3], len := exactly 8, classes := [0x00], right := .own, timing := .latch
    rights := fun c d =>
      let s := u16 c.payload 0
      need (srcReserved s || d.mayServe c.port.val s) (d.srcRefused s) 0
    values := fun c _ => firstFail [inRange (!srcReserved (u16 c.payload 0)) 0, rsv c.payload 2 2]
    apply := fun c d => (d.ack (u16 c.payload 0) (u32 c.payload 4)).done }

/-- `PORT_CONFIGURE` (R396, R406, R408, R410, R420). -/
def specPortConfigure : Spec :=
  { op := 0x1006, rings := [2], len := exactly 16, classes := [0x00], right := .cellOwner, timing := .latch
    values := fun c _ =>
      let p := c.payload
      let n := u8 p 0
      let t := u32 p 4
      firstFail [inRange (decide (n ≤ 3)) 0, rsv p 1 3,
        inRange (if n < 2 then decide (1 ≤ t) && decide (t ≤ 1000) else decide (10 ≤ t) && decide (t ≤ 60000)) 4,
        inRange (if n = 2 then decide (100 ≤ u32 p 8) && decide (u32 p 8 ≤ 100000) else u32 p 8 == 0) 8,
        inRange (if n = 2 then decide (1 ≤ u16 p 12) && decide (u16 p 12 ≤ 1000) else u16 p 12 == 0) 12, rsv p 14 2]
    apply := fun c d =>
      let p := c.payload
      (d.onPort (u8 p 0) (fun (q : Port) =>
        { q with timeoutMs := u32 p 4, retxUs := u32 p 8, repeatMs := u16 p 12 })).done }

/-- R65, R404: the transport session of H2 ends as a port loss. -/
def Dev.loseH2 (d : Dev) : Dev := if d.hp.h2.session.isSome then d.portLost 2 else d

/-- `H2_CONFIGURE` (R402, R420). -/
def specH2Configure : Spec :=
  { op := 0x1007, rings := [2], len := exactly 64, classes := [0x00], right := .cellOwner, timing := .latch
    values := fun c _ =>
      let p := c.payload
      firstFail [need (decide (u8 p 0 < 16)) ST.reserved 0, rsv p 1 1, rsv p 6 2, rsv p 37 7, rsv p 60 4,
        (match h2CfgFault p with | some o => some (ST.badValue, o) | none => none)]
    object := fun c _ => need (c.port.val != 2) ST.busy 0
    apply := fun c d => ((d.onH2 (fun (h : H2) => { h with cfg := c.payload })).loseH2).done }

/-- `OUTLOOK_STREAM_SET` (R407, R420). -/
def specOutlookStreamSet : Spec :=
  { op := 0x1008, rings := [2], len := fun n => decide (4 ≤ n), classes := [0x00], right := .any, timing := .latch
    form := fun c => need (c.payload.length == 4 + 8 * u8 c.payload 2) ST.badLength 0
    values := fun c _ =>
      let p := c.payload
      firstFail ([inRange (c.port.val == 2) 0, inRange (decide (u8 p 2 ≤ 8)) 2, rsv p 3 1] ++
        (List.range (u8 p 2)).flatMap (fun (k : Nat) =>
          let o := 4 + 8 * k
          [inRange (u32 p o % 4 == 0 && decide (u32 p o ≤ 2 ^ 24)) o,
           inRange (u32 p (o + 4) % 4 == 0 && decide (u32 p o + u32 p (o + 4) ≤ 2 ^ 24)) (o + 4)]))
    apply := fun c d =>
      let p := c.payload
      let l := (List.range (u8 p 2)).map (fun (k : Nat) => (u32 p (4 + 8 * k), u32 p (8 + 8 * k)))
      (d.onH2 (fun (h : H2) => { h with period := u16 p 0, ranges := l })).done }

/-- `EV_ROUTE_SET` (R415). -/
def execEvRouteSet (c : Cmd) (s : State) : Host.Outcome State Fault Refusal := .next (s.run specEvRouteSet c)
/-- `EV_COALESCE_SET` (R416). -/
def execEvCoalesceSet (c : Cmd) (s : State) : Host.Outcome State Fault Refusal := .next (s.run specEvCoalesceSet c)
/-- `EV_VECTOR_PARK` (R418). -/
def execEvVectorPark (c : Cmd) (s : State) : Host.Outcome State Fault Refusal := .next (s.run specEvVectorPark c)
/-- `EV_QUERY` (R420). -/
def execEvQuery (c : Cmd) (s : State) : Host.Outcome State Fault Refusal := .next (s.run specEvQuery c)
/-- `EV_ACK` (R413). -/
def execEvAck (c : Cmd) (s : State) : Host.Outcome State Fault Refusal := .next (s.run specEvAck c)
/-- `PORT_CONFIGURE` (R420). -/
def execPortConfigure (c : Cmd) (s : State) : Host.Outcome State Fault Refusal := .next (s.run specPortConfigure c)
/-- `H2_CONFIGURE` (R420). -/
def execH2Configure (c : Cmd) (s : State) : Host.Outcome State Fault Refusal := .next (s.run specH2Configure c)
/-- `OUTLOOK_STREAM_SET` (R407). -/
def execOutlookStreamSet (c : Cmd) (s : State) : Host.Outcome State Fault Refusal := .next (s.run specOutlookStreamSet c)

end Sys2Proof.Machine
end

