-- ==== Sys2Proof/Machine/CmdUrgent.lean ====
section
/-! DEFINITION. Area 0x00: the urgent commands (R54-R60). -/

namespace Sys2Proof.Machine

/-- R55: the first mask bit of an axis outside the compartment, as the payload offset of its byte. -/
def Dev.maskFault (d : Dev) (c : Cmd) : Verdict :=
  if c.cls = 0x0C then
    match (bitsSet (uLE c.payload 0 16) 128).find? (fun (i : Nat) => d.owner 0x01 i != some c.idx) with
    | some i => some (ST.badValue, i / 8)
    | none => none
  else none

/-- R55: a payload of 16 bytes belongs to a compartment only. -/
def urgentForm (c : Cmd) : Verdict := need (c.payload.isEmpty || c.cls == 0x0C) ST.badLength 0

/-- R387: a feed hold that a host commands on the compartment in migration is no longer the migration's own. -/
def Dev.hostHold (d : Dev) (code : Nat) (c : Cmd) : Dev :=
  match d.cps.migration with
  | some m =>
    if code = 2 ∧ d.holder c.cls c.idx = some m.comp then { d with cps := { d.cps with migration := some { m with ownHold := false } } }
    else d
  | none => d

/-- R55-R57: an urgent command of strength `code`. -/
def urgentSpec (op code : Nat) : Spec :=
  { op := op, rings := [0], len := fun n => n == 0 || n == 16, classes := [0x01, 0x02, 0x0C], right := .stop
    timing := .latch, exempt := true, form := urgentForm, values := fun c d => d.maskFault c
    apply := fun c d =>
      let d := d.hostHold code c
      let t := d.widen code (d.targets c)
      let whole := c.cls == 0x0C && c.payload.all (fun (b : Byte) => b == 0)
      let e := d.urgent code (d.targets c)
      if d.stronger code t then { dev := if whole && code != 2 then e.dropClaim c.idx else e }
      else { dev := d, status := ST.noChange } }

def specStopCat0 : Spec := urgentSpec 0x0001 5
def specStopCat1 : Spec := urgentSpec 0x0002 4
def specStopCat2 : Spec := urgentSpec 0x0003 3
def specFeedHold : Spec := urgentSpec 0x0004 2
def specHalt : Spec := urgentSpec 0x0005 1

/-- `STOP_CAT0`: torque off at once, with STO on local stages (R55). -/
def execStopCat0 (c : Cmd) (s : State) : Host.Outcome State Fault Refusal := .next (s.run specStopCat0 c)
/-- `STOP_CAT1`: a quick-stop ramp, then torque off (R55). -/
def execStopCat1 (c : Cmd) (s : State) : Host.Outcome State Fault Refusal := .next (s.run specStopCat1 c)
/-- `STOP_CAT2`: a quick-stop ramp, then hold (R55). -/
def execStopCat2 (c : Cmd) (s : State) : Host.Outcome State Fault Refusal := .next (s.run specStopCat2 c)
/-- `FEED_HOLD` (R55). -/
def execFeedHold (c : Cmd) (s : State) : Host.Outcome State Fault Refusal := .next (s.run specFeedHold c)
/-- `HALT` (R55). -/
def execHalt (c : Cmd) (s : State) : Host.Outcome State Fault Refusal := .next (s.run specHalt c)

end Sys2Proof.Machine
end

