-- ==== Sys2Proof/Machine/OpTable.lean ====
section
/-! DEFINITION. The opcode table (R37): what the spec says of every defined opcode, by area, and `BUDGET_TRIAL`, which
needs it. -/

namespace Sys2Proof.Machine

def specsUrgent : List Spec :=
  [specStopCat0, specStopCat1, specStopCat2, specFeedHold, specHalt]
def specsSession : List Spec :=
  [specSessionOpen, specSessionClose, specRingCreate, specRingDelete, specRingStatsClear, specDeviceIdentify,
   specNop, specCmdAbort, specTagLimits, specStopRelease, specFeedResume]
def specsComp : List Spec :=
  [specCellOwnerSet, specCompartmentCreate, specCompartmentDelete, specResourceAssign, specResourceRelease,
   specRightsSet, specCompartmentQuery, specBlockReset, specBlockQuery, specCompartmentEventAck]
def specsFw : List Spec :=
  [specFwStageOpen, specFwStageWrite, specFwStageClose, specFwMigrate, specFwActivate, specFwDiscard, specFwStatus]
def specsStroke : List Spec :=
  [specStrokeConfigure, specStrokeQuery, specStrokeLock, specBudgetQuery, specStrokeCountersClear]
def specsAxis : List Spec :=
  [specAxisConfigure, specAxisEnable, specAxisLimits, specCoefWrite, specCoefRead, specBankSwap, specAxisMode,
   specAxisManualSet, specFaultClear, specInjectStart, specInjectStop, specAxisFlagsClear, specAxisEventAck,
   specHookLoad, specHookRemove, specHookQuery, specHookUserSet]
def specsFb : List Spec :=
  [specFbConfigure, specFbLimits, specFbPositionSet, specScConfigure, specScCalWrite, specEoConfigure,
   specEoEnable, specFbEventAck, specFbFlagsClear]
def specsProf : List Spec :=
  [specMove, specMoveModify, specVmConfigure, specGearEngage, specGearRatio, specRelationPhase, specDisengage,
   specCamCreate, specCamWrite, specCamCommit, specCamDelete, specCamEngage, specCamNext, specLatchArm,
   specLatchDisarm, specStepConfigure, specStepdirConfigure, specHomeStall, specPfEventAck, specPfFlagsClear]
def specsStage : List Spec :=
  [specStageConfigure, specStageEnable, specPwmSet, specPwmCompareSet, specPwmPeriodSet, specPwmLock,
   specPwmEventConfigure, specStageFaultClear, specStageEventAck, specStageFlagsClear]
def specsFinaval : List Spec :=
  [specSegmentConfigure, specSegmentStart, specSegmentStop, specSegmentEventAck, specNodeRead, specNodeWrite,
   specNodeAction, specNodeAccept, specScheduleWrite, specScheduleRead, specBusCountersRead,
   specBusCountersClear]
def specsArm : List Spec :=
  [specArmConfigure, specArmCapsules, specArmTools, specArmStopModel, specArmEnable, specYardConfigure,
   specYardAppend, specArmPathReset, specArmOverride, specArmPayload, specZoneDefine, specZoneClaim,
   specZoneRelease, specZoneForceRelease, specArmFaultClear, specArmEventAck, specArmFlagsClear, specArmQuery]
def specsSafety : List Spec :=
  [specSafetyAxisConfigure, specSafetyArmConfigure, specSafetyInputConfigure, specSafetyOutputConfigure,
   specSafetyCompartmentConfigure, specSafetyCommit, specSafetyQuery, specSafetyEventAck, specSafetyMessage]
def specsCapture : List Spec :=
  [specTrigConfigure, specTrigEnable, specTrigQuery, specTrigioConfigure, specCapConfigure, specCapArm,
   specCapStop, specCapRead, specLandingConfigure, specFlumeRingConfigure, specRegConfigure, specRegEnable,
   specCapEventAck, specRegEventAck, specCapCountersClear]
def specsIo : List Spec :=
  [specDiConfigure, specDiTest, specFieldSupplyConfigure, specDoConfigure, specDoSet, specDoFaultClear,
   specIoEventAck, specIoFlagsClear]
def specsCan : List Spec :=
  [specCanConfigure, specCanFilterSet, specCanStart, specCanStop, specCanTx, specCanTxAbort, specCanFifoRead,
   specCanRecover, specCanEventAck, specCanCountersClear]
def specsTime : List Spec :=
  [specClockSet, specClockStep, specClockRateSet, specClockRead, specPtpConfigure, specPtpPhyLatency,
   specCmpArm, specCmpDisarm, specCrcConfigure, specCrcEnable, specCrcRead, specCrcCountersClear,
   specTimeEventAck]
def specsPower : List Spec :=
  [specSaveConfigure, specBackupRead, specBackupWrite, specOptionsWrite, specOptionsRead, specJournalRead,
   specPwrEventAck, specResetCountersClear]
def specsEvent : List Spec :=
  [specEvRouteSet, specEvCoalesceSet, specEvVectorPark, specEvQuery, specEvAck, specPortConfigure,
   specH2Configure, specOutlookStreamSet]

/-- R37: the defined opcodes of an area (the high byte of the opcode) but `BUDGET_TRIAL`. -/
def specTable (area : Nat) : List Spec :=
  match area with
  | 0x00 => specsUrgent
  | 0x01 => specsSession
  | 0x02 => specsComp
  | 0x03 => specsStroke
  | 0x04 => specsAxis
  | 0x05 => specsFb
  | 0x06 => specsProf
  | 0x07 => specsStage
  | 0x08 => specsFinaval
  | 0x09 => specsArm
  | 0x0A => specsSafety
  | 0x0B => specsCapture
  | 0x0C => specsIo
  | 0x0D => specsCan
  | 0x0E => specsTime
  | 0x0F => specsPower
  | 0x10 => specsEvent
  | 0x11 => specsFw
  | _ => []

/-- What the table says of an opcode. -/
def specIn (op : Nat) : Option Spec := (specTable (op / 256)).find? (fun (sp : Spec) => sp.op == op)

/-- R33: the packet of a byte string: the opcode, and the command with its whole body as payload. -/
def packetOf (port : Fin 4) (ring : Fin 128) (b : Bytes) : Nat × Cmd :=
  (u16 b 0, { port := port, ring := ring, tag := u16 b 2, seq := u32 b 8, comp := u8 b 4, flags := u8 b 5, atStroke := 0
              cls := u8 b 15, idx := uLE b 12 3, payload := slice b 16 (u16 b 6), refAddr := 0 })

/-- R35: the parts of the body: the target stroke, the reference descriptor, and the payload proper. -/
def opened (c : Cmd) : Cmd :=
  let rest := if cmdTimed c then c.payload.drop 8 else c.payload
  { c with
    atStroke := if cmdTimed c then u64 c.payload 0 else 0
    refAddr := if cmdByRef c then u64 rest 0 else 0
    payload := rest }

/-- R35: the length that a reference descriptor names. -/
def refLen (p : Bytes) : Nat := u32 p 8

/-- R35, R39: the reference descriptor of a packet fetched, opened as `c`. -/
def refForm (sp : Spec) (c : Cmd) : Verdict :=
  let p := c.payload
  firstFail [
    need (p.length == 16 && u64 p 0 % 4 == 0 && refLen p % 4 == 0 && decide (1 ≤ refLen p) &&
      decide (refLen p ≤ 16777216) && allZero p 12 4) ST.badReference 0,
    need (sp.len (refLen p)) ST.badLength 0]

/-- R36, R39 step 1: the form of a packet with its whole body. -/
def packetForm (sp : Spec) (raw : Cmd) : Verdict :=
  let c := opened raw
  firstFail [
    need (c.flags / 8 == 0) ST.reserved 0,
    need (!(cmdByRef c && decide (2 ≤ c.port.val))) ST.badReference 0,
    need (!(cmdTimed c && sp.op / 256 == 0)) ST.badReference 0,
    need (!(cmdTimed c && decide (raw.payload.length < 8))) ST.badLength 0,
    if cmdByRef c then refForm sp c
    else firstFail [need (sp.len c.payload.length) ST.badLength 0, sp.form c]]

/-- R38: the verdicts of steps 1, 4 and 6 of R39 are the malformed ones, 0x01xx. -/
def onlyMalformed (v : Verdict) : Verdict := match v with | some (st, x) => if st / 256 = 1 then some (st, x) else none | none => none

/-- R32: `BUDGET_TRIAL`'s judgement of the packet it carries. A reference descriptor in it names no bytes of the packet
(log entry 31). -/
def Dev.trial (d : Dev) (c : Cmd) : Verdict :=
  let (op, raw) := packetOf c.port c.ring c.payload
  if c.payload.length ≠ 16 + u16 c.payload 6 then some (ST.badLength, 0)
  else if raw.flags / 8 ≠ 0 then some (ST.reserved, 0)
  else match specIn op with
    | none => if op = 0x0305 then none else some (ST.badOpcode, 0)
    | some sp =>
      let e := opened raw
      firstFail [packetForm sp raw, d.checkTarget sp e, need (!cmdByRef e) ST.badReference 0,
        onlyMalformed (d.checkStroke sp e), onlyMalformed (sp.values e d), sp.budget e d]

/-- `BUDGET_TRIAL` (R32). -/
def specBudgetTrial : Spec :=
  { op := 0x0305, rings := [2], len := fun n => decide (16 ≤ n), classes := [0x00], right := .any, timing := .now
    apply := fun c d => match d.trial c with
      | some (st, x) => { dev := d, status := st, detail := x }
      | none => d.done }

/-- R37: what the spec says of an opcode. -/
def specOf (op : Nat) : Option Spec := if op = 0x0305 then some specBudgetTrial else specIn op

/-- `BUDGET_TRIAL`: the packet it carries is judged, and never executes (R32). -/
def execBudgetTrial (c : Cmd) (s : State) : Host.Outcome State Fault Refusal := .next (s.run specBudgetTrial c)

end Sys2Proof.Machine
end

