-- ==== Sys2Proof/Machine/Packets.lean ====
section
/-! DEFINITION. The life of a fetched packet: the ring scanner, decoding, the order of effects, and the writing of
completion entries (R35, R39-R52). -/

namespace Sys2Proof.Machine

/-! ### Order of effects -/

/-- R161: a `MOVE` with `queue` joins the queue of its axis while an earlier move runs or waits. -/
def Flight.joins (f g : Flight) : Bool :=
  f.op == 0x0601 && g.op == 0x0601 && f.cmd.cls == g.cmd.cls && f.cmd.idx == g.cmd.idx &&
    bit (u8 f.cmd.payload 1) 0 && g.stage == .hold

/-- R48: whether an earlier command of the same ring orders a later one behind it. -/
def Flight.orders (g f : Flight) : Bool :=
  let barrier (x : Cmd) : Bool := x.cls == 0 || x.cls == 0x0C
  g.stage != .post && g.cmd.ring == f.cmd.ring && (g.pool == .lost) == (f.pool == .lost) && !f.joins g &&
    ((g.cmd.cls == f.cmd.cls && g.cmd.idx == f.cmd.idx) || barrier g.cmd || barrier f.cmd)

/-- R48: whether a command in flight waits behind an earlier one of its ring. -/
def Dev.blocked (d : Dev) (f : Flight) : Bool :=
  d.nov.flights.any (fun (g : Flight) => decide (g.order < f.order) && g.orders f)

/-- A flight replaced, at its place where it runs on, and at the end where it has finished (R48). -/
def Dev.moveOn (d : Dev) (f g : Flight) : Dev :=
  if d.nov.flights.contains f then
    let l := d.nov.flights
    let l := if g.stage == .post then l.erase f ++ [g] else l.map (fun (x : Flight) => if x == f then g else x)
    { d with nov := { d.nov with flights := l } }
  else d

/-- R46: a flight that fails now. -/
def Dev.failFlight (d : Dev) (f : Flight) (status detail : Nat) : Dev :=
  d.moveOn f { f with stage := .post, hold := .none, status := status, detail := detail, result := [], eff := d.stk.number }

/-- R65, R66: from its decode on, a close or a delete stops fetching. -/
def Dev.stopFetch (d : Dev) (op : Nat) (c : Cmd) : Dev :=
  if op = 0x0102 then
    let l := d.nov.rings.map (fun (r : Ring) => if r.state != 0 && r.port == c.port.val then { r with closing := true } else r)
    { d with nov := { d.nov with rings := l } }
  else if op = 0x0104 then d.onRing c.idx (fun (r : Ring) => { r with closing := true })
  else d

/-- When a command acts: one that acts at its decode acts at the latch point of its target stroke, where it names one
(R47). -/
def Spec.when (sp : Spec) (c : Cmd) : Timing := if sp.timing == .now && cmdTimed c then .latch else sp.timing

/-- R12, R47: whether a pending command has nothing to wait for but the next latch point; a planning command waits on
(R157). -/
def Dev.due (d : Dev) (f : Flight) : Bool :=
  match specOf f.op with
  | some sp =>
    (match sp.when f.cmd with
     | .now => true
     | .latch => !cmdTimed f.cmd || decide (f.cmd.atStroke ≤ d.latchStroke)
     | .plan => false) && !d.blocked f
  | none => false

/-- R60: a pending command is marked with the present stroke where it is due at the next latch point, else with a later one. -/
def Dev.mark (d : Dev) (f : Flight) : Flight := { f with eff := if d.due f then d.stk.number else d.stk.number + 1 }

/-- R52: a pending command takes effect: judged again on the state it meets, and carried out. -/
def Dev.takeEffect (d : Dev) (f : Flight) : Dev :=
  match specOf f.op with
  | none => d
  | some sp =>
    match (if f.op / 256 = 0 then sp.values f.cmd d else d.rejudge sp f.cmd) with
    | some (st, x) => (d.reopen f).failFlight f st x
    | none =>
      let e := sp.carry f.cmd d
      let eff := e.eff.getD (d.effStroke sp f.cmd)
      e.dev.moveOn f { f with
        stage := match e.hold with | .none => .post | _ => .hold
        hold := e.hold, status := e.status, detail := e.detail, result := e.result, eff := eff, data := e.data }

/-- The commands that act as soon as the commands before them allow it (R48). -/
def Dev.runNow (d : Dev) : Dev :=
  d.nov.flights.foldl (fun (d : Dev) (f : Flight) =>
    match specOf f.op with
    | some sp => if f.stage == .pending && sp.when f.cmd == .now && !d.blocked f then d.takeEffect f else d
    | none => d) d

/-! ### Decode -/

/-- R39 steps 6 to 9: a packet whose payload is at hand is pending, or acts at once. -/
def Dev.decodeRest (d : Dev) (sp : Spec) (f : Flight) (c : Cmd) : Dev :=
  match firstFail [d.checkStroke sp c, sp.values c d, if sp.atEffect then none else d.checkObject sp c, sp.resource c d, sp.budget c d] with
  | some (st, x) => d.failFlight f st x
  | none =>
    let g : Flight := { f with cmd := c, stage := .pending, status := 0, detail := 0 }
    ((d.stopFetch f.op c).moveOn f ((d.moveOn f g).mark g)).runNow

/-- R39: a packet decoded, whose flight carries the whole body and the verdict of its sequence and tag. -/
def Dev.decode (d : Dev) (f : Flight) : Dev :=
  let raw := f.cmd
  let seqv : Verdict := if f.status = 0 then none else some (f.status, f.detail)
  if raw.flags / 8 ≠ 0 then d.failFlight f ST.reserved 0
  else match specOf f.op with
    | none => d.failFlight f ST.badOpcode 0
    | some sp =>
      let c := opened raw
      match firstFail [packetForm sp raw, need (sp.rings.contains (d.ring c.ring.val).cls) ST.wrongRing 0, seqv,
          d.gate f.op c.port.val, d.checkTarget sp c, d.checkRights sp c] with
      | some (st, x) => d.failFlight f st x
      | none =>
        if cmdByRef c then d.moveOn f { f with cmd := c, stage := .byRef, status := 0, detail := 0 }
        else d.decodeRest sp f c

/-- R35: a packet taken from a ring: held by its fence while an earlier command of the ring is in flight, else decoded. -/
def Dev.take (d : Dev) (op : Nat) (raw : Cmd) (pool : Pool) : Dev :=
  let v := (d.checkSeq raw).getD (0, 0)
  let busy := d.nov.flights.any (fun (f : Flight) => f.cmd.ring == raw.ring && f.pool != .lost)
  let f : Flight := ⟨raw, op, pool, .fence, .none, v.1, v.2, [], d.stk.number, none, d.nov.taken⟩
  let d := ({ d with nov := { d.nov with flights := d.nov.flights ++ [f] } } : Dev).expect raw
  if cmdFenced raw && busy then d else d.decode f

/-! ### The ring scanner -/

/-- R49: a general tag of a port, from its reserve or from the shared ones. -/
def Dev.generalTag (d : Dev) (p : Nat) : Option Pool :=
  let held (b : Pool) : Nat := (d.nov.flights.filter (fun (f : Flight) => f.cmd.port.val == p && f.pool == b)).length
  let shared := (d.nov.flights.filter (fun (f : Flight) => f.pool == .shared)).length
  if held .reserve < 32 then some .reserve
  else if held .shared < d.nov.caps.getD p 384 ∧ shared < 384 then some .shared
  else none

/-- R49: an urgent tag of a port. -/
def Dev.urgentTag (d : Dev) (p : Nat) : Option Pool :=
  if (d.nov.flights.filter (fun (f : Flight) => f.cmd.port.val == p && f.pool == .urgent)).length < 16 then some .urgent else none

/-- R396: whether a port's fetches and completion writes go on. -/
def Dev.moves (d : Dev) (p : Nat) : Bool := d.running && !(d.prt p).waiting && !(d.prt p).d3

/-- R45, R65: the rings of a port with a packet to fetch. -/
def Dev.ready (d : Dev) (p : Nat) : List Nat :=
  if d.moves p then
    (List.range 128).filter (fun (n : Nat) =>
      let r := d.ring n
      (r.state == 1 || r.state == 2) && r.port == p && !r.closing && r.sqHead != r.sqTail)
  else []

/-- R41: among rings of one class, the next after the one served last. -/
def Dev.nextRing (d : Dev) (p cls : Nat) (l : List Nat) : Option Nat :=
  let last := d.nov.lastRing.getD (4 * p + cls) 127
  match l.find? (fun (n : Nat) => decide (last < n)) with | some n => some n | none => l.head?

/-- R41: the general ring of a port that is served: by class, but a ring of class 2 or 3 whose turn within 8 grants is
due goes first. -/
def Dev.generalRing (d : Dev) (p : Nat) (l : List Nat) : Option Nat :=
  let low := l.filter (fun (n : Nat) => decide (2 ≤ (d.ring n).cls))
  let w (n : Nat) : Nat := (d.ring n).waited
  -- with k rings that have waited at least as long, a ring must be among the next k grants
  let due := low.any (fun (n : Nat) => decide (8 ≤ w n + (low.filter (fun (m : Nat) => decide (w n ≤ w m))).length))
  let most := low.foldl (fun (m n : Nat) => max m (w n)) 0
  let l := if due then low.filter (fun (n : Nat) => w n == most) else l
  let cls := l.foldl (fun (m n : Nat) => min m (d.ring n).cls) 3
  d.nextRing p cls (l.filter (fun (n : Nat) => (d.ring n).cls == cls))

/-- R50: a ring whose head packet waits for a tag. -/
def Dev.stall (d : Dev) (l : List Nat) : Dev :=
  l.foldl (fun (d : Dev) (n : Nat) => d.onRing n (fun (r : Ring) => { r with state := 2, starvedNow := true })) d

/-- R41, R50: what a port gives the scanner: a ring with a tag for its head packet, or its rings left `STALLED`. -/
def Dev.grant (d : Dev) (p : Nat) : Option (Nat × Pool) × Dev :=
  let l := d.ready p
  let urg := l.filter (fun (n : Nat) => (d.ring n).cls == 0)
  let gen := l.filter (fun (n : Nat) => (d.ring n).cls != 0)
  let general (d : Dev) : Option (Nat × Pool) × Dev :=
    match d.generalTag p with
    | some t => ((d.generalRing p gen).map (fun (n : Nat) => (n, t)), d)
    | none => (none, d.stall gen)
  match d.nextRing p 0 urg, d.urgentTag p with
  | some n, some t => (some (n, t), d)
  | some _, none => general (d.stall urg)
  | none, _ => general d

/-- R41: the ports in round robin, from the one after the port served last. -/
def Dev.scan (d : Dev) : Option (Nat × Pool) × Dev :=
  [1, 2, 3, 4].foldl (fun (x : Option (Nat × Pool) × Dev) (k : Nat) =>
    match x.1 with
    | some _ => x
    | none => x.2.grant ((d.nov.lastPort + k) % 4)) (none, d)

/-- R41: a grant to a ring counts for the rings of its port that wait. -/
def Dev.granted (d : Dev) (n : Nat) : Dev :=
  let r := d.ring n
  let wait := (d.ready r.port).filter (fun (m : Nat) => decide (2 ≤ (d.ring m).cls))
  let d := wait.foldl (fun (d : Dev) (m : Nat) => d.onRing m (fun (x : Ring) => { x with waited := x.waited + 1 })) d
  let d := d.onRing n (fun (x : Ring) => { x with waited := 0, state := 1 })
  { d with nov := { d.nov with lastPort := r.port, lastRing := d.nov.lastRing.set (4 * r.port + r.cls) n } }

/-- R45: a ring goes into error. -/
def Dev.ringError (d : Dev) (n : Nat) : Dev := d.onRing n (fun (r : Ring) => { r with state := 3, evError := true })

/-- `n` bytes of a ring in device SRAM from slot `slot` on, modulo the ring (R42). -/
def sramBytes (m : List Host.Cell) (port base slots size slot n : Nat) : Bytes :=
  (List.range n).map (fun (k : Nat) => Memory.read m (areaAddr port (base + (slot * size + k) % (slots * size))))

/-- R42, R45: whether the head of a ring begins a packet that ends at or before the tail. -/
def Ring.parses (r : Ring) (head : Bytes) : Bool :=
  decide (u16 head 6 ≤ 4080) && decide (cdivN (16 + u16 head 6) 64 ≤ (r.sqTail + r.sqSlots - r.sqHead) % r.sqSlots)

/-- The bytes at the head of a ring: from device SRAM, or as the read of host memory gives them. -/
def State.headOf (s : State) (r : Ring) (dma : Option Bytes) : Option Bytes :=
  if r.loc = 1 then
    let h := sramBytes s.mem r.port r.sqBase r.sqSlots 64 r.sqHead 16
    some (sramBytes s.mem r.port r.sqBase r.sqSlots 64 r.sqHead (16 + min 4080 (u16 h 6)))
  else dma

/-- R39-R52: the step of the ring scanner. -/
def State.scanStep (s : State) (dma : Option Bytes) : State :=
  match s.dev.scan with
  | (none, d) => { s with dev := d }
  | (some (n, pool), d) =>
    let r := d.ring n
    match s.headOf r dma with
    | none => { s with dev := d.ringError n }
    | some b =>
      if r.parses b then
        if h : r.port < 4 ∧ n < 128 then
          let (op, raw) := packetOf ⟨r.port, h.1⟩ ⟨n, h.2⟩ b
          let d := (d.granted n).onRing n (fun (x : Ring) =>
            { x with sqHead := (x.sqHead + cdivN (16 + u16 b 6) 64) % x.sqSlots })
          { s with dev := d.take op raw pool }
        else { s with dev := d }
      else { s with dev := d.ringError n }

/-- `RING_SCAN` (R41, R50, R52). -/
def execRingScan (dma : Option Bytes) (s : State) : Host.Outcome State Fault Refusal :=
  let s := s.fresh
  .next (({ s with dev := s.dev.runNow }).scanStep dma)

/-- R35, R39: the payload of the ring's first by-reference command has been read: steps 6 to 9 run. A read that fails
ends the command with `ST_HW_DMA`. -/
def Dev.refRead (d : Dev) (ring : Nat) (data : Option Bytes) : Dev :=
  match d.nov.flights.find? (fun (f : Flight) => f.stage == .byRef && f.cmd.ring.val == ring) with
  | none => d
  | some f =>
    match data, specOf f.op with
    | some b, some sp =>
      let c := { f.cmd with payload := slice b 0 (refLen f.cmd.payload) }
      match sp.form c with
      | some (st, x) => d.failFlight f st x
      | none => d.decodeRest sp f c
    | _, _ => d.failFlight f ST.hwDma 0

/-- `BY_REF_PAYLOAD_READ` (R39). -/
def execByRefPayloadRead (ring : Fin 128) (data : Option Bytes) (s : State) : Host.Outcome State Fault Refusal :=
  let s := s.fresh
  .next (if s.dev.running then { s with dev := s.dev.refRead ring.val data } else s)

/-- R35: the earliest fenced packet of a ring is decoded, once no earlier command of the ring is in flight. -/
def Dev.fenceClear (d : Dev) (ring : Nat) : Dev :=
  let mine := d.nov.flights.filter (fun (f : Flight) => f.cmd.ring.val == ring && f.pool != .lost)
  match mine.find? (fun (f : Flight) => f.stage == .fence) with
  | some f => if mine.any (fun (g : Flight) => decide (g.order < f.order)) then d else d.decode f
  | none => d

/-- `FENCE_CLEAR` (R35). -/
def execFenceClear (ring : Fin 128) (s : State) : Host.Outcome State Fault Refusal :=
  let s := s.fresh
  .next (if s.dev.running then { s with dev := s.dev.fenceClear ring.val } else s)

/-! ### Completion entries -/

/-- R43: the bytes of a completion entry. -/
def Flight.entry (f : Flight) (phase : Bool) : Bytes :=
  e16 f.cmd.tag ++ e16 f.status ++ e16 f.detail ++ e16 f.result.length ++ e64 f.eff ++ e32 f.cmd.seq ++ e16 f.op ++
    e8 (b2n phase) ++ e8 0 ++ f.result

/-- R42: the slots of an entry. -/
def Flight.slots (f : Flight) : Nat := cdivN (24 + f.result.length) 32

/-- R406: the submission slots of a ring that the host can still fill. -/
def Ring.sqFree (r : Ring) : Nat := r.sqSlots - 1 - (r.sqTail + r.sqSlots - r.sqHead) % r.sqSlots

/-- R402, R406: the slots that one `COMPLETION` datagram carries within the MTU. -/
def Dev.dgramSlots (d : Dev) : Nat := if bit (u8 d.hp.h2.cfg 0) 3 then 278 else 44

/-- R406: `n` slots of a ring's completions from slot `first` on, in `COMPLETION` datagrams. -/
def State.completionDgram (s : State) (ring first n : Nat) : State :=
  let r := s.dev.ring ring
  let c := s.dev.dgramSlots
  (List.range (cdivN n c)).foldl (fun (s : State) (k : Nat) =>
    let m := min c (n - c * k)
    let at_ := (first + c * k) % r.cqSlots
    let b := sramBytes s.mem r.port r.cqBase r.cqSlots 32 at_ (32 * m)
    { s with dev := s.dev.h2Send 0x20 (e16 ring ++ e16 m ++ e32 at_ ++ e32 r.sqFree ++ b) }) s

/-- Bytes written into a ring of `size`-byte slots from slot `slot` on, modulo the ring (R42). -/
def Memory.writeRing (m : List Host.Cell) (port base slots size slot : Nat) (b : Bytes) : List Host.Cell :=
  (b.zipIdx).foldl (fun (m : List Host.Cell) (x : Byte × Nat) =>
    Memory.write m (areaAddr port (base + (slot * size + x.2) % (slots * size))) x.1) m

/-- R43: an entry written where the completion ring lies. -/
def State.putEntry (s : State) (r : Ring) (b : Bytes) : State :=
  if r.loc = 1 then { s with mem := Memory.writeRing s.mem r.port r.cqBase r.cqSlots 32 r.cqTail b }
  else
    let room := 32 * (r.cqSlots - r.cqTail)
    let d := s.dev.send (.host r.port (r.cqBase + 32 * r.cqTail) (b.take room))
    { s with dev := if room < b.length then d.send (.host r.port r.cqBase (b.drop room)) else d }

/-- R43, R49, R64-R66: what the entry of a command written means: its tag is free, an undelivered list reported is
discarded, and a close is over. -/
def Dev.posted (d : Dev) (f : Flight) : Dev :=
  let d := { d with nov := { d.nov with flights := d.nov.flights.erase f } }
  if f.op = 0x0101 ∧ f.status = 0 then d.onSession f.cmd.port.val (fun (x : Session) => { x with undelivered := [] })
  else if f.op = 0x0102 ∧ f.status = 0 then d.closePort f.cmd.port.val
  else d

/-- R51, R52: the ring's next completion entry is written, where its slots are free; else the command keeps its tag and
the stroke counts as stalled. -/
def State.post (s : State) (n : Nat) : State :=
  let r := s.dev.ring n
  match s.dev.nov.flights.find? (fun (f : Flight) => f.stage == .post && f.cmd.ring.val == n) with
  | none => s
  | some f =>
    if r.state = 0 ∨ !s.dev.moves r.port then s
    else if r.cqSlots - r.cqUsed < f.slots then
      { s with dev := s.dev.onRing n (fun (x : Ring) => { x with stalledNow := true }) }
    else
      let s := match f.data with | some (a, b) => { s with dev := s.dev.send (.host r.port a b) } | none => s
      let s := s.putEntry r (f.entry r.phase)
      let d := s.dev.onRing n (fun (x : Ring) =>
        { x with cqTail := (x.cqTail + f.slots) % x.cqSlots, cqUsed := x.cqUsed + f.slots
                 phase := if x.cqSlots ≤ x.cqTail + f.slots then !x.phase else x.phase })
      let s := { s with dev := d }
      let s := if r.port = 2 then s.completionDgram n r.cqTail f.slots else s
      { s with dev := s.dev.posted f }

/-- `COMPLETION_POST` (R51). -/
def execCompletionPost (ring : Fin 128) (s : State) : Host.Outcome State Fault Refusal :=
  let s := s.fresh
  .next (({ s with dev := s.dev.runNow.settleHolds }).post ring.val)

end Sys2Proof.Machine
end

