-- ==== Sys2Proof/Machine/Outlook.lean ====
section
/-! DEFINITION. The outlook window: the records as views of the device as last refreshed, and what each port may see of
them (R30, R53, R124, R153, R184, R211, R245, R269, R303, R338, R367, R390, R399-R401, R414, R430, R440, R459, R488). -/

namespace Sys2Proof.Machine

/-- R401: the stamp word of a record. -/
def Dev.stamp (v : Dev) : Bytes := e32 (v.stk.number % 2 ^ 31)

/-- The 128-bit mask of a test over the axes. -/
def axisMask (f : Nat → Bool) : Bytes := enc 16 (maskOf ((List.range 128).map f))

/-! ### Strokes, rings, ports and compartments -/

/-- R30: the stroke status record. -/
def Dev.olStroke (v : Dev) : Bytes :=
  let k := v.stk
  v.stamp ++ e32 (k.cfg.code + 2 ^ 8 * k.cfg.cycle + 2 ^ 16 * k.cyclePhase + 2 ^ 24 * k.lockState) ++ e64 k.number ++
    eS32 k.phaseErr ++ e32 k.liftUsed ++ e32 k.liftPeak ++ e32 k.localOvr ++ k.segOvr.flatMap e32

/-- R53: a ring status record. -/
def Dev.olRing (v : Dev) (n : Nat) : Bytes :=
  let r := v.ring n
  let held := (v.nov.flights.filter (fun (f : Flight) => f.cmd.ring.val == n && f.pool != .none && f.pool != .lost)).length
  v.stamp ++ e32 (r.state + 4 * r.cls + 16 * r.port + 2 ^ 8 * held) ++ e32 r.sqHead ++ e32 r.sqTail ++ e32 r.cqTail ++
    e32 r.cqHead ++ e32 r.starved ++ e32 r.cqStall

/-- R414: a port record. -/
def Dev.olPort (v : Dev) (n : Nat) : Bytes :=
  let p := v.prt n
  let held (b : Pool → Bool) : Nat := (v.nov.flights.filter (fun (f : Flight) => f.cmd.port.val == n && b f.pool)).length
  let srcs (b : Nat → Bool) : Nat := ((List.range 1024).filter b).length
  v.stamp ++ e32 (n + 4 * b2n p.linkUp + 8 * b2n (v.isOpen n) + 16 * b2n (v.cps.cellOwner == n) + 2 ^ 8 * p.speed + 2 ^ 12 * p.width) ++
    e32 (held (fun (b : Pool) => b == .reserve || b == .shared) + 2 ^ 16 * held (fun (b : Pool) => b == .urgent)) ++
    e32 (v.nov.caps.getD n 384) ++ e32 p.losses ++ e32 p.authFail ++ e32 p.duplicates ++ e32 p.naks ++ e32 p.badAccess ++
    e32 p.outlookSkip ++ e32 p.sessionStroke ++ e32 0 ++
    e32 (srcs (fun (s : Nat) => v.srcPending s && (v.src s).route.port == n)) ++ e32 (srcs (fun (s : Nat) => (v.src s).serv == some n)) ++
    e32 0 ++ e32 p.events

/-- R390: a compartment record. -/
def Dev.olComp (v : Dev) (k : Nat) : Bytes :=
  let c := v.comp k
  let down (cls base idx : Nat) : Bool := v.owner cls idx == some k && v.block (base + idx) != 0
  let blocks := (List.range 16).map (down 0x03 0) ++ (List.range 8).map (down 0x05 0x20) ++ (List.range 8).map (down 0x0E 0x18)
  v.stamp ++
    e32 (c.state + 4 * c.owner + 16 * c.orphan + 2 ^ 8 * c.observers + 2 ^ 12 * c.stoppers + 2 ^ 16 * c.slot +
      2 ^ 17 * maskOf ((List.range 4).map (down 0x08 0x14))) ++
    e32 c.orphanStroke ++ e32 (v.image c.slot).build ++ e32 c.migHold ++ e32 (maskOf blocks) ++ e32 (v.shared k) ++ e32 c.events

/-- R338: whether a latched effect of a compartment waits for a reset. -/
def Dev.resetRequired (v : Dev) (k : Nat) : Bool :=
  (v.safCmp k).fault ||
  (v.holds 0x01 k).any (fun (i : Nat) => let s := v.safAx i; s.fault || s.viol || s.stoHeld) ||
  (v.holds 0x02 k).any (fun (j : Nat) => let s := v.safArm j; s.fault || s.viol || s.stoHeld || s.waitReset) ||
  (v.holds 0x0B k).any (fun (n : Nat) => (v.safIn n).fault) || (v.holds 0x22 k).any (fun (o : Nat) => (v.safOut o).fault)

/-- R338: a safety record: of the inputs, outputs and axes that the compartment holds. -/
def Dev.olSafety (v : Dev) (k : Nat) : Bytes :=
  let c := v.safCmp k
  let ins (f : SafIn → Bool) : Nat := maskOf ((List.range 16).map (fun (n : Nat) => v.owner 0x0B n == some k && f (v.safIn n)))
  let outs (f : SafOut → Bool) : Nat := maskOf ((List.range 4).map (fun (n : Nat) => v.owner 0x22 n == some k && f (v.safOut n)))
  let test := ins (·.pending)
  let mine (f : Nat → Bool) : Bytes := axisMask (fun (i : Nat) => v.owner 0x01 i == some k && f i)
  v.stamp ++
    e32 (maskOf [c.committed, c.fault, v.resetRequired k, c.msgOk, test != 0, v.saf.selfTest] + 2 ^ 8 * c.cause) ++
    e32 (ins SafIn.permit + 2 ^ 16 * ins (·.fault)) ++
    e32 (test + 2 ^ 16 * outs (fun (o : SafOut) => o.sideA && o.sideB) + 2 ^ 20 * outs (·.fault)) ++
    e32 (c.control + 2 ^ 16 * c.alive) ++ e32 c.signature ++ e32 (c.crcFails + 2 ^ 16 * c.msgFaults) ++ e32 c.events ++
    mine v.inSto ++ mine v.inSs1

/-! ### Axes -/

/-- R124, R316, R317: the `stop` code shown of an axis; safety STO and SS1 show as `STOP_CAT0` and `STOP_CAT1`. -/
def Dev.stopShown (v : Dev) (i : Nat) : Nat :=
  max (v.ax i).stop (if v.inSto i then 5 else if v.inSs1 i then 4 else 0)

/-- R124: an axis record. -/
def Dev.olAxis (v : Dev) (i : Nat) : Bytes :=
  let a := v.ax i
  let l := a.loop
  -- a current that no loop forms reads 0 (R76, R114)
  let ma (q : Int) : Bytes := eS32 (if a.computed then fromQ15 q a.cfg.curSpan else 0)
  v.stamp ++
    e32 (a.state + 8 * a.bank + 16 * v.stopShown i + 2 ^ 7 * b2n a.standstill + 2 ^ 8 * min a.age 7 + 2 ^ 11 * b2n (decide (2 ≤ a.age)) +
      2 ^ 12 * maskOf [a.inj.isSome, a.iLimited, a.vLimited, a.errSat] + 2 ^ 16 * a.faultCode) ++
    eS64 (v.fb i).pAct ++ eS64 l.pCmd ++ eS64 (fromQ15 l.velFb ((2 ^ a.cfg.velSpan * v.fs : Nat) : Int)) ++
    eS64 (if a.state = 4 then l.follow else 0) ++ ma l.iqFb ++ ma l.idFb ++ ma l.iqRef ++ eS32 (fromQ15 a.meas.vbus a.cfg.voltSpan) ++
    e32 a.flags ++ e32 a.events

/-- R153: an axis feedback record. -/
def Dev.olFb (v : Dev) (i : Nat) : Bytes :=
  let f := v.fb i
  v.stamp ++
    e32 (f.cfg.source + 8 * maskOf [f.configured && f.live == 0, f.configured && f.dir, f.atMin, f.atMax, f.referenced, f.clipped] +
      2 ^ 9 * f.sector + 2 ^ 12 * b2n f.hallSkip + 2 ^ 16 * toU 16 f.theta) ++
    eS64 f.c ++ eS64 f.refPos ++ e32 (f.live + 2 ^ 16 * f.sticky) ++ e32 f.events

/-- R184: a profile record. -/
def Dev.olPf (v : Dev) (i : Nat) : Bytes :=
  let p := v.pf i
  -- R60, R157: planning commands that have not taken effect do not show
  let p := match p.prior with
    | some k => { p with source := k.source, rel := k.rel, gearSynced := k.gearSynced, homeState := k.homeState }
    | none => p
  let target : Int := match p.gen.run with | some m => if m.req.kind = 2 then m.req.target else m.goal | none => 0
  let phi : Int := match p.rel with | some r => r.phi.now | none => 0
  v.stamp ++
    e32 (p.source + 8 * p.gen.queue.length + 2 ^ 7 * maskOf [p.gearSynced, p.hold, p.lost, p.camRange, p.stepLag, p.trimSat] +
      2 ^ 13 * p.homeState) ++
    eS64 target ++ eS64 (phi + p.appTrim) ++ eS32 p.pendTrim ++ e32 p.events

/-- R184: a latch record. -/
def Dev.olLatch (v : Dev) (i : Nat) : Bytes :=
  let l := (v.pf i).latches
  v.stamp ++ l.flatMap (fun (x : Latch) => e8 (maskOf [x.armed, x.valid, x.stale] + 8 * (x.count % 32))) ++
    l.flatMap (fun (x : Latch) => eS64 x.pos ++ e32 x.ns ++ e32 x.sec)

/-- R367: a registration record. -/
def Dev.olReg (v : Dev) (i : Nat) : Bytes :=
  let r := v.reg i
  v.stamp ++ e32 (b2n r.enabled + 2 ^ 8 * min r.multi 255) ++ eS32 (satS 32 r.err) ++ eS32 (satS 32 r.corr) ++ e32 r.accepted ++
    e32 r.rejected ++ e32 r.missing ++ e32 r.events

/-- R153: a sine/cosine channel record. -/
def Dev.olSc (v : Dev) (n : Nat) : Bytes :=
  let s := v.sc n
  v.stamp ++ e32 (s.calMode + 4 * b2n s.calDone + 8 * b2n s.calRange + 16 * s.live) ++ eS16 s.offS ++ eS16 s.offC ++
    eS16 s.gain ++ eS16 s.phase ++ e32 s.ampShown ++ eS32 s.freq ++ eS64 s.stepsB

/-- R153: an encoder output record. -/
def Dev.olEo (v : Dev) (n : Nat) : Bytes :=
  let o := v.eo n
  v.stamp ++ e32 (b2n o.enabled + 2 * o.cfg.mode + 4 * o.cfg.kind + 2 ^ 5 * maskOf [o.rateLimited, o.srcGap, o.droppedSeen]) ++
    eS32 o.emitted ++ eS32 o.backlog.sum ++ e32 o.dropped ++ e32 o.events ++ zeros 8

/-- R184: a virtual master record. -/
def Dev.olVm (v : Dev) (n : Nat) : Bytes :=
  let m := v.vm n
  let m := match m.prior with
    | some k => { m with source := k.source, enabled := k.enabled, gen := k.gen }
    | none => m
  v.stamp ++ e32 (m.source + 4 * b2n m.enabled + 8 * b2n m.gen.run.isSome + 16 * m.stop) ++ eS64 m.pos ++
    eS64 (m.vel * v.fs) ++ e32 m.events ++ e32 0

/-! ### Stages, segments and arms -/

/-- R88, R199, R211: a shunt code in mA: through the span of the axis that the stage belongs to, else as it stands. -/
def Dev.stageMa (v : Dev) (n k : Nat) : Int :=
  let s := v.stg n
  let code := s.codes.getD k 0
  let off := s.offsets.getD k 0
  let inv := bit (s.hbCfg k).flags 0
  match v.stageAxis n with
  | some i =>
    let span := (v.ax i).cfg.curSpan
    fromQ15 (shuntQ15 code off s.cfg.gain s.cfg.shunt span inv) span
  | none =>
    let x := rdivUp ((code - off) * 5000000000) (shuntGain s.cfg.gain * s.cfg.shunt * 32768)
    if inv then -x else x

/-- R88, R199, R211: the bus voltage of a stage in mV. -/
def Dev.stageMv (v : Dev) (n : Nat) : Int :=
  let s := v.stg n
  match v.stageAxis n with
  | some i => let span := (v.ax i).cfg.voltSpan; fromQ15 (vbusQ15 s.codeV span) span
  | none => rdivUp ((s.codeV : Int) * 160000) 32768

/-- R211: a local stage record. -/
def Dev.olStage (v : Dev) (n : Nat) : Bytes :=
  let s := v.stg n
  let uv := maskOf ((List.range 4).map (fun (k : Nat) => (s.hb k).uv))
  v.stamp ++
    e32 (s.mode + 4 * maskOf [s.ready, s.conducting, s.locked, s.swA, s.swB, s.gateOk, s.tripped, s.precharging, s.cfg.hsSupply == 1] +
      2 ^ 12 * uv + 2 ^ 16 * (if s.mode = 1 then s.cfg.pps else 0)) ++
    e32 s.period ++ e32 (s.faults + 2 ^ 10 * b2n s.tripLive + 2 ^ 11 * b2n s.gtripLive) ++
    (List.range 4).flatMap (fun (k : Nat) => e32 (s.hb k).cmp) ++ (List.range 4).flatMap (fun (k : Nat) => eS32 (v.stageMa n k)) ++
    eS32 (v.stageMv n) ++ e32 s.refreshes ++ e32 s.blocked ++ e32 s.events

/-- R269: a segment record. -/
def Dev.olSeg (v : Dev) (n : Nat) : Bytes :=
  let s := v.seg n
  let nodes := (List.range 8).foldl (fun (m p : Nat) => m + (s.node p).state * 16 ^ p) 0
  v.stamp ++ e32 (s.state + 2 ^ 8 * min s.contentions 255 + 2 ^ 16 * s.backoffMs) ++ e32 nodes ++ e32 s.events ++
    (List.range 8).flatMap (fun (p : Nat) => e16 (s.node p).status)

/-- R245: a bus timing record. -/
def Dev.olBus (v : Dev) (n : Nat) : Bytes :=
  let s := v.seg n
  let sum (c : Nat) : Nat := sat32 ((s.pos.map (fun (p : NodePos) => p.counters.getD c 0)).sum)
  let bits (f : Nat → Bool) : Nat := maskOf ((List.range 8).map f)
  let slots := match s.table with | some t => t.entries | none => []
  v.stamp ++
    e32 (s.ver + 2 ^ 8 * bits (fun (p : Nat) => (s.node p).slotOk) +
      2 ^ 16 * bits (fun (p : Nat) => slots.any (fun (e : SchEntry) => e.type == 2 && e.pos == p)) +
      2 ^ 24 * bits (fun (p : Nat) => (s.node p).echoOk)) ++
    (List.range 8).flatMap (fun (c : Nat) => e32 (sum c)) ++ e32 s.delayJump ++ e32 s.guardBlock ++
    (List.range 8).flatMap (fun (p : Nat) => e16 ((s.node p).delay.getD 0xFFFF))

/-- R303: an arm record. -/
def Dev.olArm (v : Dev) (k : Nat) : Bytes :=
  let m := v.arm k
  let s := v.safArm k
  let stop := max m.stop (if s.sto then 5 else if s.ss1 then 4 else 0)
  let asked := v.claims.foldl (fun (x : Nat) (c : ClaimReq) => if c.who = k then x ||| c.zones else x) 0
  v.stamp ++
    e32 (m.state + 8 * stop + 2 ^ 6 * m.yard.state + 2 ^ 8 * m.sepK +
      2 ^ 15 * maskOf [decide (m.sepK < 64), m.yardLimited, m.claimWait, m.protective] + 2 ^ 19 * m.tool + 2 ^ 21 * m.override) ++
    e32 m.segId ++ e32 m.rate ++ e32 m.target ++ e32 (m.yard.segs.length + 2 ^ 16 * m.faultCode) ++ e32 m.yard.head ++ e32 m.events ++
    e64 (v.heldBy k) ++ e64 asked ++ m.pose.flatMap e64 ++ e32 m.errSeg ++ e32 m.markSeg

/-! ### Capture -/

/-- R367: a capture channel record. -/
def Dev.olChan (v : Dev) (n : Nat) : Bytes :=
  let c := v.chan n
  let g := match c.cfg with
    | some g => 8 * g.kind + 2 ^ 6 * g.storage + 2 ^ 8 * b2n g.flume + 2 ^ 11 * g.ring
    | none => 0
  v.stamp ++ e32 (c.state + g + 2 ^ 9 * b2n (c.gap != 0) + 2 ^ 10 * b2n (c.burst != 0)) ++ e32 (sat32 c.written) ++ e32 (sat32 c.lost) ++
    e64 (c.trigTag % 2 ^ 48) ++ e32 c.pre ++ e32 c.events

/-- R367: a capture engine record. -/
def Dev.olEng (v : Dev) (n : Nat) : Bytes :=
  let x := v.eng n
  v.stamp ++ e32 x.share ++ e32 (v.cap.fillOf n) ++ e32 x.peak ++ x.rings.flatMap (fun (f : Flume) => e32 f.tail) ++
    x.rings.flatMap (fun (f : Flume) => e8 f.state) ++ e32 x.merges ++ e32 x.events ++ e32 0

/-! ### Field I/O and CAN -/

/-- R430: the field supply record. -/
def Dev.olField (v : Dev) : Bytes :=
  let io := v.io
  v.stamp ++ e32 (maskOf [io.good, io.dip, io.recovering, io.startup]) ++ eS32 io.vfield ++ e32 io.vdo ++ e32 io.dips ++ zeros 12

/-- R430: a DI record. -/
def Dev.olDi (v : Dev) (n : Nat) : Bytes :=
  let x := v.di n
  v.stamp ++ e32 (maskOf [x.level, x.raw, x.mode == 1, x.diType == 3, x.test, x.lostSeen] + 2 ^ 8 * x.tags.length) ++ e32 x.edges ++
    e32 x.tagsLost ++ e32 x.events ++ zeros 12 ++
    x.tags.flatMap (fun (t : DiTag) => e32 (t.at_ % 1000000000 + 2 ^ 31 * b2n t.level) ++ e32 (t.at_ / 1000000000))

/-- R430: a DO record. -/
def Dev.olDo (v : Dev) (n : Nat) : Bytes :=
  let x := v.dout n
  v.stamp ++ e32 (maskOf [x.command, x.on, x.overload, x.openWire, x.overtemp, x.supplyLow] + 2 ^ 6 * x.seen + 2 ^ 9 * b2n x.retrying) ++
    eS32 x.current ++ e32 x.retries ++ e32 x.events ++ zeros 12

/-- R430: the DO summary record. -/
def Dev.olDoSum (v : Dev) : Bytes := v.stamp ++ e32 (b2n v.io.faultAny) ++ e32 v.io.sumEvents ++ e32 0

/-- R440: the status record of a CAN channel. -/
def Dev.olCan (v : Dev) (n : Nat) : Bytes :=
  let c := v.can n
  v.stamp ++
    e32 (c.state + 8 * c.cfg.mode + 2 ^ 5 * maskOf [bit c.cfg.flags 0, bit c.cfg.flags 1, bit c.cfg.flags 2] + 2 ^ 8 * c.tdcValue +
      2 ^ 15 * b2n c.tdcRange + 2 ^ 16 * c.lastError + 2 ^ 19 * b2n c.errorData) ++
    e32 (c.tec + 2 ^ 16 * c.recv) ++ e32 c.txOk ++ e32 c.rxOk ++ e32 c.errors ++ e32 c.busOffs ++ e32 c.rxLost ++ e32 c.events ++ zeros 28

/-- R440: the transmit record of a CAN channel. -/
def Dev.olCanTx (v : Dev) (n : Nat) : Bytes :=
  v.stamp ++ e32 0 ++ (v.can n).tx.flatMap (fun (b : CanTx) =>
    e8 b.state ++ e8 b.result ++ e16 b.attempts ++ e32 0 ++ e32 (b.stamp % 1000000000) ++ e32 (b.stamp / 1000000000))

/-- R440: the FIFO status record of a CAN channel. -/
def Dev.olCanFifo (v : Dev) (n : Nat) : Bytes :=
  let q := (v.can n).fifos
  v.stamp ++ q.flatMap (fun (x : CanFifo) => e16 x.frames.length) ++ q.flatMap (fun (x : CanFifo) => e16 x.peak) ++
    q.flatMap (fun (x : CanFifo) => e32 x.dropped)

/-- R440: a receive mirror: stamped with the stroke that last wrote it. -/
def Dev.olCanRx (v : Dev) (n b : Nat) : Bytes :=
  let x := (v.can n).rx.getD b CanRx.reset
  e32 (x.stroke % 2 ^ 31) ++ (match x.frame with | some f => f.mirror x.count x.lost | none => [])

/-! ### Cell time, checks and power -/

/-- R459: the cell time record. -/
def Dev.olTime (v : Dev) : Bytes :=
  let t := v.tm
  v.stamp ++ e32 (t.source + 4 * b2n t.stepped) ++ e64 (t.now / 1000000000) ++ e32 (t.now % 1000000000) ++ e32 (t.frac % 2 ^ 16) ++
    eS32 t.rate ++ eS32 t.target

/-- R459: the clock and PTP record. -/
def Dev.olPtp (v : Dev) : Bytes :=
  let p := v.tm.ptp
  v.stamp ++ e32 (p.port + 16 * p.servo + 2 ^ 6 * b2n p.overflow + 2 ^ 8 * p.cfg.domain) ++ eS64 p.offset ++ e32 p.pathDelay ++
    e32 v.tm.holdAge ++ e64 p.gmId ++ enc 10 p.parent ++ e16 0 ++ e32 p.dropped ++ e32 p.discard ++ e32 p.steps ++ e32 p.events ++ e32 0

/-- R459: a compare unit record. -/
def Dev.olTcu (v : Dev) (n : Nat) : Bytes :=
  let u := v.tcu n
  v.stamp ++ e32 (u.state + 4 * b2n (u.period != 0) + 8 * b2n u.late + 2 ^ 8 * u.line) ++ e64 (u.target / 1000000000) ++
    e32 (u.target % 1000000000) ++ e32 u.fires ++ e32 u.skipped ++ e32 u.lastNs

/-- R488: the power record; what the spec leaves open of the save set's size is a free value within its bound (R471). -/
def Dev.olPower (v : Dev) : Bytes :=
  let p := v.pwr
  v.stamp ++
    e32 (maskOf [p.ready, p.saveArmed, p.restored, p.bkpValid, p.bkpLost, p.optionsDefault, p.faultHalt, p.recovery] +
      2 ^ 8 * p.lastSave + 2 ^ 11 * b2n p.timeGap + 2 ^ 12 * b2n p.vbatLow) ++
    e32 p.vmain ++ e32 p.vcist ++ e32 p.vbat ++ e16 p.bkp.powerOns ++ e16 p.bkp.pinResets ++ e32 p.bkp.seconds ++
    e32 (Config.saveBytes v.free % (p.bound + 1)) ++ e32 p.lastUs ++ e32 p.lastMv ++ e32 p.generation ++ e32 p.startMs ++ e32 p.posFail ++
    zeros 8 ++ e32 p.events

/-- R488: the position check record. -/
def Dev.olCheck (v : Dev) : Bytes := v.stamp ++ e32 v.pwr.posChecked ++ enc 16 v.pwr.posMask ++ zeros 8

/-! ### The window -/

/-- A record of the window: its offset and its bytes. -/
abbrev OlRec := Nat × Bytes

/-- Record `n` of a table at `base` with a stride, where the offset lies in it and the port may see it. -/
def olAt (o base stride count : Nat) (f : Nat → Bytes) (sees : Nat → Bool) : OlRec :=
  let n := (o - base) / stride
  (base + stride * n, if decide (n < count) && sees n then f n else [])

/-- R400: whether a port sees the records of an object of a compartment: an owner or observer does, and of an object
without a compartment the cell owner. -/
def Dev.sees (d : Dev) (p cls n : Nat) : Bool :=
  match d.owner cls n with
  | some k => d.observes p k
  | none => d.cps.cellOwner == p

/-- R399, R400: the record at an offset of the window, as port `p` sees it: `d` decides the rights, `v` is the device as
last refreshed. -/
def Dev.olRecord (d v : Dev) (p o : Nat) : OlRec :=
  let cell := d.cps.cellOwner == p
  let all (_ : Nat) : Bool := true
  if o < 0x100 then (0, v.olStroke)
  else if o < 0x1000 then olAt o 0x100 64 4 v.olPort (fun (n : Nat) => n == p || cell)
  else if o < 0x2000 then olAt o 0x1000 32 128 v.olRing (fun (n : Nat) => (d.ring n).state != 0 && (d.ring n).port == p)
  else if o < 0x2100 then
    olAt o 0x2000 32 8 v.olComp (fun (k : Nat) => d.observes p k || d.stops p k || (cell && (d.comp k).state == 0))
  else if o < 0x4000 then
    olAt o 0x2100 64 8 v.olSafety (fun (k : Nat) => d.observes p k || d.stops p k || (cell && (d.comp k).state == 0))
  else if o < 0x6000 then olAt o 0x4000 64 128 v.olAxis (d.sees p 0x01)
  else if o < 0x7000 then olAt o 0x6000 32 128 v.olFb (d.sees p 0x01)
  else if o < 0x8000 then olAt o 0x7000 32 128 v.olPf (d.sees p 0x01)
  else if o < 0xC000 then olAt o 0x8000 128 128 v.olLatch (d.sees p 0x01)
  else if o < 0xD000 then olAt o 0xC000 32 128 v.olReg (d.sees p 0x01)
  else if o < 0xD100 then olAt o 0xD000 32 8 v.olSc (d.sees p 0x10)
  else if o < 0xD200 then olAt o 0xD100 32 4 v.olEo (d.sees p 0x0F)
  else if o < 0xD400 then olAt o 0xD200 32 16 v.olVm (d.sees p 0x12)
  else if o < 0xE000 then olAt o 0xD400 64 8 v.olStage (d.sees p 0x05)
  else if o < 0xE400 then olAt o 0xE000 32 16 v.olSeg (d.sees p 0x03)
  else if o < 0xF000 then olAt o 0xE400 64 16 v.olBus (d.sees p 0x03)
  else if o < 0x10000 then olAt o 0xF000 256 8 v.olArm (d.sees p 0x02)
  else if o < 0x10800 then olAt o 0x10000 32 64 v.olChan (d.sees p 0x06)
  else if o < 0x20000 then
    olAt o 0x10800 64 4 v.olEng (fun (n : Nat) =>
      cell || (List.range 16).any (fun (k : Nat) => match d.owner 0x06 (16 * n + k) with | some c => d.owns p c | none => false))
  else if o < 0x20100 then olAt o 0x20000 256 1 (fun (_ : Nat) => v.olField) all
  else if o < 0x22000 then olAt o 0x20100 128 32 v.olDi (d.sees p 0x09)
  else if o < 0x22400 then olAt o 0x22000 32 16 v.olDo (d.sees p 0x0A)
  else if o < 0x30000 then olAt o 0x22400 0xDC00 1 (fun (_ : Nat) => v.olDoSum) all
  else if o < 0x40000 then
    let n := (o - 0x30000) / 0x4000
    let b := 0x30000 + 0x4000 * n
    if !d.sees p 0x08 n then (b, [])
    else if o < b + 0x100 then (b, v.olCan n)
    else if o < b + 0x400 then (b + 0x100, v.olCanTx n)
    else if o < b + 0x1000 then (b + 0x400, v.olCanFifo n)
    else olAt o (b + 0x1000) 128 64 (v.olCanRx n) all
  else if o < 0x40100 then (0x40000, v.olTime)
  else if o < 0x40400 then (0x40100, v.olPtp)
  else if o < 0x41000 then olAt o 0x40400 32 16 v.olTcu (d.sees p 0x15)
  else if o < 0x50000 then olAt o 0x41000 32 8 (fun (n : Nat) => v.stamp ++ (v.crcu n).bytes) (d.sees p 0x0E)
  else if o < 0x50040 then (0x50000, v.olPower)
  else (0x50040, if cell then v.olCheck else [])

/-- R399: `n` bytes of the window from offset `o`, as port `p` reads them; what no record holds reads as zero. -/
def Dev.outlook (d v : Dev) (p o n : Nat) : Bytes :=
  (List.range n).map (fun (k : Nat) => let r := d.olRecord v p (o + k); r.2.getD (o + k - r.1) 0)

end Sys2Proof.Machine
end

