-- ==== Sys2Proof/Machine/PortCtl.lean ====
section
/-! DEFINITION. The control space of H0, H1 and H3, its doorbells, claims and masks, and what happens to the PCIe
links (R394-R398, R411, R413-R419). -/

namespace Sys2Proof.Machine

/-! ### The control ring pair -/

/-- R397: log2 of a number of slots, as `HC_CTL_SIZE` takes it. -/
def slotLogOk (n : Nat) : Bool := decide (7 ≤ n) && decide (n ≤ 16)

/-- R397: whether the control space describes a ring pair that can be created. -/
def Dev.ctlValid (d : Dev) (p : Nat) : Bool :=
  let q := d.prt p
  let sq := bits q.ctlSize 0 5
  let cq := bits q.ctlSize 8 5
  let loc := bits q.ctlSize 16 1
  let n := bits q.ctlSize 24 7
  slotLogOk sq && slotLogOk cq && (d.ring n).state == 0 && q.sqBase % 4096 == 0 && q.cqBase % 4096 == 0 &&
    (if loc = 1 then d.sramFits p n q.sqBase q.cqBase (2 ^ sq) (2 ^ cq) else p != 3)

/-- R397: create: the control ring pair enters `ACTIVE`, or the request is refused. -/
def Dev.ctlCreate (d : Dev) (p : Nat) : Dev :=
  let q := d.prt p
  if d.ctlValid p then
    (d.newRing (bits q.ctlSize 24 7) 2 p (bits q.ctlSize 16 1) q.sqBase q.cqBase (2 ^ bits q.ctlSize 0 5) (2 ^ bits q.ctlSize 8 5) true).onPort
      p (fun (q : Port) => { q with ctlStatus := 1 })
  else d.onPort p (fun (q : Port) => { q with ctlStatus := 2 })

/-- R66, R397: delete: the control ring pairs of the port are fetched from no more, and go once no command fetched from
them is in flight. -/
def Dev.ctlDelete (d : Dev) (p : Nat) : Dev :=
  ((List.range 128).foldl (fun (d : Dev) (n : Nat) =>
    d.onRing n (fun (r : Ring) =>
      if r.state != 0 && r.control && r.port == p then { r with closing := true, dropping := true } else r)) d).dropControl

/-! ### Doorbells (R398) -/

/-- R42, R45, R398: the submission doorbell. A tail outside the ring, or one that the head packet would pass, puts the
ring in error. -/
def State.sqDoorbell (s : State) (p n tail : Nat) : State :=
  let r := s.dev.ring n
  if r.state = 0 ∨ r.port ≠ p then { s with dev := s.dev.onPort p Port.bad }
  else if r.sqSlots ≤ tail then { s with dev := s.dev.ringError n }
  else
    let r' := { r with sqTail := tail }
    let s := { s with dev := s.dev.onRing n (fun (_ : Ring) => r') }
    if r.loc = 1 ∧ r.sqHead ≠ tail then
      match s.headOf r' none with
      | some b => if r'.parses b then s else { s with dev := s.dev.ringError n }
      | none => s
    else s

/-- R51, R413: the completion doorbell frees slots. -/
def Dev.cqDoorbell (d : Dev) (p n head : Nat) : Dev :=
  let r := d.ring n
  if r.state = 0 ∨ r.port ≠ p then d.onPort p Port.bad
  else
    (d.onRing n (fun (r : Ring) =>
      let h := head % r.cqSlots
      { r with cqHead := h, cqUsed := (r.cqTail + r.cqSlots - h) % r.cqSlots })).settleSrc n

/-- R289: the yard doorbell of an arm whose yard ring lies in host memory. -/
def Dev.yardDoorbell (d : Dev) (p arm tail : Nat) : Dev :=
  let own := match d.owner 0x02 arm with | some k => d.owns p k | none => false
  if own then
    d.onArm arm (fun (m : Arm) =>
      if m.yard.loc = 0 ∧ m.yard.entries ≠ 0 then { m with yard := { m.yard with tail := tail % m.yard.entries } } else m)
  else d.onPort p Port.bad

/-- R358: the flume doorbell returns the space of a flume ring. -/
def Dev.flumeDoorbell (d : Dev) (p eng ring head : Nat) : Dev :=
  let f := (d.eng eng).rings.getD ring Flume.reset
  if f.state ≠ 0 ∧ f.port = p then
    d.onEng eng (fun (e : Eng) => { e with rings := upd e.rings ring (fun (f : Flume) => { f with head := head % f.entries }) })
  else d.onPort p Port.bad

/-! ### Claim, complete, acknowledge (R413, R417) -/

/-- R417: the pending source routed to a port with the highest priority, the lowest number among equals. -/
def Dev.claimable (d : Dev) (p : Nat) : Option Nat :=
  let l := (List.range 1024).filter (fun (s : Nat) => d.srcPending s && (d.src s).route.port == p)
  let top := l.foldl (fun (m s : Nat) => max m (d.src s).route.prio) 0
  l.find? (fun (s : Nat) => (d.src s).route.prio == top)

/-- R417: what a read of `HC_EV_CLAIM` returns. -/
def Dev.claimWord (d : Dev) (p : Nat) : Nat :=
  match d.claimable p with
  | some s => s + 2 ^ 10 * (d.src s).route.vec + 2 ^ 31
  | none => 0

/-- R417: the claim takes its source into service. -/
def Dev.claim (d : Dev) (p : Nat) : Dev :=
  match d.claimable p with
  | some s => d.onSrc s (fun (x : Src) => { x with serv := some p, pend := false })
  | none => d

/-- R417: the end of a source's service; a source still asserted is pending anew. -/
def Dev.complete (d : Dev) (p s : Nat) : Dev :=
  if (d.src s).serv = some p then (d.onSrc s (fun (x : Src) => { x with serv := none, pend := false })).pendingEvent s
  else d.onPort p Port.bad

/-- R413: a write of cause bits. -/
def Dev.ackWrite (d : Dev) (p s mask : Nat) : Dev := if d.mayServe p s then d.ack s mask else d.onPort p Port.bad

/-! ### Registers (R397) -/

/-- The low or the high 32 bits of a 64-bit register written. -/
def put32 (n : Nat) (hi : Bool) (v : Nat) : Nat :=
  if hi then n % 2 ^ 32 + 2 ^ 32 * (v % 2 ^ 32) else n / 2 ^ 32 * 2 ^ 32 + v % 2 ^ 32

/-- The low or the high 32 bits of a 64-bit register. -/
def get32 (n : Nat) (hi : Bool) : Nat := if hi then n / 2 ^ 32 % 2 ^ 32 else n % 2 ^ 32

/-- R419: a word of an MSI-X table entry written. -/
def Vec.put (v : Vec) (word value : Nat) : Vec :=
  match word with
  | 0 => { v with addr := put32 v.addr false (value / 4 * 4) }
  | 1 => { v with addr := put32 v.addr true value }
  | 2 => { v with data := value % 2 ^ 32 }
  | _ => { v with mask := bit value 0 }

/-- R419: a word of an MSI-X table entry. -/
def Vec.get (v : Vec) (word : Nat) : Nat :=
  match word with
  | 0 => get32 v.addr false
  | 1 => get32 v.addr true
  | 2 => v.data
  | _ => b2n v.mask

/-- R411: the issued vectors of H3 served. -/
def Dev.irqClear (d : Dev) (hi : Bool) (mask : Nat) : Dev :=
  d.onPort 3 (fun (q : Port) => { q with irqVec := clearMask q.irqVec (put32 0 hi mask) })

/-- The four bytes of a word written into memory. -/
def State.memWrite (s : State) (a v : Nat) : State := { s with mem := Memory.writeN s.mem a (e32 v) }

/-- R397, R398: a 32-bit write of the control space. Reserved offsets and read-only registers take no writes. -/
def State.ctlWrite (s : State) (p off value : Nat) : State :=
  let dev (f : Dev → Dev) : State := { s with dev := f s.dev }
  let port (f : Port → Port) : State := dev (fun (d : Dev) => d.onPort p f)
  if off % 4 ≠ 0 ∧ off < 0x8000 then s
  else if off = 0x10 then port (fun (q : Port) => { q with sqBase := put32 q.sqBase false value })
  else if off = 0x14 then port (fun (q : Port) => { q with sqBase := put32 q.sqBase true value })
  else if off = 0x18 then port (fun (q : Port) => { q with cqBase := put32 q.cqBase false value })
  else if off = 0x1C then port (fun (q : Port) => { q with cqBase := put32 q.cqBase true value })
  else if off = 0x20 then port (fun (q : Port) => { q with ctlSize := value &&& 0x7F011F1F })
  else if off = 0x24 then
    dev (fun (d : Dev) =>
      let d := if bit value 0 then d.ctlCreate p else d
      if bit value 1 then d.ctlDelete p else d)
  else if off = 0x30 then port (fun (q : Port) => { q with ringWin := value % 32 })
  else if off = 0x104 then dev (fun (d : Dev) => d.complete p (value % 1024))
  else if off = 0x108 then (if p = 3 then dev (fun (d : Dev) => d.irqClear false value) else s)
  else if off = 0x10C then (if p = 3 then dev (fun (d : Dev) => d.irqClear true value) else s)
  else if off = 0x110 then (if p = 3 then port (fun (q : Port) => { q with irqMask := put32 q.irqMask false value }) else s)
  else if off = 0x114 then (if p = 3 then port (fun (q : Port) => { q with irqMask := put32 q.irqMask true value }) else s)
  else if 0x400 ≤ off ∧ off < 0x800 then
    (if off % 8 = 0 then s.sqDoorbell p ((off - 0x400) / 8) value
     else dev (fun (d : Dev) => d.cqDoorbell p ((off - 0x400) / 8) value))
  else if 0x800 ≤ off ∧ off < 0x820 then dev (fun (d : Dev) => d.yardDoorbell p ((off - 0x800) / 4) value)
  else if 0x840 ≤ off ∧ off < 0x880 then
    dev (fun (d : Dev) => d.flumeDoorbell p ((off - 0x840) / 16) ((off - 0x840) / 4 % 4) value)
  else if 0x1000 ≤ off ∧ off < 0x1400 then
    (if p < 2 then
      dev (fun (d : Dev) =>
        let v := (off - 0x1000) / 16
        (d.onVec p v (fun (x : Vec) => x.put ((off - 0x1000) / 4 % 4) value)).retry p v)
     else s)
  else if 0x3000 ≤ off ∧ off < 0x4000 then dev (fun (d : Dev) => d.ackWrite p ((off - 0x3000) / 4) value)
  else if 0x8000 ≤ off ∧ off + 4 ≤ 0x10000 then s.memWrite (areaAddr p ((s.dev.prt p).ringWin * 0x8000 + (off - 0x8000))) value
  else s

/-- R397: a 32-bit word of the control space as a read returns it; the effect of a claim is `Dev.claim`. -/
def State.ctlRead (s : State) (p off : Nat) : Nat :=
  let d := s.dev
  let q := d.prt p
  let mask32 (i : Nat) (f : Nat → Bool) : Nat := maskOf ((List.range 32).map (fun (j : Nat) => f (32 * i + j)))
  if off = 0 then 0x4128
  else if off = 4 then p + 4 * b2n (d.isOpen p) + 8 * b2n (d.cps.cellOwner == p)
  else if off = 8 then d.stk.number % 2 ^ 32
  else if off = 0x10 then get32 q.sqBase false
  else if off = 0x14 then get32 q.sqBase true
  else if off = 0x18 then get32 q.cqBase false
  else if off = 0x1C then get32 q.cqBase true
  else if off = 0x20 then q.ctlSize
  else if off = 0x28 then q.ctlStatus
  else if off = 0x30 then q.ringWin
  else if off = 0x100 then d.claimWord p
  else if off = 0x108 then get32 q.irqVec false
  else if off = 0x10C then get32 q.irqVec true
  else if off = 0x110 then get32 q.irqMask false
  else if off = 0x114 then get32 q.irqMask true
  else if 0x1000 ≤ off ∧ off < 0x1400 then (if p < 2 then (d.vec p ((off - 0x1000) / 16)).get ((off - 0x1000) / 4 % 4) else 0)
  else if 0x1800 ≤ off ∧ off < 0x1808 then
    (if p < 2 then mask32 ((off - 0x1800) / 4) (fun (v : Nat) => (d.vec p v).pba) else 0)
  else if 0x2000 ≤ off ∧ off < 0x2080 then
    mask32 ((off - 0x2000) / 4) (fun (n : Nat) => d.srcPending n && (d.src n).route.port == p)
  else if 0x2080 ≤ off ∧ off < 0x2100 then mask32 ((off - 0x2080) / 4) (fun (n : Nat) => (d.src n).serv == some p)
  else if 0x3000 ≤ off ∧ off < 0x4000 then d.causes ((off - 0x3000) / 4)
  else if 0x8000 ≤ off ∧ off < 0x10000 then
    uLE (Memory.readN s.mem (areaAddr p (q.ringWin * 0x8000 + (off - 0x8000))) 4) 0 4
  else 0

/-- A step of the control space: H2 has none; a port that is not up answers nothing. -/
def State.ctl (s : State) (p : Nat) (f : State → State) : State :=
  let s := s.fresh
  if s.dev.portUp p && p != 2 then f s else s

/-- The device's own step, while it runs. -/
def State.live (s : State) (f : Dev → Dev) : State :=
  let s := s.fresh
  if s.dev.running then { s with dev := f s.dev } else s

/-- `HC_CTL_CREATE` (R397). -/
def execHcCtlCreate (p : Fin 4) (s : State) : Host.Outcome State Fault Refusal :=
  .next (s.ctl p.val (fun (s : State) => s.ctlWrite p.val 0x24 1))
/-- `HC_CTL_DELETE` (R397). -/
def execHcCtlDelete (p : Fin 4) (s : State) : Host.Outcome State Fault Refusal :=
  .next (s.ctl p.val (fun (s : State) => s.ctlWrite p.val 0x24 2))
/-- `HC_SQ_DB` (R398). -/
def execHcSqDb (p : Fin 4) (ring : Fin 128) (tail : Nat) (s : State) : Host.Outcome State Fault Refusal :=
  .next (s.ctl p.val (fun (s : State) => s.sqDoorbell p.val ring.val tail))
/-- `HC_CQ_DB` (R398). -/
def execHcCqDb (p : Fin 4) (ring : Fin 128) (head : Nat) (s : State) : Host.Outcome State Fault Refusal :=
  .next (s.ctl p.val (fun (s : State) => { s with dev := s.dev.cqDoorbell p.val ring.val head }))
/-- `HC_YARD_DB` (R289). -/
def execHcYardDb (p : Fin 4) (arm : Fin 8) (tail : Nat) (s : State) : Host.Outcome State Fault Refusal :=
  .next (s.ctl p.val (fun (s : State) => { s with dev := s.dev.yardDoorbell p.val arm.val tail }))
/-- `HC_FLUME_DB` (R358). -/
def execHcFlumeDb (p : Fin 4) (eng ring : Fin 4) (head : Nat) (s : State) : Host.Outcome State Fault Refusal :=
  .next (s.ctl p.val (fun (s : State) => { s with dev := s.dev.flumeDoorbell p.val eng.val ring.val head }))
/-- `HC_EV_CLAIM` (R417). -/
def execHcEvClaim (p : Fin 4) (s : State) : Host.Outcome State Fault Refusal :=
  .next (s.ctl p.val (fun (s : State) => { s with dev := (s.dev.claim p.val).send (.reg (s.dev.claimWord p.val)) }))
/-- `HC_EV_COMPLETE` (R417). -/
def execHcEvComplete (p : Fin 4) (source : Fin 1024) (s : State) : Host.Outcome State Fault Refusal :=
  .next (s.ctl p.val (fun (s : State) => { s with dev := s.dev.complete p.val source.val }))
/-- `HC_EV_ACK` (R413). -/
def execHcEvAck (p : Fin 4) (source : Fin 1024) (mask : Nat) (s : State) : Host.Outcome State Fault Refusal :=
  .next (s.ctl p.val (fun (s : State) => { s with dev := s.dev.ackWrite p.val source.val mask }))
/-- `HC_IRQ_VEC_CLEAR` (R411). -/
def execHcIrqVecClear (hi : Bool) (mask : Nat) (s : State) : Host.Outcome State Fault Refusal :=
  .next (s.live (fun (d : Dev) => d.irqClear hi mask))
/-- `REGISTER_WRITE` (R397). -/
def execRegisterWrite (p : Fin 4) (addr value : Nat) (s : State) : Host.Outcome State Fault Refusal :=
  .next (s.ctl p.val (fun (s : State) => s.ctlWrite p.val addr value))

/-- R419: a configuration or table write of H0 or H1, and the messages its gates held. -/
def Dev.msixWrite (d : Dev) (p : Nat) (w : MsixWrite) : Dev :=
  match w with
  | .config enable master fmask =>
    (d.onPort p (fun (q : Port) => { q with msixOn := enable, master := master, fmask := fmask })).retryPort p
  | .mask v m => (d.onVec p v.val (fun (x : Vec) => { x with mask := m })).retry p v.val

/-- `MSIX_GATE_OPEN` (R419). -/
def execMsixGateOpen (p : Fin 2) (w : MsixWrite) (s : State) : Host.Outcome State Fault Refusal :=
  .next (s.live (fun (d : Dev) => if d.portUp p.val then d.msixWrite p.val w else d))

/-! ### PCIe links (R396) -/

/-- R396: the endpoint of a port is reset: its control space and its MSI-X state. -/
def Port.endpointReset (q : Port) : Port :=
  let v (x : Vec) : Vec := { x with addr := 0, data := 0, mask := true, pba := false }
  { q with sqBase := 0, cqBase := 0, ctlSize := 0, ctlStatus := 0, ringWin := 0, msixOn := false, master := false, fmask := false
           d3 := false, waiting := false, vecs := q.vecs.map v }

/-- `PERST` (R396): the port is lost at once, its endpoint is reset and its link is down. -/
def execPerst (p : Fin 2) (s : State) : Host.Outcome State Fault Refusal :=
  .next (s.live (fun (d : Dev) =>
    (d.portLost p.val).onPort p.val (fun (q : Port) => ({ q.endpointReset with speed := 0, width := 0 } : Port).link false)))
/-- `FUNCTION_LEVEL_RESET` (R396): the port is lost at once and its endpoint is reset; the link stays. -/
def execFunctionLevelReset (p : Fin 2) (s : State) : Host.Outcome State Fault Refusal :=
  .next (s.live (fun (d : Dev) => (d.portLost p.val).onPort p.val Port.endpointReset))
/-- `LINK_DOWN` (R396): the link leaves L0 and Recovery, and `link_loss_ms` runs. -/
def execLinkDown (p : Fin 2) (s : State) : Host.Outcome State Fault Refusal :=
  .next (s.live (fun (d : Dev) =>
    if (d.prt p.val).linkUp then d.onPort p.val (fun (q : Port) => ({ q with waiting := true } : Port).link false) else d))
/-- `LINK_RETURN` (R396): the link is back before `link_loss_ms` has passed. -/
def execLinkReturn (p : Fin 2) (s : State) : Host.Outcome State Fault Refusal :=
  .next (s.live (fun (d : Dev) =>
    if (d.prt p.val).waiting then d.onPort p.val (fun (q : Port) => ({ q with waiting := false } : Port).link true) else d))
/-- `LINK_LOSS_TIMEOUT` (R396): `link_loss_ms` has passed with the link still down. -/
def execLinkLossTimeout (p : Fin 2) (s : State) : Host.Outcome State Fault Refusal :=
  .next (s.live (fun (d : Dev) =>
    if (d.prt p.val).waiting then
      (d.portLost p.val).onPort p.val (fun (q : Port) => { q with waiting := false, speed := 0, width := 0 })
    else d))
/-- `POWER_STATE_CHANGE` (R396): D3hot stops fetching and DMA without losing the port. -/
def execPowerStateChange (p : Fin 2) (d3 : Bool) (s : State) : Host.Outcome State Fault Refusal :=
  .next (s.live (fun (d : Dev) => d.onPort p.val (fun (q : Port) => { q with d3 := d3 })))
/-- `PCIE_LINK_UP` (R414): the link trains to L0. -/
def execPcieLinkUp (p : Fin 2) (speed width : Fin 16) (s : State) : Host.Outcome State Fault Refusal :=
  .next (s.live (fun (d : Dev) =>
    if d.portUp p.val then d.onPort p.val (fun (q : Port) => ({ q with speed := speed.val, width := width.val } : Port).link true) else d))
/-- `H2_PCS_LINK_CHANGE` (R414). -/
def execH2PcsLinkChange (up : Bool) (speed : Fin 4) (s : State) : Host.Outcome State Fault Refusal :=
  .next (s.live (fun (d : Dev) =>
    if d.portUp 2 then d.onPort 2 (fun (q : Port) => ({ q with speed := speed.val } : Port).link up) else d))

/-! ### Vectors (R416) -/

/-- `EV_COALESCE_TIMER` (R416): the timer of a vector reaches `ev_time_us`. -/
def execEvCoalesceTimer (p : Fin 4) (vec : Fin 64) (s : State) : Host.Outcome State Fault Refusal :=
  .next (s.live (fun (d : Dev) =>
    let v := d.vec p.val vec.val
    if v.timer && v.evTime != 0 && !v.held then d.conditionMet p.val vec.val else d))
/-- `EVENT_PENDING` (R416): a source that has become pending counts on its vector. -/
def execEventPending (source : Fin 1024) (s : State) : Host.Outcome State Fault Refusal :=
  .next (s.live (fun (d : Dev) => d.pendingEvent source.val))

end Sys2Proof.Machine
end

