-- ==== Sys2Proof/Machine/PortNet.lean ====
section
/-! DEFINITION. H2: Novloth over UDP. Datagrams, the transport session, and the placing of commands (R402-R408). -/

namespace Sys2Proof.Machine

/-- R403: whether a datagram is whole: its length is that of its header, body and tag. -/
def dgWhole (g : Bytes) : Bool := decide (32 ≤ g.length) && g.length == 32 + u16 g 2
/-- R403: the body. -/
def dgBody (g : Bytes) : Bytes := slice g 16 (u16 g 2)
/-- R403: whether the tag is that of a key. -/
def dgTagOk (key g : Bytes) : Bool := slice g (16 + u16 g 2) 16 == dgTag key (g.take (16 + u16 g 2))

/-! ### SETUP (R404) -/

/-- R404: the pre-shared key of a number, where the options hold it. -/
def Dev.psk (d : Dev) (k : Nat) : Option Bytes := d.pwr.opt.psk.getD k none

/-- R404: why a `SETUP` is rejected. -/
def Dev.setupReject (d : Dev) (ring sqLog cqLog : Nat) : Option Nat :=
  let logOk (n : Nat) : Bool := decide (7 ≤ n) && decide (n ≤ 12)
  if 128 ≤ ring ∨ (d.ring ring).state ≠ 0 then some 1
  else if !(logOk sqLog && logOk cqLog) then some 2
  else if !d.sramFits 2 ring 0 (64 * 2 ^ sqLog) (2 ^ sqLog) (2 ^ cqLog) then some 3
  else none

/-- R404: the session that a `SETUP` starts, its key and its identifier. -/
def Dev.setupAccept (d : Dev) (source : Nat) (kp nonce : Bytes) (ring sqLog cqLog : Nat) : Dev :=
  let id := 1 + Config.sessionId d.free % (2 ^ 32 - 1)
  let mine := slice (Config.devNonce d.free) 0 16
  let key := hmac kp ([0x41, 0x44, 0x42, 0x4E] ++ nonce ++ mine ++ e32 id)
  let body := mine ++ e32 d.stk.number
  let p := e8 0x02 ++ e8 0 ++ e16 body.length ++ e32 id ++ e64 0 ++ body
  let d := d.skip 1
  let d := d.newRing ring 2 2 1 0 (64 * 2 ^ sqLog) (2 ^ sqLog) (2 ^ cqLog) true
  let d := d.onH2 (fun (h : H2) => { h with session := some ⟨id, key, source, 0, 0, 1⟩, nonces := (nonce :: h.nonces).take 16 })
  d.send (.dgram (p ++ dgTag key p))

/-- R404: the answer to a valid `SETUP`. A session in place ends as a port loss before the new one starts. -/
def Dev.setup (d : Dev) (source : Nat) (kp body : Bytes) : Dev :=
  let d' := d.loseH2
  let ring := u16 body 20
  match d'.setupReject ring (u8 body 22) (u8 body 23) with
  | some why =>
    let p := e8 0x03 ++ e8 0 ++ e16 2 ++ e32 0 ++ e64 0 ++ e16 why
    d.send (.dgram (p ++ dgTag kp p))
  | none => d'.setupAccept source kp (slice body 4 16) ring (u8 body 22) (u8 body 23)

/-- `H2_SETUP` (R403, R404). -/
def execH2Setup (source : Nat) (dgram : Bytes) (s : State) : Host.Outcome State Fault Refusal :=
  .next (s.live (fun (d : Dev) =>
    let body := dgBody dgram
    if d.portUp 2 && dgWhole dgram && u8 dgram 0 == 0x01 && body.length == 24 then
      match d.psk (u8 body 0) with
      | some kp =>
        if !dgTagOk kp dgram then d.onPort 2 Port.auth
        else if d.hp.h2.nonces.contains (slice body 4 16) ∨ u32 dgram 4 ≠ 0 then d
        else d.setup source kp body
      | none => d.onPort 2 Port.auth
    else d))

/-! ### Datagrams of the session (R405) -/

/-- R403-R405: a datagram of the session: discarded, counted, or handed on with its number's acceptance. -/
def State.h2Take (s : State) (source kind : Nat) (g : Bytes) (len : Nat → Bool) (f : H2Session → State → State) : State :=
  let s := s.fresh
  match s.dev.hp.h2.session with
  | none => s
  | some x =>
    if !(s.dev.portUp 2 && dgWhole g && u8 g 0 == kind && len (u16 g 2) && source == x.source && u32 g 4 == x.id) then s
    else if !dgTagOk x.key g then { s with dev := s.dev.onPort 2 Port.auth }
    else match x.accept (u64 g 8) with
      | none => { s with dev := s.dev.onPort 2 (fun (q : Port) => { q with duplicates := sat32 (q.duplicates + 1) }) }
      | some y => f y s

/-- R405: a datagram marked accepted. -/
def State.h2Mark (s : State) (y : H2Session) : State :=
  { s with dev := s.dev.onH2 (fun (h : H2) => { h with session := some y }) }

/-- R406: the packets of a `COMMAND` body, each padded to a multiple of 4 bytes; `none` where it is malformed. -/
def dgPackets (b : Bytes) : Nat → Nat → Option (List Bytes)
  | 0, o => if o = b.length then some [] else none
  | n + 1, o =>
    let len := 16 + u16 b (o + 6)
    let next := o + cdivN len 4 * 4
    if o + 16 ≤ b.length ∧ u16 b (o + 6) ≤ 4080 ∧ next ≤ b.length then
      (dgPackets b n next).map (fun (l : List Bytes) => slice b o len :: l)
    else none

/-- R406: a packet placed at the tail of a submission ring. -/
def State.place (s : State) (n : Nat) (p : Bytes) : State :=
  let r := s.dev.ring n
  { s with
    mem := Memory.writeRing s.mem r.port r.sqBase r.sqSlots 64 r.sqTail p
    dev := s.dev.onRing n (fun (r : Ring) => { r with sqTail := (r.sqTail + cdivN p.length 64) % r.sqSlots }) }

/-- R406: a refused `COMMAND`. -/
def State.nak (s : State) (seq ring why : Nat) : State :=
  let d := s.dev.onPort 2 (fun (q : Port) => { q with naks := sat32 (q.naks + 1) })
  { s with dev := d.h2Send 0x21 (e64 seq ++ e16 ring ++ e16 why) }

/-- R406: the packets of a `COMMAND` enter its ring together, or none does. -/
def State.h2Place (s : State) (y : H2Session) (g : Bytes) : State :=
  let b := dgBody g
  let n := u16 b 0
  let r := s.dev.ring n
  match dgPackets b (u16 b 2) 4 with
  | none => s.nak (u64 g 8) n 3
  | some l =>
    if r.state = 0 ∨ r.port ≠ 2 then s.nak (u64 g 8) n 2
    else if r.sqFree < (l.map (fun (p : Bytes) => cdivN p.length 64)).sum then s.nak (u64 g 8) n 1
    else l.foldl (fun (s : State) (p : Bytes) => s.place n p) (s.h2Mark y)

/-- `H2_COMMAND` (R406). -/
def execH2Command (source : Nat) (dgram : Bytes) (s : State) : Host.Outcome State Fault Refusal :=
  .next (s.h2Take source 0x10 dgram (fun (n : Nat) => decide (4 ≤ n)) (fun (y : H2Session) (s : State) => s.h2Place y dgram))

/-- `H2_CQ_ACK` (R406). -/
def execH2CqAck (source : Nat) (dgram : Bytes) (s : State) : Host.Outcome State Fault Refusal :=
  .next (s.h2Take source 0x11 dgram (fun (n : Nat) => n == 8) (fun (y : H2Session) (s : State) =>
    let s := s.h2Mark y
    let b := dgBody dgram
    { s with dev := s.dev.cqDoorbell 2 (u16 b 0) (u32 b 4) }))

/-- The control ring pair of a port. -/
def Dev.controlRing (d : Dev) (p : Nat) : Ring :=
  match (List.range 128).find? (fun (n : Nat) => (d.ring n).state != 0 && (d.ring n).port == p && (d.ring n).control) with
  | some n => d.ring n
  | none => Ring.reset

/-- `H2_KEEPALIVE` (R406). -/
def execH2Keepalive (source : Nat) (dgram : Bytes) (s : State) : Host.Outcome State Fault Refusal :=
  .next (s.h2Take source 0x12 dgram (fun (n : Nat) => n == 0) (fun (y : H2Session) (s : State) =>
    let s := s.h2Mark y
    { s with dev := s.dev.h2Send 0x22 (e32 s.dev.stk.number ++ e32 (s.dev.controlRing 2).sqFree) }))

/-- `H2_RETRANSMIT_TIMEOUT` (R406): the entries not acknowledged are sent again. -/
def execH2RetransmitTimeout (ring : Fin 128) (s : State) : Host.Outcome State Fault Refusal :=
  let s := s.fresh
  let r := s.dev.ring ring.val
  .next (if s.dev.running && r.state != 0 && r.port == 2 then s.completionDgram ring.val r.cqHead r.cqUsed else s)

/-- `H2_EVENT_REPEAT` (R408): a vector whose sources stay pending. -/
def execH2EventRepeat (vec : Fin 64) (s : State) : Host.Outcome State Fault Refusal :=
  .next (s.live (fun (d : Dev) =>
    let v := d.vec 2 vec.val
    if (d.vecSources 2 vec.val).isEmpty then d.onVec 2 vec.val (fun (x : Vec) => { x with again := false })
    else if v.again && !v.parked then d.h2Send 0x31 (d.eventBody vec.val)
    else d))

/-- `H2_SESSION_TIMEOUT` (R408). -/
def execH2SessionTimeout (s : State) : Host.Outcome State Fault Refusal :=
  .next (s.live Dev.loseH2)

end Sys2Proof.Machine
end

