-- ==== Sys2Proof/Machine/PortSpi.lean ====
section
/-! DEFINITION. H3: the SPI target (R409, R410). -/

namespace Sys2Proof.Machine

/-- R410: the width that an op byte names is one of the three. -/
def spiWidthOk (op : Nat) : Bool := decide (op / 64 < 3)

/-- R414: the lanes of the last transaction. -/
def Dev.spiLanes (d : Dev) (op : Nat) : Dev :=
  if spiWidthOk op then d.onPort 3 (fun (q : Port) => { q with width := 2 ^ (op / 64) }) else d

/-- R410: a transaction that failed its CRC or its framing. -/
def Dev.spiBad (d : Dev) (why : Nat) : Dev :=
  d.onPort 3 (fun (q : Port) => ({ q with lastWrite := why, discarded := min 255 (q.discarded + 1) } : Port).auth)

/-- R409: one word of a write: control space, ring area, or nowhere. -/
def State.spiWord (s : State) (a v : Nat) : State × Bool :=
  if a + 4 ≤ 0x10000 then (s.ctlWrite 3 a v, true)
  else if 0x100000 ≤ a ∧ a + 4 ≤ 0x200000 then (s.memWrite (areaAddr 3 (a - 0x100000)) v, true)
  else (s, false)

/-- R409, R410: the data of a write applied, word by word in the order received; words that lie elsewhere are discarded and
the write is counted. -/
def State.spiApply (s : State) (a : Nat) (data : Bytes) : State :=
  let r := (List.range (data.length / 4)).foldl (fun (x : State × Bool) (k : Nat) =>
    let y := x.1.spiWord (a + 4 * k) (u32 data (4 * k))
    (y.1, x.2 && y.2)) (s, true)
  if r.2 then r.1
  else { r.1 with dev := r.1.dev.onPort 3 (fun (q : Port) => ({ q with discarded := min 255 (q.discarded + 1) } : Port).bad) }

/-- `H3_WRITE` (R410): applied whole, or not at all. -/
def execH3Write (bytes : Bytes) (whole : Bool) (s : State) : Host.Outcome State Fault Refusal :=
  let s := s.fresh
  let op := u8 bytes 0
  let len := u16 bytes 5
  if !s.dev.portUp 3 || op % 16 != 1 then .next s
  else
    let s := { s with dev := s.dev.spiLanes op }
    let framed := whole && spiWidthOk op && bytes.length == 9 + len && len % 4 == 0 && decide (4 ≤ len) && decide (len ≤ 4096)
    if !framed then .next { s with dev := s.dev.spiBad 3 }
    else if u16 bytes (7 + len) ≠ crc16 (bytes.take (7 + len)) then .next { s with dev := s.dev.spiBad 2 }
    else
      let s := s.spiApply (u32 bytes 1) (slice bytes 7 len)
      .next { s with dev := s.dev.onPort 3 (fun (q : Port) => { q with lastWrite := 0 }) }

/-- R409: the byte at an address of the SPI space. -/
def State.spiByte (s : State) (a : Nat) : Byte :=
  if a < 0x10000 then byteOf (s.ctlRead 3 (a / 4 * 4) / 256 ^ (a % 4))
  else if 0x100000 ≤ a ∧ a < 0x200000 then Memory.read s.mem (areaAddr 3 (a - 0x100000))
  else if 0x1000000 ≤ a ∧ a < 0x2000000 then (s.dev.outlook s.shown 3 (a - 0x1000000) 1).headD 0
  else 0

/-- R410: what the device sends after the turnaround: data and the CRC over them. -/
def spiReply (data : Bytes) : Bytes := data ++ e16 (crc16 data)
/-- R410: what it sends for a header whose CRC fails: 0xFF data with the complement of their CRC. -/
def spiRefuse (n : Nat) : Bytes := let b := List.replicate n (0xFF : Byte); b ++ e16 (0xFFFF - crc16 b)

/-- R410: a failure of a read or a status request, counted; it is no write. -/
def Dev.spiFail (d : Dev) : Dev := d.onPort 3 Port.auth

/-- `H3_READ` (R410): `sent` says that the last data bit has been sent; only then does a claim take its source. -/
def execH3Read (bytes : Bytes) (sent : Bool) (s : State) : Host.Outcome State Fault Refusal :=
  let s := s.fresh
  let op := u8 bytes 0
  let a := u32 bytes 1
  let len := u16 bytes 5
  if !s.dev.portUp 3 || op % 16 != 2 then .next s
  else
    let s := { s with dev := s.dev.spiLanes op }
    if bytes.length < 9 ∨ !spiWidthOk op then .next { s with dev := s.dev.spiFail }
    else if u16 bytes 7 ≠ crc16 (bytes.take 7) then .next { s with dev := s.dev.spiFail.send (.spi (spiRefuse len)) }
    else
      let data := (List.range len).map (fun (k : Nat) => s.spiByte (a + k))
      let d := if sent && decide (a ≤ 0x100) && decide (0x104 ≤ a + len) then s.dev.claim 3 else s.dev
      .next { s with dev := d.send (.spi (spiReply data)) }

/-- R411: whether `IRQ_N` is driven low. -/
def Port.irq (q : Port) : Bool := clearMask q.irqVec q.irqMask != 0

/-- R410: the status word. -/
def Dev.spiStatus (d : Dev) : Nat :=
  let q := d.prt 3
  q.lastWrite + 4 * b2n q.irq + 8 * b2n (d.isOpen 3) + 2 ^ 8 * q.discarded + 2 ^ 16 * (d.stk.number % 2 ^ 16)

/-- `H3_STATUS` (R410). -/
def execH3Status (bytes : Bytes) (s : State) : Host.Outcome State Fault Refusal :=
  .next (s.live (fun (d : Dev) =>
    let op := u8 bytes 0
    if op % 16 ≠ 3 ∨ !d.portUp 3 then d
    else
      let d := d.spiLanes op
      if bytes.length < 3 ∨ !spiWidthOk op then d.spiFail
      else if u16 bytes 1 ≠ crc16 (bytes.take 1) then d.spiFail.send (.spi (spiRefuse 4))
      else (d.onPort 3 (fun (q : Port) => { q with lastWrite := 1 })).send (.spi (spiReply (e32 d.spiStatus)))))

/-- `H3_SESSION_TIMEOUT` (R410). -/
def execH3SessionTimeout (s : State) : Host.Outcome State Fault Refusal :=
  .next (s.live (fun (d : Dev) => if d.isOpen 3 then d.portLost 3 else d))

end Sys2Proof.Machine
end

