-- ==== Sys2Proof/Machine/SegEv.lean ====
section
/-! DEFINITION. What happens on a Finaval segment: suction slots, echo answers, the services of slack, start-up, joining and
leaving, and bus errors (R231-R270). -/

namespace Sys2Proof.Machine

/-! ### The segment in a stroke -/

/-- R253: the last stroke of `STARTING` keeps its layout. -/
def Seg.starting (s : Seg) : Bool := s.state == 3 || (s.state == 4 && s.strokes == 0)

/-- The suction slot that a frame is judged against: the first that has not ended. -/
def Seg.slotNow (s : Seg) : Option SchEntry := s.suctions.find? (fun (e : SchEntry) => !(s.node e.pos).closed)

/-- The enabled axes bound to nodes of segment `n`. -/
def Dev.segAxes (d : Dev) (n : Nat) : List Nat :=
  (List.range 128).filter (fun (i : Nat) => let a := d.ax i; a.remote && a.node.1 == n && a.state != 0)

/-- R144: an axis in `DISABLED` records the causes of its feedback and raises no fault. -/
def Dev.idleCauses (d : Dev) (i : Nat) : Dev := (d.noteRemote i).sinceInstant i

/-- R144: the axes in `DISABLED` bound to nodes of segment `n`. -/
def Dev.segIdle (d : Dev) (n : Nat) : List Nat :=
  (List.range 128).filter (fun (i : Nat) => let a := d.ax i; a.remote && a.node.1 == n && a.state == 0)

/-- R143, R159: the electrical angle that the record of an axis shows. -/
def Dev.noteTheta (d : Dev) (i t : Nat) : Dev :=
  let th := d.theta i t
  d.onFb i (fun (f : Fb) => if f.configured then { f with theta := th } else f)

/-- R117-R119, R310: the feedback instants of a list of axes, `t` the latch instant. -/
def Dev.liftBack (d : Dev) (l : List Nat) (t : Nat) : Dev :=
  l.foldl (fun (d : Dev) (i : Nat) => ((d.feedback i).safTrack i t).noteTheta i t) d

/-- R113: the faults of a list of axes. -/
def Dev.liftFaults (d : Dev) (l : List Nat) : Dev :=
  l.foldl (fun (d : Dev) (i : Nat) => d.axFaults i (d.measure (d.ax i))) d

/-- R13: lift takes the axes of a segment whose last slot has ended after the latch point. -/
def Dev.lateLift (d : Dev) (n : Nat) : Dev :=
  if d.stk.phase = .lift ∧ !(d.seg n).slotOpen ∧ !(d.seg n).ran then
    let t := d.at_ d.stk.cfg.latchNs
    let l := d.segAxes n
    let d := (d.liftBack l t).liftFaults l
    let d := (d.segIdle n).foldl Dev.idleCauses d
    let d := l.foldl (fun (d : Dev) (i : Nat) =>
      let a := d.ax i
      (if a.computed && a.autoLaw then d else d.setAxis i t).runAxis i t) d
    d.onSeg n (fun (s : Seg) => { s with ran := true })
  else d

/-! ### Suction -/

/-- R352: the raw-field channels of position `p` of segment `n` and what they read. -/
def Dev.rawChans (d : Dev) (n p : Nat) : List (Nat × ChanCfg) :=
  (d.cap.sources 4 n).filterMap (fun (k : Nat) =>
    match (d.chan k).cfg with
    | some g => if g.fvPos = p then some (k, g) else none
    | none => none)

/-- R352: a stroke without a value for the raw-field channels of a position. -/
def Dev.rawNone (d : Dev) (n p t : Nat) : Dev :=
  { d with cap := (d.rawChans n p).foldl (fun (c : Cap) (k : Nat × ChanCfg) => c.noSample k.1 t) d.cap }

/-- R352: the raw fields of an accepted frame whose start of frame came at `t`. -/
def Dev.rawFields (d : Dev) (n p : Nat) (f : Bytes) (t : Nat) : Dev :=
  let len := f.length - 5
  { d with cap := (d.rawChans n p).foldl (fun (c : Cap) (k : Nat × ChanCfg) =>
      let g := k.2
      if g.fvOffset + g.fvWidth ≤ len then
        let v := uLE f (3 + g.fvOffset) g.fvWidth
        c.sample k.1 (v : Int) (e32 v ++ e32 (u8 f 2)) 0 t
      else c.noSample k.1 t) d.cap }

/-- R232, R257: a slot that ends without an accepted frame; `why` is the counter. -/
def NodePos.missed (n : NodePos) (why : Nat) : NodePos :=
  { n.bump why with closed := true, slotOk := false, okRun := 0, missRun := n.missRun + 1 }

/-- R223: the values of an accepted frame. -/
def NodePos.accept (n : NodePos) (f : Bytes) (axes : Nat) : NodePos :=
  let entry (k : Nat) : NodeAxis :=
    let o := 12 + 12 * k
    ⟨i16 f o, i16 f (o + 2), u32 f (o + 4), u16 f (o + 8), u16 f (o + 10)⟩
  { n.bump 0 with
    closed := true, slotOk := true, okRun := n.okRun + 1, missRun := 0, vbus := u16 f 3, status := u16 f 5
    axes := n.axes.mapIdx (fun (k : Nat) (a : NodeAxis) => if k < axes then entry k else a) }

/-- R261, R266: the cruise of a position starts. -/
def NodePos.cruise (n : NodePos) : NodePos := { n with cruising := true, read := false, summary := none, want := 0 }

/-- R256, R266: what an accepted slot brings about at its position. -/
def Dev.slotTaken (d : Dev) (n p was : Nat) : Dev :=
  let s := d.seg n
  let x := s.node p
  let d := if s.state = 4 ∧ x.state = 2 then
      d.onSeg n (fun (s : Seg) => s.onNode p (fun (x : NodePos) => { x.cruise with state := 3 }))
    else d
  let d := if bit x.status 0 && !bit was 0 then d.onSeg n (fun (s : Seg) => { s with events := setBit s.events 4 }) else d
  if bit x.status 6 && !bit was 6 && (x.state == 4 || x.state == 5) then
    d.onSeg n (fun (s : Seg) => s.onNode p NodePos.cruise)
  else d

/-- R231: a frame in the slot of entry `e`. -/
def Dev.suctionFrame (d : Dev) (n : Nat) (e : SchEntry) (dt : Int) (symOk : Bool) (f : Bytes) : Dev :=
  let p := e.pos
  let t0 := e.start * 80 + 160
  match acceptFault dt symOk f 2 (p + 1) (d.stk.number % 256) (fun (k : Nat) => k == suctionLen e.axes) with
  | some why =>
    ((d.onSeg n (fun (s : Seg) => s.onNode p (fun (x : NodePos) => x.missed why))).rawNone n p (d.at_ t0)).lateLift n
  | none =>
    let was := ((d.seg n).node p).status
    let d := d.onSeg n (fun (s : Seg) => s.onNode p (fun (x : NodePos) => x.accept f e.axes))
    ((d.slotTaken n p was).rawFields n p f (d.at_ ((t0 : Int) + dt).toNat)).lateLift n

/-- R233: whether the slots of the stroke can still end. -/
def Dev.sucks (d : Dev) : Bool := d.stk.phase == .beacon || d.stk.phase == .suction || d.stk.phase == .lift

/-- `SUCTION_FRAME` (R231): `dt` is the start of frame against the expected instant. -/
def execSuctionFrame (seg : Fin 16) (dt : Int) (symOk : Bool) (frame : Bytes) (s : State) : Host.Outcome State Fault Refusal :=
  .next (s.live (fun (d : Dev) =>
    match (d.seg seg.val).slotNow with
    | some e => if d.sucks && (d.seg seg.val).cyclic then d.suctionFrame seg.val e dt symOk frame else d
    | none => d))

/-- `SUCTION_SLOT_CLOSE` (R231, R233): no start of frame has been seen. -/
def execSuctionSlotClose (seg : Fin 16) (pos : Fin 8) (s : State) : Host.Outcome State Fault Refusal :=
  .next (s.live (fun (d : Dev) =>
    let g := d.seg seg.val
    match g.suctionOf pos.val with
    | some e =>
      if d.sucks && g.cyclic && !(g.node pos.val).closed then
        let d := d.onSeg seg.val (fun (s : Seg) => s.onNode pos.val (fun (x : NodePos) => x.missed 3))
        (d.rawNone seg.val pos.val (d.at_ (e.start * 80 + 160))).lateLift seg.val
      else d
    | none => d))

/-- `STALE_AGE_FAULT` (R118). -/
def execStaleAgeFault (axis : Fin 128) (s : State) : Host.Outcome State Fault Refusal :=
  .next (s.live (fun (d : Dev) => if 3 ≤ (d.ax axis.val).age then d.axFault axis.val 3 false else d))

/-! ### Start-up, joining and leaving -/

/-- R250: a start is over once no position found during `STARTING` is still being read. -/
def Dev.startCheck (d : Dev) (n : Nat) : Dev :=
  let s := d.seg n
  if s.state = 4 ∧ !s.pos.any (fun (x : NodePos) => x.found) then
    d.finishHold (fun (h : Hold) => h == .segStart n) ST.ok 0 (s.masks ++ e8 0 ++ e32 s.sinceListen) none
  else d

/-- R256, R257: a position becomes `ABSENT`, with its services. -/
def Dev.nodeGone (d : Dev) (n p : Nat) : Dev :=
  let d := d.onSeg n (fun (s : Seg) => s.onNode p (fun (x : NodePos) => x.leave 1))
  (d.dropServices n (fun (v : Svc) => v.pos == p)).startCheck n

/-- R251: strokes of `LISTEN`. -/
def Dev.listenStrokes (d : Dev) : Nat := cdivN 2000000 (strokeNs d.stk.cfg.code)

/-- `LISTEN_END` (R251, R253). -/
def execListenEnd (seg : Fin 16) (s : State) : Host.Outcome State Fault Refusal :=
  .next (s.live (fun (d : Dev) =>
    let g := d.seg seg.val
    if g.state = 1 ∧ d.listenStrokes ≤ g.strokes then d.onSeg seg.val (fun (s : Seg) => s.toState 3) else d))

/-- `LISTEN_TRAFFIC` (R252). -/
def execListenTraffic (seg : Fin 16) (s : State) : Host.Outcome State Fault Refusal :=
  .next (s.live (fun (d : Dev) =>
    let n := seg.val
    let g := d.seg n
    if g.state = 1 then
      let k := min 255 (g.contentions + 1)
      let b := backoff Config.serial n k
      let d := d.onSeg n (fun (s : Seg) =>
        let s := s.toState 2
        { s with contentions := k, backoffMs := b, events := setBit s.events 0 })
      d.finishHold (fun (h : Hold) => h == .segStart n) ST.contended b [] none
    else d))

/-- `BACKOFF_END` (R252). -/
def execBackoffEnd (seg : Fin 16) (s : State) : Host.Outcome State Fault Refusal :=
  .next (s.live (fun (d : Dev) =>
    if (d.seg seg.val).state = 2 then d.onSeg seg.val (fun (s : Seg) => { s.toState 0 with backoffMs := 0 }) else d))

/-- R254: whether `STARTING` is over. -/
def Seg.started (s : Seg) : Bool :=
  s.state == 3 && (decide (512 ≤ s.strokes) || s.suctions.all (fun (e : SchEntry) => decide (16 ≤ (s.node e.pos).okRun)))

/-- `STARTING_END` (R254). -/
def execStartingEnd (seg : Fin 16) (s : State) : Host.Outcome State Fault Refusal :=
  .next (s.live (fun (d : Dev) =>
    let n := seg.val
    let g := d.seg n
    if g.started then
      let d := g.suctions.foldl (fun (d : Dev) (e : SchEntry) =>
        if 16 ≤ (g.node e.pos).okRun then
          d.onSeg n (fun (s : Seg) => s.onNode e.pos (fun (x : NodePos) => { x.cruise with state := 3, found := true }))
        else d.onSeg n (fun (s : Seg) => s.onNode e.pos (fun (x : NodePos) => x.leave 1))) d
      (d.onSeg n (fun (s : Seg) => s.toState 4)).startCheck n
    else d))

/-- `NODE_LOST` (R257). -/
def execNodeLost (seg : Fin 16) (pos : Fin 8) (s : State) : Host.Outcome State Fault Refusal :=
  .next (s.live (fun (d : Dev) =>
    let x := (d.seg seg.val).node pos.val
    if 3 ≤ x.state ∧ x.state ≤ 5 ∧ 16 ≤ x.missRun then
      (d.onSeg seg.val (fun (s : Seg) => { s with events := setBit s.events 3 })).nodeGone seg.val pos.val
    else d))

/-- R270: the errors of a segment's `PRESENT` positions, and the delay jumps. -/
def Seg.errorSum (s : Seg) : Nat :=
  let one (x : NodePos) : Nat := if x.state = 4 then ([1, 2, 4, 5, 6, 7].map (fun (i : Nat) => x.counters.getD i 0)).sum else 0
  (s.pos.map one).sum + s.delayJump

/-- `SEGMENT_BUS_ERRORS` (R270). -/
def execSegmentBusErrors (seg : Fin 16) (s : State) : Host.Outcome State Fault Refusal :=
  .next (s.live (fun (d : Dev) =>
    let g := d.seg seg.val
    if g.busThr ≤ g.errorSum - g.spanBase then d.onSeg seg.val (fun (s : Seg) => { s with events := setBit s.events 7 }) else d))

/-! ### Echo -/

/-- R240: an echo that was not answered, or whose answer failed (`why` is the counter). Nothing counts while the segment is
`STARTING` (R253). -/
def Dev.echoMissed (d : Dev) (n p why : Nat) : Dev :=
  let s := d.seg n
  let d := d.onSeg n (fun (s : Seg) => { s with echo := none })
  if s.starting then d.onSeg n (fun (s : Seg) => s.onNode p (fun (x : NodePos) => { x with echoOk := false }))
  else
    let d := d.onSeg n (fun (s : Seg) => s.onNode p (fun (x : NodePos) =>
      { (x.bump why).bump 7 with echoOk := false, echoRun := x.echoRun + 1 }))
    let x := (d.seg n).node p
    -- R256: a position that was joining
    if x.state = 2 ∧ 2 ≤ x.echoRun then d.nodeGone n p else d

/-- R240: how far an answer's round trip lies from what is expected: in its window, early or late. -/
def NodePos.echoWindow (x : NodePos) (trip : Nat) : Option Nat :=
  let lo := match x.delay with | some u => 1040 + 2 * u - 160 | none => 1040
  let hi := match x.delay with | some u => 1040 + 2 * u + 160 | none => 1920
  if trip < lo then some 1 else if hi < trip then some 2 else none

/-- R240, R253, R256: an echo that was answered. -/
def Dev.echoTaken (d : Dev) (n p trip : Nat) : Dev :=
  let m := ((d.seg n).node p).measure (echoDelay trip)
  d.onSeg n (fun (s : Seg) =>
    let s := s.onNode p (fun (_ : NodePos) =>
      { m.1 with echoOk := true, echoRun := 0, state := if m.1.state = 1 ∧ m.1.delay.isSome then 2 else m.1.state })
    { s with echo := none, delayJump := if m.2 then sat32 (s.delayJump + 1) else s.delayJump })

/-- `ECHO_RSP` (R231, R240): `trip` is the round trip in ns. -/
def execEchoRsp (seg : Fin 16) (trip : Nat) (symOk : Bool) (frame : Bytes) (s : State) : Host.Outcome State Fault Refusal :=
  .next (s.live (fun (d : Dev) =>
    let g := d.seg seg.val
    match g.echo with
    | none => d
    | some p =>
      match (g.node p).echoWindow trip, frameFault symOk frame 7 (p + 1) (d.stk.number % 256) (fun (k : Nat) => k == 0) with
      | some why, _ => d.echoMissed seg.val p why
      | none, some why => d.echoMissed seg.val p why
      | none, none => d.echoTaken seg.val p trip))

/-- `ECHO_TIMEOUT` (R240). -/
def execEchoTimeout (seg : Fin 16) (s : State) : Host.Outcome State Fault Refusal :=
  .next (s.live (fun (d : Dev) =>
    match (d.seg seg.val).echo with
    | some p => d.echoMissed seg.val p 3
    | none => d))

/-- R239, R253: the position that the echo of this stroke addresses. -/
def Dev.echoTarget (d : Dev) (n : Nat) : Option Nat :=
  let s := d.seg n
  let N := d.stk.number
  if s.state = 3 then
    let ps := (List.range 8).filter (fun (p : Nat) => (s.suctionOf p).isSome)
    if N % 2 = 1 ∨ ps.isEmpty then none
    else ps[(N / 2 - cdivN (N - (s.strokes - 1)) 2) % ps.length]?
  else if s.state = 4 ∧ s.strokes ≠ 0 then
    if N % 256 < 8 ∧ (s.suctionOf (N % 256)).isSome then some (N % 256) else none
  else none

/-- R241, R253, R255: the echo request of the stroke. -/
def Dev.echoSend (d : Dev) (n p : Nat) : Dev :=
  let x := (d.seg n).node p
  let d := d.send (.frame n (mkFrame 6 (p + 1) (d.stk.number % 256) (e16 (x.delay.getD 180))))
  d.onSeg n (fun (s : Seg) =>
    let due := x.delay.isSome && !x.slotDone && x.state == 2
    { s.onNode p (fun (x : NodePos) => { x with delivered := x.delivered || due, slotDue := x.slotDue || due }) with echo := some p })

/-! ### Services -/

/-- Whether the cruise asks for a service. -/
def Svc.cruise (v : Svc) : Bool := match v.who with | .summary => true | .record => true | _ => false

/-- R263: the byte-times of the exchange of `n` data bytes. -/
def Svc.cost (v : Svc) (n : Nat) : Nat :=
  match v.service with
  | 1 => exchangeBt 8 (4 + n)
  | 2 => exchangeBt (8 + n) 4
  | _ => exchangeBt (4 + n) 4

/-- R263, R265: the data bytes of the next exchange in a window of `room` byte-times; a repeat carries what the first one
did. -/
def Svc.carry (v : Svc) (room : Nat) : Option Nat :=
  if v.repeats = 0 then v.fit room else if v.cost v.sent ≤ room then some v.sent else none

/-- R261, R263: the first window left that takes the service: its data bytes, and the windows left after it. The cruise
takes one exchange per window. -/
def Svc.place (v : Svc) : List (Nat × Nat) → Option (Nat × List (Nat × Nat))
  | [] => none
  | (p, room) :: r =>
    if p = 0xFF ∨ p = v.pos then
      match v.carry room with
      | some n => some (n, if v.cruise then r else (p, room - v.cost n) :: r)
      | none => v.place r
    else v.place r

/-- R261: the reads that the running cruises need next: all summaries, then the records. -/
def Seg.cruiseWork (s : Seg) : List Svc :=
  let read (p : Nat) (who : SvcFor) (space left : Nat) : Svc :=
    { pos := p, who := who, service := 1, space := space, offset := 0, left := left, data := [], got := [], repeats := 0
      limit := 0, sent := 0, asked := false }
  let ps := (List.range 8).filter (fun (p : Nat) => let x := s.node p; x.cruising && !x.read)
  let need := ps.filter (fun (p : Nat) => (s.node p).summary.isNone)
  if s.state ≠ 4 ∨ s.strokes = 0 then []
  else if need.isEmpty then ps.map (fun (p : Nat) => read p .record 0 (s.node p).want)
  else need.map (fun (p : Nat) => read p .summary 1 16)

/-- R263, R265: the next `POLL` of a segment, where a window of the stroke takes one. -/
def Dev.segPoll (d : Dev) (n : Nat) : Dev :=
  let s := d.seg n
  let l := match s.svc with
    | some v => if v.asked then [] else [v]
    | none => s.waiting ++ s.cruiseWork
  match l.findSome? (fun (v : Svc) => (v.place s.windows).map (fun (r : Nat × List (Nat × Nat)) => (v, r))) with
  | none => d
  | some (v, k, ws) =>
    let lim := if v.service = 1 then k else 0
    let body := e8 v.service ++ e8 (b2n (v.repeats != 0)) ++ e16 lim ++ v.request k
    let d := d.send (.frame n (mkFrame 4 (v.pos + 1) s.txNo body))
    d.onSeg n (fun (s : Seg) =>
      { s with svc := some { v with asked := true, limit := lim, sent := k }, waiting := s.waiting.erase v, windows := ws })

/-- R261: the summary of a position has been read. -/
def Dev.summaryRead (d : Dev) (n p : Nat) (got : Bytes) : Dev :=
  let r := (d.idents.getD (8 * n + p) none).getD []
  let len := u16 got 12
  let hit := identValid r && identSerial r == u64 got 0 && uLE r (u16 r 2 - 4) 4 == u32 got 8
  d.onSeg n (fun (s : Seg) => s.onNode p (fun (x : NodePos) =>
    if got.length < 16 then { x with record := some [], read := true }
    else if hit then { x with summary := some got, record := some r, read := true }
    else if len < 16 ∨ 4096 < len then { x with summary := some got, record := some [], read := true }
    else { x with summary := some got, want := len }))

/-- R261: the record of a position has been read; a valid one enters the identity cache. -/
def Dev.recordRead (d : Dev) (n p : Nat) (got : Bytes) : Dev :=
  let d := d.onSeg n (fun (s : Seg) => s.onNode p (fun (x : NodePos) => { x with record := some got, read := true }))
  if identValid got then { d with idents := d.idents.set (8 * n + p) (some got) } else d

/-- R255, R261, R264: a service that has succeeded. -/
def Dev.svcDone (d : Dev) (n : Nat) (v : Svc) : Dev :=
  match v.who with
  | .summary => d.summaryRead n v.pos v.got
  | .record => d.recordRead n v.pos v.got
  | .slotSet => d.onSeg n (fun (s : Seg) => s.onNode v.pos (fun (x : NodePos) => { x with slotDone := true }))
  | _ => d.svcEnd v ST.ok 0 v.got

/-- R262, R265: a service that has failed; a record that cannot be read is invalid. -/
def Dev.svcFail (d : Dev) (n : Nat) (v : Svc) (status detail : Nat) : Dev :=
  match v.who with
  | .summary => d.recordRead n v.pos []
  | .record => d.recordRead n v.pos []
  | .slotSet => d
  | _ => d.svcEnd v status detail []

/-- R265: the exchange of a segment is over: the next one has the next transaction number. -/
def Seg.nextTx (s : Seg) (v : Option Svc) : Seg := { s with svc := v, txNo := (s.txNo + 1) % 256 }

/-- R264: an accepted `REPLY` whose flags are `flags` and whose data are `b`. -/
def Dev.replied (d : Dev) (n : Nat) (v : Svc) (flags : Nat) (b : Bytes) : Dev :=
  let code := bits flags 1 3
  if !bit flags 0 then
    let d := d.onSeg n (fun (s : Seg) => s.nextTx none)
    if code = 4 then d.svcFail n v ST.causeActive 0 else d.svcFail n v ST.hwBlock code
  else
    let v := match v.service with
      | 1 => { v with got := v.got ++ b, offset := v.offset + b.length, left := v.left - b.length, repeats := 0, asked := false }
      | 2 => { v with data := v.data.drop v.sent, offset := v.offset + v.sent, repeats := 0, asked := false }
      | _ => { v with data := [], asked := false }
    let ovr := match v.service with
      | 1 => v.left == 0 || b.isEmpty
      | _ => v.data.isEmpty
    if ovr then (d.onSeg n (fun (s : Seg) => s.nextTx none)).svcDone n v
    else d.onSeg n (fun (s : Seg) => s.nextTx (some v))

/-- R265: a `POLL` without an accepted `REPLY`; `why` is the counter of R231. -/
def Dev.unanswered (d : Dev) (n : Nat) (v : Svc) (why : Nat) : Dev :=
  let d := d.onSeg n (fun (s : Seg) => s.onNode v.pos (fun (x : NodePos) => x.bump why))
  if v.repeats ≥ 3 then ((d.onSeg n (fun (s : Seg) => s.nextTx none)).svcFail n v ST.timeout 0)
  else
    d.onSeg n (fun (s : Seg) =>
      { s with svc := some { v with repeats := v.repeats + 1, asked := false }, windows := if v.cruise then s.windows else s.windows.drop 1 })

/-- R264: the payload length of a `REPLY` fits what its service header says and what was allowed. -/
def replyLen (f : Bytes) (limit : Nat) (k : Nat) : Bool :=
  decide (4 ≤ k) && k == 4 + u16 f 5 && decide (u16 f 5 ≤ limit)

/-- `REPLY_FRAME` (R231, R264). -/
def execReplyFrame (seg : Fin 16) (symOk : Bool) (frame : Bytes) (s : State) : Host.Outcome State Fault Refusal :=
  .next (s.live (fun (d : Dev) =>
    let g := d.seg seg.val
    match g.svc with
    | none => d
    | some v =>
      if !v.asked then d
      else
        match frameFault symOk frame 5 (v.pos + 1) g.txNo (replyLen frame v.limit) with
        | some why => (d.unanswered seg.val v why).segPoll seg.val
        | none => (d.replied seg.val v (u8 frame 4) (slice frame 7 (u16 frame 5))).segPoll seg.val))

/-- `POLL_NO_REPLY` (R265). -/
def execPollNoReply (seg : Fin 16) (s : State) : Host.Outcome State Fault Refusal :=
  .next (s.live (fun (d : Dev) =>
    match (d.seg seg.val).svc with
    | some v => if v.asked then (d.unanswered seg.val v 3).segPoll seg.val else d
    | none => d))

/-! ### Slack -/

/-- R255: the `SLOT_SET` services that have fallen due in an earlier stroke. -/
def Dev.slotSets (d : Dev) (n : Nat) : Dev :=
  d.onSeg n (fun (s : Seg) =>
    let due := (List.range 8).filter (fun (p : Nat) => (s.node p).slotDue)
    let l := due.filterMap (fun (p : Nat) => (s.suctionOf p).map (fun (e : SchEntry) =>
      ({ pos := p, who := .slotSet, service := 3, space := 0, offset := 0, left := 0
         data := e16 e.start ++ e8 e.axes ++ e8 s.ver, got := [], repeats := 0, limit := 0, sent := 0, asked := false } : Svc)))
    { s with waiting := l ++ s.waiting, pos := s.pos.map (fun (x : NodePos) => { x with slotDue := false }) })

/-- R244: whether the device starts slack exchanges on a segment. -/
def Seg.talks (s : Seg) : Bool := s.cyclic && s.state != 5 && s.halt.isNone && !s.halted

/-- R239, R253, R263: the slack of a segment. -/
def Dev.segSlack (d : Dev) (n : Nat) : Dev :=
  let s := d.seg n
  if !s.talks then d
  else
    let d := d.slotSets n
    let e := d.echoTarget n
    let d := match e with | some p => d.echoSend n p | none => d
    let ends := d.stk.cfg.slackNs + 2960
    let ws := (s.entries.filter (fun (x : SchEntry) => x.type == 4 && !(e.isSome && decide (x.start * 80 < ends)))).mergeSort
      (fun (a b : SchEntry) => decide (a.start ≤ b.start))
    let open_ := !(s.starting && d.stk.number % 2 == 0)
    (d.onSeg n (fun (s : Seg) =>
      { s with windows := if open_ then ws.map (fun (x : SchEntry) => (x.pos, x.len)) else [] })).segPoll n

end Sys2Proof.Machine
end

