-- ==== Sys2Proof/Machine/Latch.lean ====
section
/-! DEFINITION. The lift latch point: the pending commands in their order (R12, R109), orphan reactions and quick stops of
the block's own (R24, R378), migrations (R386, R387), and lift (R13, R92-R120). -/

namespace Sys2Proof.Machine

/-! ### The order of commands -/

/-- R57, R58, R109, R197: the place of a command among those that take effect at one latch point, ten to a step of R109. -/
def Flight.rank (f : Flight) : Nat :=
  match f.op with
  | 0x010A => 110
  | 0x0001 => 111 | 0x0002 => 112 | 0x0003 => 113 | 0x0004 => 114 | 0x0005 => 115
  | 0x0A06 => 5
  | 0x0A10 => 6
  | 0x0705 => if u8 f.cmd.payload 0 = 1 then 14 else 16
  | 0x0703 => 15 | 0x0704 => 15 | 0x0707 => 15
  | 0x0401 => 10 | 0x0402 => 10 | 0x0501 => 10 | 0x0610 => 10 | 0x0B0B => 10
  | 0x0404 => 20
  | 0x0406 => 30
  | 0x0440 => 40 | 0x0441 => 40 | 0x0443 => 40
  | 0x0403 => 50 | 0x0502 => 50 | 0x0503 => 50
  | 0x0409 => 60
  | 0x0407 => 70
  | 0x0408 => 80
  | 0x040A => 90 | 0x040B => 90
  | 0x040C => 120 | 0x040D => 120 | 0x0508 => 120 | 0x0509 => 120 | 0x0613 => 120 | 0x0614 => 120 | 0x0B0E => 120
  | op => if op / 256 = 2 then 0 else 100

/-- The order in which pending commands are tried: by step, then by ring, then in ring order (R109). -/
def Flight.before (f g : Flight) : Bool :=
  let key (x : Flight) : Nat := (x.rank * 128 + x.cmd.ring.val) * 2 ^ 64 + x.order
  decide (key f ≤ key g)

/-- R109: the pending commands of axes whose predecessor for the same axis in the same ring belongs to a later step: they
wait for the next latch point. -/
def Dev.laterStep (d : Dev) : List Nat :=
  let l := d.nov.flights.filter (fun (f : Flight) => f.stage == .pending && f.cmd.cls == 1 && f.op / 256 != 0)
  (l.filter (fun (f : Flight) => l.any (fun (g : Flight) =>
    decide (g.order < f.order) && g.cmd.ring == f.cmd.ring && (g.pool == .lost) == (f.pool == .lost) && g.cmd.idx == f.cmd.idx && decide (f.rank / 10 < g.rank / 10)))).map (·.order)

/-- Whether a pending command takes effect at the present latch point (R12, R47, R48). Urgent commands do not wait for one
another: they rank by strength (R57). -/
def Dev.takes (d : Dev) (wait : List Nat) (f : Flight) : Bool :=
  f.stage == .pending && !wait.contains f.order &&
  match specOf f.op with
  | some sp => sp.when f.cmd == .latch && (f.op / 256 == 0 || d.due f)
  | none => false

/-- R60: every pending command is marked anew. -/
def Dev.remark (d : Dev) (wait : List Nat) : Dev :=
  { d with nov := { d.nov with flights := d.nov.flights.map (fun (f : Flight) =>
      if f.stage == .pending then (if wait.contains f.order then { f with eff := d.stk.number + 1 } else d.mark f) else f) } }

/-- Every pending command below rank `top` tried once, in order. -/
def Dev.latchRound (d : Dev) (wait : List Nat) (top : Nat) : Dev :=
  let l := (d.nov.flights.filter (fun (f : Flight) => f.stage == .pending && decide (f.rank < top))).mergeSort Flight.before
  l.foldl (fun (d : Dev) (f0 : Flight) =>
    let d := d.remark wait
    match d.nov.flights.find? (fun (f : Flight) => f.order == f0.order && f.stage == .pending) with
    | some f => if d.takes wait f then d.takeEffect f else d
    | none => d) d

/-- Rounds until nothing below rank `top` can take effect any more; each round ends at least one command's wait. -/
def Dev.latchRounds : Nat → Dev → List Nat → Nat → Dev
  | 0, d, _, _ => d
  | k + 1, d, wait, top =>
    if d.nov.flights.any (fun (f : Flight) => decide (f.rank < top) && d.takes wait f) then
      (d.latchRound wait top).latchRounds k wait top
    else d

/-- R378: the reaction of an orphaned compartment; a migration delays it. -/
def Dev.orphanReact (d : Dev) (k : Nat) : Dev :=
  let x := d.comp k
  if x.orphanDue ∧ x.state ≠ 3 ∧ x.state ≠ 0 then
    let d := d.onComp k (fun (x : Comp) => { x with orphanDue := false, orphanStroke := d.stk.number })
    let d := d.compEvent k 0
    match x.orphan with
    | 1 => d.urgentComp 2 k
    | 2 => d.urgentComp 4 k
    | _ => d
  else d

/-- R24: the compartments that use a segment. -/
def Dev.segUsers (d : Dev) (n : Nat) : List Nat :=
  ((d.owner 0x03 n).toList ++ (d.segAxes n).filterMap (fun (i : Nat) => d.owner 0x01 i)).eraseDups

/-- R24: the quick stops that fall due. -/
def Dev.quickStops (d : Dev) : Dev :=
  let ks := ((List.range 16).flatMap (fun (n : Nat) => if d.stk.segDue.getD n false then d.segUsers n else []) ++
    (List.range 8).flatMap (fun (n : Nat) => if d.stk.stgDue.getD n false then (d.owner 0x05 n).toList else [])).eraseDups
  let d := { d with stk := { d.stk with segDue := List.replicate 16 false, stgDue := List.replicate 8 false } }
  ks.foldl (fun (d : Dev) (k : Nat) => d.urgentComp 4 k) d

/-- R12, R24, R109, R378: what takes effect at a latch point. -/
def Dev.latchEffects (d : Dev) : Dev :=
  let wait := d.laterStep
  let n := d.nov.flights.length + 1
  let d := d.latchRounds n wait 120
  let d := (d.remark wait).quickStops
  let d := (List.range 8).foldl Dev.orphanReact d
  (d.latchRounds n wait 200).remark wait

/-! ### Planning -/

/-- R157: a planning command that this planning point takes. -/
def Dev.planTakes (d : Dev) (f : Flight) : Bool :=
  f.stage == .pending && !d.blocked f &&
  match specOf f.op with
  | some sp => sp.when f.cmd == .plan && (!cmdTimed f.cmd || f.cmd.atStroke == d.planStroke)
  | none => false

/-- The planning commands taken, by ring and in ring order, until no more can be. -/
def Dev.planRounds : Nat → Dev → Dev
  | 0, d => d
  | k + 1, d =>
    let l := (d.nov.flights.filter (fun (f : Flight) => f.stage == .pending)).mergeSort Flight.before
    if l.any d.planTakes then
      (l.foldl (fun (d : Dev) (f0 : Flight) =>
        match d.nov.flights.find? (fun (f : Flight) => f.order == f0.order && f.stage == .pending) with
        | some f => if d.planTakes f then d.takeEffect f else d
        | none => d) d).planRounds k
    else d

/-- R387: the planned axes and masters of a compartment. -/
def Dev.members (d : Dev) (k : Nat) : List Obj :=
  (d.holds 0x01 k).filter (fun (i : Nat) => let s := (d.pf i).source; s == 1 || s == 2 || s == 3 || s == 6) ++
    (d.holds 0x12 k).map (fun (v : Nat) => 128 + v)

/-- R387: an object whose next cell cycle holds its last knot. -/
def Dev.holdNext (d : Dev) (o : Obj) : Dev :=
  if o < 128 then d.onPf o (fun (p : Pf) => { p with next := Knots.hold p.cur.p1, inPlace := true })
  else d.onVm (o - 128) (fun (m : Vm) => { m with next := Knots.hold m.cur.p1 })

/-- R167: the planning of all objects but some. -/
def Dev.planOthers (d : Dev) (held : List Obj) : Dev :=
  (d.rootFirst.foldl (fun (d : Dev) (o : Obj) =>
    if held.contains o then d.holdNext o else if o < 128 then d.planAxis o else d.planVm (o - 128)) d).camsUse

/-- A change of the migration. -/
def Dev.onMig (d : Dev) (m : Option Migration) : Dev := { d with cps := { d.cps with migration := m } }

/-- R379, R387, R388: a compartment after its migration: an owner lost, or one that has come back, in the meantime counts
now; a hold of the migration's own is resumed at the next planning point. -/
def Comp.migrated (x : Comp) (m : Migration) (isOpen : Bool) : Comp :=
  let left := x.orphanDue || m.was == 2
  { x with
    state := if left && !isOpen then 2 else if left then 1 else m.was
    events := if left && isOpen then setBit x.events 1 else x.events
    resumeDue := m.ownHold }

/-- R386, R387: the end of a migration: the compartment's state and the command's outcome. -/
def Dev.migEnd (d : Dev) (m : Migration) (status : Nat) : Dev :=
  let d := d.onMig none
  let d := d.onComp m.comp (fun (x : Comp) => x.migrated m (d.isOpen x.owner))
  d.finishHold (fun (h : Hold) => h == .migrate m.comp) status 0 [] (some d.stk.number)

/-- R387: a migration at the first latch point of a cell cycle, before the knots change over. -/
def Dev.migTurn (d : Dev) : Dev :=
  match d.cps.migration with
  | none => d
  | some m =>
    let k := m.comp
    let held (d : Dev) (ph : MigPhase) : Dev :=
      (d.onMig (some { m with phase := ph, held := m.held + d.cyc })).onComp k (fun (x : Comp) => { x with migHold := m.held + d.cyc })
    match m.phase with
    | .quiesce => d
    | .snapshot => held d .held
    | .held =>
      if Config.imagePlans d.free then
        (((d.skip 1).onComp k (fun (x : Comp) => { x with slot := m.toSlot })).compEvent k 4).migEnd m ST.ok
      else held ((d.members k).foldl Dev.holdNext (d.skip 1)) .again
    | .again => (d.compEvent k 4).migEnd m ST.rolledBack

/-- R387: `FEED_RESUME` of a migration's own feed hold, where nothing stronger is in force. -/
def Dev.migResume (d : Dev) (k : Nat) : Dev :=
  if (d.comp k).resumeDue then
    let t := d.compTargets k
    let d := d.onComp k (fun (x : Comp) => { x with resumeDue := false })
    if d.inForce t false then d else d.resume t
  else d

/-- R157, R167, R297, R387: a planning point. -/
def Dev.planPoint (d : Dev) : Dev :=
  let d := { d with saf := { d.saf with comps := d.saf.comps.map (fun (c : SafCmp) => { c with tracks := c.heard }) } }
  let d := (List.range 8).foldl Dev.separation d
  let d := d.planArms
  let d := (List.range 8).foldl Dev.migResume (d.planRounds (d.nov.flights.length + 1))
  match d.cps.migration with
  | some m =>
    if m.phase = .quiesce ∧ d.atRest m.comp then (d.onMig (some { m with phase := .snapshot })).planOthers (d.members m.comp)
    else d.planOthers []
  | none => d.planOthers []

/-! ### Lift -/

/-- R114: a `STOP_CAT1` that finds its axis at standstill takes torque off. -/
def Dev.cat1Rest (d : Dev) (i : Nat) : Dev :=
  let a := d.ax i
  if a.stop = 4 ∧ a.computed ∧ a.standstill ∧ (d.armOf i).isNone then d.axTorqueOff i else d

/-- R13: the enabled axes that lift takes at the latch point. -/
def Dev.early (d : Dev) : List Nat := (List.range 128).filter (fun (i : Nat) => (d.ax i).state != 0 && !d.late i)

/-- R19, R30: the lane-cycles a lift uses: the cost of the axes whose loops run. -/
def Dev.countLift (d : Dev) : Dev :=
  let used := ((List.range 128).map (fun (i : Nat) => if (d.ax i).computed then d.axisCost i else 0)).sum
  { d with stk := { d.stk with liftUsed := used, liftPeak := max d.stk.liftPeak used } }

/-- R330: the reset bit of a compartment's messages has been set for `ns` more; past 5 s it is stuck. -/
def SafCmp.hold (c : SafCmp) (ns : Nat) : SafCmp :=
  match c.pulse with
  | none => c
  | some t =>
    let c := { c with pulse := some (t + ns) }
    if 5000000000 < t + ns ∧ !c.pulseStuck then { c with pulseStuck := true, events := setBit c.events 3 } else c

/-- R330: the reset bit of the safety messages, set for so long. -/
def Dev.msgPulses (d : Dev) (ns : Nat) : Dev :=
  { d with saf := { d.saf with comps := d.saf.comps.map (fun (c : SafCmp) => c.hold ns) } }

/-- R92, R186, R387: the first latch point of a cell cycle: the knots change over. -/
def Dev.turn (d : Dev) : Dev :=
  let d := d.migTurn
  let d := d.rootFirst.foldl (fun (d : Dev) (o : Obj) => if o < 128 then (d.turnAxis o).reholdAxis o else (d.turnVm (o - 128)).reholdVm (o - 128)) d
  (List.range 8).foldl Dev.turnArm d

/-- R46: the commands that have taken effect and waited for their stroke complete. -/
def Dev.strokeHolds (d : Dev) : Dev :=
  let hit (f : Flight) : Bool := f.stage == .hold && f.hold == .stroke && decide (f.eff ≤ d.stk.number)
  let done := (d.nov.flights.filter hit).map (fun (f : Flight) => { f with stage := Stage.post, hold := Hold.none })
  { d with nov := { d.nov with flights := d.nov.flights.filter (fun (f : Flight) => !hit f) ++ done } }

/-- R83, R134: what a feedback instant leaves: position sets taken, but for axes whose instant is still to come; hook
flags to clear. -/
def Dev.instantOver (d : Dev) : Dev :=
  { d with
    fbs := d.fbs.mapIdx (fun (i : Nat) (f : Fb) =>
      if f.setTo.isSome && !(d.late i && (d.ax i).state != 0) then { f with setTo := none } else f)
    axes := d.axes.map (fun (a : Axis) => if a.hookClear then { a with hookFlags := 0, hookClear := false } else a) }

/-- R12: the latch point, and lift of all that is ready. -/
def Dev.latchPoint_ (d : Dev) : Dev :=
  let first := d.stk.cyclePhase == 0
  let t := d.at_ d.stk.cfg.latchNs
  let d := if first then d.turn else d
  let d := d.strokeHolds
  -- R117-R119: the feedback instants of the stroke
  let d := d.liftBack d.early t
  let d := ((List.range 128).filter (fun (i : Nat) => (d.ax i).state == 0 && !d.late i)).foldl Dev.idleCauses d
  let d := d.latchPoints
  let d := d.latchEffects.instantOver
  let d := d.safEval
  let d := d.liftFaults d.early
  let d := if first then d.planPoint else d
  let d := (List.range 8).foldl Dev.armStroke d
  let d := d.setpoints t
  let d := d.countLift
  let d := d.early.foldl (fun (d : Dev) (i : Nat) => d.runAxis i t) d
  let d := { d with segs := (List.range 16).map (fun (n : Nat) => let s := d.seg n; { s with ran := !s.slotOpen }) }
  let d := (List.range 128).foldl Dev.cat1Rest d
  let d := (List.range 8).foldl Dev.armSettle d
  let d := d.safStandstill.msgPulses d.len
  ({ d with stk := { d.stk with phase := .lift } }).runNow.settleHolds.consume

/-- `LIFT_LATCH_POINT` (R12). -/
def execLiftLatchPoint (s : State) : Host.Outcome State Fault Refusal :=
  .next (s.live (fun (d : Dev) => if d.stk.phase = .beacon ∨ d.stk.phase = .suction then d.latchPoint_ else d))

/-- `LIFT_COMPLETE` (R23, R26): the results of a segment are complete. -/
def execLiftComplete (seg : Fin 16) (s : State) : Host.Outcome State Fault Refusal :=
  .next (s.live (fun (d : Dev) =>
    if d.stk.phase = .lift ∧ (d.seg seg.val).ran then { d with stk := { d.stk with segDone := d.stk.segDone.set seg.val true } } else d))

/-- `MIGRATION_QUIESCE_TIMEOUT` (R386). -/
def execMigrationQuiesceTimeout (s : State) : Host.Outcome State Fault Refusal :=
  .next (s.live (fun (d : Dev) =>
    match d.cps.migration with
    | some m => if m.phase = .quiesce then d.migEnd m ST.timeout else d
    | none => d))

end Sys2Proof.Machine
end

