-- ==== Sys2Proof/Machine/Phases.lean ====
section
/-! DEFINITION. The other phase changes of a stroke: the stroke boundary with its beacons and the pull of the stroke, discharge
with its overruns, and slack (R10-R28, R146-R151, R222-R225, R243, R401, R407). -/

namespace Sys2Proof.Machine

/-! ### The stroke boundary -/

/-- R27: the offset of the nearest cell-cycle start from the whole second, for a stroke that starts at `now`. -/
def Stk.phaseError (s : Stk) (now : Nat) : Int :=
  let l := strokeNs s.cfg.code
  let tc := s.cfg.cycle * l
  let x := ((now : Int) - (s.cyclePhase * l : Nat)) % (tc : Int)
  if (tc : Int) ≤ 2 * x then x - tc else x

/-- R27: the most by which a stroke is pulled. -/
def Stk.pullMax (s : Stk) : Nat := max 1 (s.pullPpm * strokeNs s.cfg.code / 1000000)

/-- R27, R28: the stroke that starts at `now`: its length, the phase error and the strokes within the lock band. -/
def Stk.pull (s : Stk) (now : Nat) : Stk :=
  let l := strokeNs s.cfg.code
  if s.lockMode = 0 then { s with lenNow := l, phaseErr := 0, inBand := 0 }
  else
    let e := s.phaseError now
    let p := clampI (-(s.pullMax : Int)) s.pullMax e
    { s with lenNow := ((l : Int) - p).toNat, phaseErr := e, inBand := if e.natAbs ≤ 50 then s.inBand + 1 else 0 }

/-- R28: the lock state after the phase error of a stroke. -/
def Stk.lockNext (s : Stk) : Nat :=
  if s.lockMode = 0 then 0
  else if s.lockState = 2 then (if 500 < s.phaseErr.natAbs then 1 else 2)
  else if 16 ≤ s.inBand then 2 else 1

/-- R9, R32: the next stroke, under a configuration that waited for it. -/
def Stk.next (s : Stk) : Stk :=
  let fresh := s.pendCfg.isSome
  { s with
    number := (s.number + 1) % 2 ^ 64, cfg := s.pendCfg.getD s.cfg, pendCfg := none
    cyclePhase := if fresh then 0 else (s.cyclePhase + 1) % s.cfg.cycle, phase := .beacon
    inBand := if fresh then 0 else s.inBand, lockState := if fresh ∧ s.lockState = 2 then 1 else s.lockState
    segNow := List.replicate 16 false, stgNow := List.replicate 8 false, segDone := List.replicate 16 false }

/-- R248-R258, R270: a segment at a stroke boundary. -/
def Dev.segBoundary (d : Dev) (n : Nat) : Dev :=
  let d := if (d.seg n).state = 5 ∧ (d.seg n).offLeft = 0 then d.segStopped n else d
  d.onSeg n (fun (s : Seg) =>
    let s := { s with
      pos := s.pos.map (fun (x : NodePos) => { x with closed := false, slotOk := false }), ran := false, windows := [] }
    let s := if d.stk.number % 256 = 0 then { s with spanBase := s.errorSum } else s
    if s.startReq ∧ s.state = 0 then { s.toState 1 with startReq := false, strokes := 1, sinceListen := 0 }
    else
      { s with
        strokes := s.strokes + 1, sinceListen := s.sinceListen + 1
        backoffMs := if s.state = 2 ∧ (s.strokes + 1) % (d.fs / 1000) = 0 then max 1 (s.backoffMs - 1) else s.backoffMs })

/-- R222: the beacon of a stroke, or the marks that take its place (R244). -/
def Dev.beacon (d : Dev) (n : Nat) : Dev :=
  let s := d.seg n
  let sq := d.stk.number % 256
  match s.halt with
  | some reason =>
    let f := mkFrame 8 0xFF sq (e8 reason ++ e8 0)
    ((d.send (.frame n f)).send (.frame n f)).onSeg n (fun (s : Seg) => { s with halt := none, halted := true })
  | none =>
    if s.cyclic && !s.halted then
      let flags := b2n (d.stk.cyclePhase == 0) + 2 * b2n (d.tm.now % 1000000000 == 0)
      d.send (.frame n (mkFrame 1 0xFF sq (e32 (d.stk.number % 2 ^ 32) ++ e32 d.stk.lenNow ++ e8 flags)))
    else d

/-- R50, R51: a stroke in which a ring starved or stalled is counted. -/
def Ring.boundary (r : Ring) : Ring :=
  { r with
    starved := if r.starvedNow then sat32 (r.starved + 1) else r.starved, starvedNow := false
    cqStall := if r.stalledNow then sat32 (r.cqStall + 1) else r.cqStall, stalledNow := false }

/-- R147: p_cmd or a virtual master as it will stand at the next boundary. -/
def Dev.ahead (d : Dev) (o : Obj) : Int :=
  let first := d.stk.cyclePhase == 0
  if o < 128 then
    match d.armOf o with
    | some (k, _) => ((d.armStroke k).pf o).cmd
    | none => (((if first then d.turnAxis o else d).setAxis o (d.at_ d.stk.cfg.latchNs)).pf o).cmd
  else (((if first then d.turnVm (o - 128) else d).setVm (o - 128)).vm (o - 128)).pos

/-- R146, R147: the value of an encoder output's source at a stroke boundary. -/
def Dev.eoSource (d : Dev) (c : EoCfg) : Int :=
  let n := c.object % 2 ^ 24
  if bit c.flags 1 then d.ahead (if c.kind = 2 then 128 + n else n)
  else if c.kind = 3 then (d.sc n).at_ (d.at_ 0)
  else d.eoValue c

/-- R151: whether an output's source has a valid value. -/
def Dev.eoValid (d : Dev) (c : EoCfg) : Bool :=
  let n := c.object % 2 ^ 24
  match c.kind with
  | 0 => (d.fb n).live == 0 && (d.ax n).state != 0
  | 4 => (d.fb n).live == 0 && (d.ax n).state != 0
  | 1 => (d.ax n).state != 0
  | 3 => (d.sc n).live == 0
  | _ => true

/-- R147-R151: a window of an enabled output for the source value `x`. -/
def Dev.eoStep (d : Dev) (e : Nat) (x : Int) (cap grid base : Nat) : Dev :=
  d.onEo e (fun (o : Eo) =>
    if !d.eoValid o.cfg then o.gap
    else (if o.rebase then o.rebaseOn x else o).window x cap grid base)

/-- R147: the interpolated outputs at a stroke boundary. -/
def Dev.eoBoundary (d : Dev) (e : Nat) : Dev :=
  let o := d.eo e
  if o.enabled ∧ o.cfg.mode = 0 then d.eoStep e (d.eoSource o.cfg) (d.len / 40) (d.len / 4) 0 else d

/-- R153: a sine/cosine channel at a stroke boundary: the amplitudes and the frequency of the stroke that ended. -/
def ScCh.boundary (h : ScCh) (now fs : Nat) : ScCh :=
  let s := h.at_ now
  { h with
    ampShown := min h.ampMin 65535 + min h.ampMax 65535 * 65536, ampMin := 0, ampMax := 0
    freq := rdivUp ((s - h.stepsB) * fs * 100) 4096, stepsB := s }

/-- R130: the feedback instant of a remote axis with a local source is the stroke boundary. -/
def Dev.snapRemote (d : Dev) : Dev :=
  { d with fbs := d.fbs.mapIdx (fun (i : Nat) (f : Fb) =>
      if f.configured && f.cfg.source != 0 && (d.ax i).remote then { f with snap := f.pendC, centre := d.at_ 0 } else f) }

/-- The commands that wait for a stroke boundary (R32, R445). -/
def Dev.boundaryHolds (d : Dev) : Dev := d.finishHold (fun (h : Hold) => h == .boundary) ST.ok 0 [] (some d.stk.number)

/-- R10: a stroke begins. -/
def Dev.strokeStart (d : Dev) : Dev :=
  let fresh := d.stk.pendCfg.isSome
  let d := { d with tm := d.tm.boundary d.stk.lenNow }
  let d := { d with stk := d.stk.next.pull d.tm.now }
  let d := d.setLock d.stk.lockNext
  let d := if fresh then
      { d with segs := d.segs.map (fun (s : Seg) => s.retable d.stk.cfg) }
    else d
  let d := d.boundaryHolds
  let d := (List.range 16).foldl (fun (d : Dev) (n : Nat) => (d.segBoundary n).beacon n) d
  let d := { d with
    nov := { d.nov with rings := d.nov.rings.map Ring.boundary }, scs := d.scs.map (fun (h : ScCh) => h.boundary d.tm.now d.fs) }
  let d := { d with saf := { d.saf with ins := d.saf.ins.map (fun (n : SafIn) => { n with fresh := false }) } }
  let d := ((List.range 4).foldl Dev.eoBoundary d).snapRemote
  if d.pwr.cruise.isEmpty then d else d.readyCheck

/-- `STROKE_BOUNDARY` (R10). -/
def execStrokeBoundary (s : State) : Host.Outcome State Fault Refusal := .next (s.live Dev.strokeStart)

/-! ### Discharge -/

/-- R99: h of the pair of duties of a bridge. -/
def bridgeH (first second : Int) : Int := if first = 0 then -16384 else 16384 - second

/-- R225: the output words of a law. -/
def disWords (law : Nat) (ds : List Int) : Int × Int × Int :=
  let x (k : Nat) : Int := ds.getD k 0
  match law with
  | 0 => (x 0, x 1, x 2)
  | 1 => (bridgeH (x 0) (x 1), bridgeH (x 2) (x 3), 0)
  | _ => (bridgeH (x 0) (x 1), 0, 0)

/-- R114, R225, R253: the torque-off bit of a node axis; what a node's state takes off is in `node_off` (R249). -/
def Dev.disOff (d : Dev) (n : Nat) (ax : Option Nat) : Bool :=
  let s := d.seg n
  match ax with
  | some i => !(d.ax i).computed || s.state != 4 || s.strokes == 0
  | none => true

/-- R225: the entries of a segment's discharge frame, of complete results. -/
def Dev.disFresh (d : Dev) (n : Nat) : List DisEntry :=
  let es := (d.seg n).suctions.mergeSort (fun (a b : SchEntry) => decide (a.pos ≤ b.pos))
  es.flatMap (fun (e : SchEntry) => (List.range e.axes).map (fun (na : Nat) =>
    let ax := d.nodeAxisOf n e.pos na
    let w := match ax with
      | some i => if (d.ax i).computed then disWords (d.ax i).cfg.law (d.ax i).duties else (0, 0, 0)
      | none => (0, 0, 0)
    (⟨e.pos, na, d.disOff n ax, 0, w.1, w.2.1, w.2.2⟩ : DisEntry)))

/-- R23, R25: the entries of a stroke in which lift overran: the values before, older, with torque-off inserted. -/
def Dev.disStale (d : Dev) (n : Nat) : List DisEntry :=
  (d.disFresh n).map (fun (f : DisEntry) =>
    match (d.seg n).dis.find? (fun (e : DisEntry) => e.pos == f.pos && e.naxis == f.naxis) with
    | some e => { e with age := min 3 (e.age + 1), off := e.off || f.off }
    | none => { f with off := true, age := 3, w0 := 0, w1 := 0, w2 := 0 })

/-- R225: the bytes of an entry. -/
def DisEntry.bytes (e : DisEntry) : Bytes :=
  e8 (e.naxis + 2 * e.pos + 16 * b2n e.off + 32 * min e.age 3) ++ eS16 e.w0 ++ eS16 e.w1 ++ eS16 e.w2

/-- R225, R243: a segment's discharge frame. -/
def Dev.disFrame (d : Dev) (n : Nat) (es : List DisEntry) : Bytes :=
  let s := d.seg n
  let off := maskOf ((List.range 8).map (fun (p : Nat) => (s.node p).state != 4))
  let ok := maskOf ((List.range 8).map (fun (p : Nat) => (s.node p).slotOk))
  mkFrame 3 0xFF (d.stk.number % 256)
    (e8 es.length ++ e8 (b2n (s.state == 5)) ++ e8 off ++ e8 ok ++ e8 s.ver ++ e8 0 ++ e32 (d.tm.now % 1000000000) ++ e8 0 ++
      es.flatMap DisEntry.bytes)

/-- R23, R24: segment `n` overruns, or does not. -/
def Dev.segOverrun (d : Dev) (n : Nat) (ovr : Bool) : Dev :=
  let s := d.stk
  if ovr then
    let k := s.segRun.getD n 0 + 1
    let d := { d with stk := { s with
      segNow := s.segNow.set n true, segOvr := upd s.segOvr n (fun (x : Nat) => sat32 (x + 1))
      segRun := s.segRun.set n (if 2 ≤ k then 0 else k), segDue := if 2 ≤ k then s.segDue.set n true else s.segDue } }
    let d := d.onSeg n (fun (s : Seg) => { s with events := setBit s.events 8 })
    if (d.seg n).ran then (d.segAxes n).foldl Dev.discard d else d
  else { d with stk := { s with segRun := s.segRun.set n 0 } }

/-- R23, R243: a segment at discharge. -/
def Dev.segDischarge (d : Dev) (n : Nat) : Dev :=
  let s := d.seg n
  if !s.cyclic || s.halted || s.halt.isSome then d
  else
    let ovr := !d.stk.segDone.getD n false
    let d := d.segOverrun n ovr
    let es := if ovr then d.disStale n else d.disFresh n
    let d := d.send (.frame n (d.disFrame n es))
    let d := d.onSeg n (fun (s : Seg) => { s with dis := es, offLeft := s.offLeft - 1 })
    es.foldl (fun (d : Dev) (e : DisEntry) =>
      match d.nodeAxisOf n e.pos e.naxis with
      | some i => d.onAx i (fun (a : Axis) => { a with sentAge := e.age })
      | none => d) d

/-- R23, R24: an overrun of stage `n`, or none. -/
def Dev.stgOverrun (d : Dev) (n : Nat) (ovr : Bool) : Dev :=
  let s := d.stk
  if ovr then
    let k := s.stgRun.getD n 0 + 1
    let again := s.stgNow.getD n false
    let d := { d with stk := { s with
      stgNow := s.stgNow.set n true, localOvr := sat32 (s.localOvr + 1)
      stgRun := if again then s.stgRun else s.stgRun.set n (if 2 ≤ k then 0 else k)
      stgDue := if !again && decide (2 ≤ k) then s.stgDue.set n true else s.stgDue } }
    d.onStg n (fun (s : Stg) => { s with events := setBit s.events 5 })
  else if s.stgNow.getD n false then d
  else { d with stk := { s with stgRun := s.stgRun.set n 0 } }

/-- R11, R23, R193: the lift results of the local axis on stage `n`: its duties wait for their period boundary, or come
late, and the stage repeats those before. A fast axis gives its stage its duties in its fast runs (R102). -/
def Dev.stgDischarge (d : Dev) (n : Nat) : Dev :=
  match d.stageAxis n with
  | some i =>
    if (d.ax i).computed then
      let late := Config.localLate d.free
      let d := (d.skip 1).stgOverrun n late
      if late then d.discard i
      else if (d.ax i).fast then d
      else d.onStg n (fun (s : Stg) => { s with dutyPend := some (d.ax i).duties })
    else d
  | none => d

/-- R353: the value of motion variable `v` of axis `i`, and whether its record carries an i64. -/
def Dev.motionVar (d : Dev) (i v : Nat) : Int × Bool :=
  let a := d.ax i
  if v < 0x18 then (readVar ⟨a.loop, a.users, ((d.stk.number % 32768 : Nat) : Int)⟩ v, false)
  else match v with
    | 0x18 => ((d.fb i).pAct, true)
    | 0x19 => (a.loop.pCmd, true)
    | 0x1A => (if a.state = 4 then a.loop.follow else 0, true)
    | 0x1B => (fromQ15 a.loop.velFb ((2 ^ a.cfg.velSpan * d.fs : Nat) : Int), true)
    | 0x1C => (fromQ15 a.loop.iqFb a.cfg.curSpan, false)
    | 0x1D => ((u32 (slice (d.olAxis i) 4 4) 0 : Nat), false)
    | 0x1E => ((d.pf i).appTrim, true)
    | _ => ((d.reg i).err, false)

/-- R352: a sample of motion variable `id` for the channels and trigger units that read it, tagged with the boundary. -/
def Dev.varSample (d : Dev) (id : Nat) : Dev :=
  let i := id / 32
  let x := d.motionVar i (id % 32)
  let body := if x.2 then eS64 x.1 else eS32 x.1 ++ e32 (d.stk.number % 2 ^ 32)
  let stale := if (d.ax i).remote && decide (1 ≤ (d.ax i).age) then 2 else 0
  let d := { d with cap := d.cap.feed 5 id x.1 body stale (d.at_ 0) }
  d.feedUnits 5 id (satS 32 x.1) (d.at_ 0)

/-- R352-R354: the motion variables and injection signals of the stroke that something reads. -/
def Dev.captureLift (d : Dev) : Dev :=
  let chans := d.cap.chans.filterMap (fun (c : Chan) => c.cfg.bind (fun (g : ChanCfg) => if g.kind = 5 then some g.index else none))
  let units := d.cap.units.filterMap (fun (u : Trig) => u.cfg.bind (fun (g : TrigCfg) => if g.kind = 5 ∧ u.on then some g.index else none))
  let d := (chans ++ units).eraseDups.foldl Dev.varSample d
  (List.range 128).foldl (fun (d : Dev) (i : Nat) =>
    match (d.ax i).inj with
    | some j => if j.k = 0 then d else { d with cap := d.cap.feed 6 i j.g (eS32 j.g ++ e32 ((j.k - 1) % 2 ^ 32)) 0 (d.at_ 0) }
    | none => d) d

/-- R23: discharge begins. -/
def Dev.dischargeStart (d : Dev) : Dev :=
  let d := (List.range 16).foldl Dev.segDischarge d
  let d := (List.range 8).foldl Dev.stgDischarge d
  let d := d.captureLift
  -- R381: the least hold of a block in reset is over; it waits for its clock
  let blocks := d.cps.blocks.map (fun (b : Nat) => if b = 1 then 2 else b)
  { d with stk := { d.stk with phase := .discharge }, cps := { d.cps with blocks := blocks } }

/-- `DISCHARGE_START` (R23). -/
def execDischargeStart (s : State) : Host.Outcome State Fault Refusal :=
  .next (s.live (fun (d : Dev) => if d.stk.phase = .lift then d.dischargeStart else d))

/-! ### Slack -/

/-- R438, R430: what the refresh of the records shows for the first time. -/
def Dev.refresh (d : Dev) : Dev :=
  let n := d.stk.number
  { d with
    io := { d.io with dis := d.io.dis.map (fun (x : Di) => { x with fresh := 0 }) }
    cans := d.cans.map (fun (c : Can) => { c with rx := c.rx.map (fun (b : CanRx) => if b.fresh then { b with stroke := n, fresh := false } else b) }) }

/-- R402, R403: the bytes of a datagram's body within the MTU, under either form of IP. -/
def Dev.dgramBody (d : Dev) : Nat := if bit (u8 d.hp.h2.cfg 0) 3 then 8920 else 1420

/-- R407: a range of the window in pieces that fit a datagram. -/
def splitRange (room o : Nat) : Nat → Nat → List (Nat × Nat)
  | 0, _ => []
  | _, 0 => [(o, 0)]
  | k + 1, n => if n ≤ room then [(o, n)] else (o, room) :: splitRange room (o + room) k (n - room)

/-- R407: the pieces of a stroke put into datagrams, each filled as far as it goes. -/
def packRanges (room : Nat) : Nat → List (Nat × Nat) → List (List (Nat × Nat))
  | _, [] => []
  | left, (o, n) :: r =>
    if n + 8 ≤ left then
      match packRanges room (left - (n + 8)) r with
      | [] => [[(o, n)]]
      | g :: gs => ((o, n) :: g) :: gs
    else
      match packRanges room (room - (n + 8)) r with
      | [] => [[], [(o, n)]]
      | g :: gs => [] :: ((o, n) :: g) :: gs

/-- R407: the outlook datagrams of a stroke, of the records just refreshed. -/
def Dev.streamOutlook (d : Dev) (shown : Dev) : Dev :=
  let h := d.hp.h2
  if h.period = 0 ∨ h.session.isNone ∨ d.stk.number % h.period ≠ 0 then d
  else
    let room := d.dgramBody - 4
    let l := h.ranges.flatMap (fun (r : Nat × Nat) => splitRange (room - 8) r.1 (r.2 + 1) r.2)
    ((packRanges room room l).filter (fun (g : List (Nat × Nat)) => !g.isEmpty)).foldl (fun (d : Dev) (g : List (Nat × Nat)) =>
      d.h2Send 0x30 (e32 (d.stk.number % 2 ^ 32) ++
        g.flatMap (fun (r : Nat × Nat) => e32 r.1 ++ e32 r.2 ++ d.outlook shown 2 r.1 r.2))) d

/-- R10: slack begins. -/
def Dev.slackStart (d : Dev) : Dev :=
  let d := (List.range 16).foldl Dev.segSlack d
  ({ d with stk := { d.stk with phase := .slack } } : Dev).refresh

/-- `SLACK_START` (R10, R401). -/
def execSlackStart (s : State) : Host.Outcome State Fault Refusal :=
  let s := s.fresh
  .next (if s.dev.running ∧ s.dev.stk.phase = .discharge then
      let d := s.dev.slackStart
      let v := { d with sent := [] }
      { s with dev := d.streamOutlook v, shown := v }
    else s)

end Sys2Proof.Machine
end

