-- ==== Sys2Proof/Machine/AxisEv.lean ====
section
/-! DEFINITION. What happens at an axis and at its position feedback: expiries, standstill, ramps and injections that end
(R106-R123, R163), and the samples and edges of the feedback inputs (R135-R142, R152, R183). -/

namespace Sys2Proof.Machine

/-! ### Expiries and ends -/

/-- `FE_COUNT_EXPIRY` (R112, R113). -/
def execFeCountExpiry (axis : Fin 128) (s : State) : Host.Outcome State Fault Refusal :=
  .next (s.live (fun (d : Dev) =>
    let a := d.ax axis.val
    if a.lim.feLimit ≠ 0 ∧ 0 < a.feCount ∧ a.lim.feTime ≤ a.feCount then d.axFault axis.val 1 (a.lim.reactFe == 1) else d))

/-- R111, R113: torque goes off where a quick stop that ends without torque has come to rest. -/
def Dev.quickOff (d : Dev) (i : Nat) : Dev :=
  let a := d.ax i
  if (a.stop = 4 ∧ (d.armOf i).isNone) ∨ a.ramping then d.axTorqueOff i else d

/-- `STANDSTILL_REACHED` (R111, R317). -/
def execStandstillReached (axis : Fin 128) (s : State) : Host.Outcome State Fault Refusal :=
  .next (s.live (fun (d : Dev) =>
    let i := axis.val
    let a := d.ax i
    if a.computed ∧ !a.standstill ∧ 0 < a.ssCount ∧ a.lim.ssTime ≤ a.ssCount then
      let d := d.onAx i (fun (a : Axis) => { a with standstill := true, events := setBit a.events 2 })
      let d := d.quickOff i
      if (d.safAx i).ss1 then d.safSto i true else d
    else d))

/-- R111, R293: torque goes off at a quick stop that has not come to rest in time; under `STOP_CAT1` at every joint of an
arm. -/
def Dev.qsOff (d : Dev) (i : Nat) : Dev :=
  match d.armOf i with
  | some (k, _) => if (d.ax i).stop = 4 then (d.arm k).axes.foldl Dev.axTorqueOff d else d.axTorqueOff i
  | none => d.axTorqueOff i

/-- `QS_TIMEOUT` (R111, R293). -/
def execQsTimeout (axis : Fin 128) (s : State) : Host.Outcome State Fault Refusal :=
  .next (s.live (fun (d : Dev) =>
    let i := axis.val
    let a := d.ax i
    if a.computed ∧ (a.stop = 4 ∨ a.ramping) ∧ !a.standstill ∧ a.lim.qsTimeout ≠ 0 ∧ a.lim.qsTimeout < a.qsCount then
      (d.onAx i (fun (a : Axis) => { a with events := setBit a.events 4 })).qsOff i
    else d))

/-- `MANUAL_TIMEOUT` (R106). -/
def execManualTimeout (axis : Fin 128) (s : State) : Host.Outcome State Fault Refusal :=
  .next (s.live (fun (d : Dev) =>
    let a := d.ax axis.val
    if (a.state = 2 ∨ a.state = 3) ∧ a.lim.manTimeout ≠ 0 ∧ a.lim.manTimeout < a.manCount then
      d.axFault axis.val 9 (a.lim.reactManual == 1)
    else d))

/-- `INJECT_END` (R123). -/
def execInjectEnd (axis : Fin 128) (s : State) : Host.Outcome State Fault Refusal :=
  .next (s.live (fun (d : Dev) =>
    match (d.ax axis.val).inj with
    | some j => if j.duration ≤ j.k then d.endInj axis.val false else d
    | none => d))

/-- `RAMP_END` (R163). -/
def execRampEnd (axis : Fin 128) (s : State) : Host.Outcome State Fault Refusal :=
  .next (s.live (fun (d : Dev) => d.onPf axis.val Pf.rampEnd))

/-! ### Sine/cosine channels -/

/-- R137: the collection of calibration estimates, after a sample. -/
def Dev.scCalibrate (d : Dev) (ch : Nat) : Dev :=
  let h := d.sc ch
  let on := (h.calMode == 2 || (h.calMode == 1 && !h.calDone)) && h.live == 0 && decide (100 ≤ h.freq.natAbs) && decide (h.freq.natAbs ≤ 5000000)
  if !on then (if h.calStart.isSome then d.onSc ch (fun (h : ScCh) => { h with calStart := none }) else d)
  else
    match h.calStart with
    | none => d.onSc ch (fun (h : ScCh) => { h with calStart := some h.steps })
    | some s0 =>
      if 64 * 4096 ≤ (h.steps - s0).natAbs then
        (d.skip 1).onSc ch (fun (h : ScCh) => { h.estimate (Config.calEstimate d.free) with calStart := some h.steps })
      else d

/-- R144: the causes of a channel at the axes that read it. -/
def Dev.scCauses (d : Dev) (ch : Nat) : Dev :=
  let live := (d.sc ch).live
  { d with fbs := d.fbs.map (fun (f : Fb) =>
      if f.configured && f.cfg.source == 1 && f.cfg.index == ch && (live != 0 || f.live % 16 != 0) then
        (List.range 4).foldl (fun (f : Fb) (k : Nat) => if bit live k then f.causeOn k else f.causeOff k) f
      else f) }

/-- R139, R152, R178: a rising reference mark sampled at `t`. -/
def Dev.scMark (d : Dev) (ch t : Nat) : Dev :=
  let h := d.sc ch
  if !h.refMark || h.live != 0 then d
  else
    let x := h.steps - h.steps % 4096
    let d := { d with
      fbs := d.fbs.map (fun (f : Fb) =>
        if f.configured && f.cfg.source == 1 && f.cfg.index == ch then { f with refPos := x, events := setBit f.events 3 } else f)
      eos := d.eos.map (fun (o : Eo) =>
        if o.enabled && o.cfg.kind == 3 && o.cfg.object % 2 ^ 24 == ch && bit o.cfg.flags 2 then { o with zMark := true, zAt := t }.levels else o) }
    (List.range 128).foldl (fun (d : Dev) (i : Nat) =>
      let f := d.fb i
      if f.configured && f.cfg.source == 1 && f.cfg.index == ch then d.latchAxis i 2 0 true t else d) d

/-- R152: a Z that a mark raised falls at the next edge, or 1 us later; `now` starts the stroke, `t` is the present. -/
def Eo.markEnd (o : Eo) (now t : Nat) : Eo :=
  if o.zMark ∧ (o.zAt + 1000 ≤ t ∨ (o.cfg.mode = 0 ∧ o.sched.any (fun (x : Nat) => decide (o.zAt < now + x) && decide (now + x ≤ t)))) then
    { o with zMark := false }.levels
  else o

/-- R135-R139, R148, R352: a sample of channel `ch` at the instant `t`, `ns` into the stroke. -/
def Dev.scSample (d : Dev) (ch : Nat) (sine cosine : Int) (mark : Bool) (ns : Nat) : Dev :=
  let t := d.at_ ns
  let was := (d.sc ch).mark
  let d := (d.skip 1).onSc ch (fun (h : ScCh) =>
    let h := { h.sample sine cosine t (Config.atanZero d.free) with mark := mark }
    { h with samples := keepPast (fun (x : Nat × Int) => x.1) t ((t, h.steps) :: h.samples) })
  let d := (d.scCalibrate ch).scCauses ch
  let d := { d with eos := d.eos.map (fun (o : Eo) => o.markEnd d.tm.now t) }
  let d := (List.range 4).foldl (fun (d : Dev) (e : Nat) =>
    let o := d.eo e
    if o.enabled ∧ o.cfg.mode = 1 ∧ o.cfg.object % 2 ^ 24 = ch then d.eoStep e (d.sc ch).steps 12 125 (ns + 400) else d) d
  let d := if mark && !was then d.scMark ch t else d
  let d := if mark = was then d else d.feedUnits 6 ch (b2n mark : Nat) t
  { d with cap := d.cap.feed 3 ch sine (eS32 sine ++ eS32 cosine) (0x20 * b2n (scEnd sine cosine)) t }

/-- `SC_SAMPLE` (R136). -/
def execScSample (ch : Fin 8) (sine cosine : Int) (mark : Bool) (ns : Nat) (s : State) : Host.Outcome State Fault Refusal :=
  .next (s.live (fun (d : Dev) => if d.block (0x28 + ch.val) = 0 then d.scSample ch.val sine cosine mark ns else d))

/-! ### Digital feedback inputs -/

/-- R179: the raw count of axis `i` kept with the instant of its last change. -/
def Dev.keepCount (d : Dev) (i t : Nat) : Dev :=
  d.onFb i (fun (f : Fb) => { f with counts := keepPast (fun (x : Nat × Int) => x.1) t ((t, f.c) :: f.counts) })

/-- Whether axis `i` reads position feedback of a source. -/
def Dev.reads (d : Dev) (i source : Nat) : Bool := (d.fb i).configured && (d.fb i).cfg.source == source

/-- R310: an accepted state of a quadrature secondary source. -/
def SafAx.edgeB (s : SafAx) (a b : Bool) : SafAx :=
  let p := quadPhase a b
  let dc : Int := match (p + 4 - s.bPhase % 4) % 4 with | 1 => 1 | 3 => -1 | _ => 0
  { s with bCount := s.bCount + dc, bPhase := p }

/-- `QUAD_EDGE` (R140, R310): `second` is the secondary source of the safety channels. -/
def execQuadEdge (axis : Fin 128) (a b second : Bool) (ns : Nat) (s : State) : Host.Outcome State Fault Refusal :=
  .next (s.live (fun (d : Dev) =>
    let i := axis.val
    if second then (if (d.safAx i).cfg.bSource = 2 then d.onSafAx i (fun (x : SafAx) => x.edgeB a b) else d)
    else if d.reads i 2 then (d.onFb i (fun (f : Fb) => f.quadEdge a b)).keepCount i (d.at_ ns)
    else d))

/-- `QUAD_INDEX` (R140, R178). -/
def execQuadIndex (axis : Fin 128) (ns : Nat) (s : State) : Host.Outcome State Fault Refusal :=
  .next (s.live (fun (d : Dev) =>
    let i := axis.val
    if d.reads i 2 ∧ (d.fb i).flag 0 then (d.onFb i Fb.quadIndex).latchAxis i 2 0 true (d.at_ ns) else d))

/-- `HALL_EDGE` (R141). -/
def execHallEdge (axis : Fin 128) (state : Fin 8) (ns : Nat) (s : State) : Host.Outcome State Fault Refusal :=
  .next (s.live (fun (d : Dev) =>
    let i := axis.val
    if d.reads i 3 then (d.onFb i (fun (f : Fb) => f.hallEdge state.val (d.at_ ns))).keepCount i (d.at_ ns) else d))

/-- `HALL_INTERP_TIMEOUT` (R142). -/
def execHallInterpTimeout (axis : Fin 128) (s : State) : Host.Outcome State Fault Refusal :=
  .next (s.live (fun (d : Dev) =>
    if d.reads axis.val 3 then d.onFb axis.val (fun (f : Fb) => { f with suspended := true }) else d))

/-- R183: a step counted; `up` says that the DIR pin is low. -/
def StepDir.step (x : StepDir) (up : Bool) (t : Nat) : StepDir :=
  let s : Int := if up != x.invert then 1 else -1
  { x with e := x.e + s, dirLast := s, tE1 := x.tE, tE := t }

/-- `STEP_EDGE` (R183). -/
def execStepEdge (pin : Fin 32) (up : Bool) (ns : Nat) (s : State) : Host.Outcome State Fault Refusal :=
  .next (s.live (fun (d : Dev) =>
    { d with pfs := d.pfs.map (fun (p : Pf) =>
        if p.stepDir.enabled && p.stepDir.pin == pin.val then { p with stepDir := p.stepDir.step up (d.at_ ns) } else p) }))

end Sys2Proof.Machine
end

