-- ==== Sys2Proof/Machine/StageEv.lean ====
section
/-! DEFINITION. What happens at a local stage: PWM boundaries and centres, refresh and precharge, trips, the gate supply and
its switches (R192-R210, R495). -/

namespace Sys2Proof.Machine

/-- R192: the index within its stroke of the period that begins `ns` into the stroke. -/
def Stg.nextPeriod (s : Stg) (ns : Nat) : Nat := if ns = 0 ∨ s.cfg.pps ≤ s.pIdx + 1 then 0 else s.pIdx + 1

/-- R188, R196: whether the controlling function of a stage drives its outputs. -/
def Dev.stageDriven (d : Dev) (n : Nat) : Bool :=
  match d.stageAxis n with | some i => (d.ax i).computed | none => (d.stg n).mode == 2

/-- R190-R196: a period boundary of stage `n`, `ns` into the stroke, and the lines its event points pulse. -/
def Dev.stageBoundary (d : Dev) (n ns : Nat) : Dev :=
  let s := d.stg n
  if s.mode = 0 then d
  else
    let k := s.nextPeriod ns
    let law := match d.stageAxis n with | some i => (d.ax i).cfg.law | none => 0
    let d := d.onStg n (fun (s : Stg) =>
      { s.boundary (subPeriod d.len s.cfg.pps k) law (d.stageDriven n) with pIdx := if s.mode = 1 then k else 0 })
    let s := d.stg n
    let fired := { s with points := s.points.map (fun (e : EvPt) => { e with count := e.count - 1 }) }.firedLines
    fired.foldl (fun (d : Dev) (x : Nat × Nat) => d.lineDriven x.1 (d.at_ (ns + x.2))) d

/-- `PWM_PERIOD_BOUNDARY` (R195). -/
def execPwmPeriodBoundary (stage : Fin 8) (ns : Nat) (s : State) : Host.Outcome State Fault Refusal :=
  .next (s.live (fun (d : Dev) => d.stageBoundary stage.val ns))

/-- R102, R130, R199: a period centre of stage `n`: its samples, the feedback instant of its axis, and a fast run, whose
duties may come late (R23). -/
def Dev.stageCentre (d : Dev) (n : Nat) (codes : List Int) (volts : Nat) : Dev :=
  let s := d.stg n
  if s.mode = 0 then d
  else
    let d := d.onStg n (fun (s : Stg) => { s with codes := (List.range 4).map (fun (k : Nat) => codes.getD k 0), codeV := volts })
    match d.stageAxis n with
    | none => d
    | some i =>
      let t := d.at_ (s.pIdx * (d.len / max 1 s.cfg.pps) + s.period / 2)
      let d := d.onFb i (fun (f : Fb) => { f with snap := f.pendC, centre := t })
      if (d.ax i).fast && (d.ax i).computed then
        let late := Config.localLate d.free
        let d := d.skip 1
        if late then d.stgOverrun n true else d.fastRun i t
      else d

/-- `PWM_CENTER` (R199). -/
def execPwmCenter (stage : Fin 8) (codes : List Int) (volts : Nat) (s : State) : Host.Outcome State Fault Refusal :=
  .next (s.live (fun (d : Dev) => d.stageCentre stage.val codes volts))

/-- `BOOTSTRAP_REFRESH` (R206). -/
def execBootstrapRefresh (stage : Fin 8) (hb : Fin 4) (s : State) : Host.Outcome State Fault Refusal :=
  .next (s.live (fun (d : Dev) => d.onStg stage.val (fun (x : Stg) => x.refreshHb hb.val)))

/-- R202: a trip input of a stage. -/
def Stg.tripInput (s : Stg) (global on : Bool) : Stg :=
  let s := if global then { s with gtripLive := on } else { s with tripLive := on }
  if on && bit s.cfg.tripFlags (b2n global) then s.trip (b2n global) else s

/-- `TRIP_INPUT` (R202, R204). -/
def execTripInput (global : Bool) (stage : Fin 8) (asserted : Bool) (s : State) : Host.Outcome State Fault Refusal :=
  .next (s.live (fun (d : Dev) =>
    if global then { d with gtrip := asserted, stgs := d.stgs.map (fun (x : Stg) => x.tripInput true asserted) }
    else d.onStg stage.val (fun (x : Stg) => x.tripInput false asserted)))

/-- R203: whether a transistor of a half-bridge may be on. -/
def Hb.mayConduct (h : Hb) (high : Bool) : Bool :=
  match h.drive with
  | .off => false
  | .blocked => false
  | .precharge => !high
  | .safeLow => !high
  | .safeHigh => high
  | _ => if high then h.mode != 2 && !h.hsHeld else h.mode != 1

/-- `VDS_DETECTION` (R203, R204). -/
def execVdsDetection (stage : Fin 8) (hb : Fin 4) (high : Bool) (s : State) : Host.Outcome State Fault Refusal :=
  .next (s.live (fun (d : Dev) =>
    if ((d.stg stage.val).hb hb.val).mayConduct high then d.onStg stage.val (fun (x : Stg) => x.vds hb.val) else d))

/-- `HS_SUPPLY_UV` (R207). -/
def execHsSupplyUv (stage : Fin 8) (hb : Fin 4) (s : State) : Host.Outcome State Fault Refusal :=
  .next (s.live (fun (d : Dev) =>
    if ((d.stg stage.val).hb hb.val).uv then d else d.onStg stage.val (fun (x : Stg) => x.uvLow hb.val)))

/-- `HS_SUPPLY_RECOVER` (R207). -/
def execHsSupplyRecover (stage : Fin 8) (hb : Fin 4) (s : State) : Host.Outcome State Fault Refusal :=
  .next (s.live (fun (d : Dev) => d.onStg stage.val (fun (x : Stg) => x.uvHigh hb.val)))

/-- `PRECHARGE_END` (R208). -/
def execPrechargeEnd (stage : Fin 8) (s : State) : Host.Outcome State Fault Refusal :=
  .next (s.live (fun (d : Dev) => d.onStg stage.val (fun (x : Stg) => if x.precharging then { x with precharged := true } else x)))

/-- `STAGE_OFFSET_DONE` (R200): `offsets` are the means of the four channels. -/
def execStageOffsetDone (stage : Fin 8) (offsets : List Int) (s : State) : Host.Outcome State Fault Refusal :=
  .next (s.live (fun (d : Dev) =>
    if (d.stg stage.val).measuring then
      let l := (List.range 4).map (fun (k : Nat) => offsets.getD k 0)
      (d.onStg stage.val (fun (x : Stg) => { x with measuring := false, ready := true, offsets := l })).finishHold
        (fun (h : Hold) => h == .stage stage.val) ST.ok 0 (l.flatMap eS16) none
    else d))

/-! ### Gate supply -/

/-- R209: every stage's switches follow the permit inputs. -/
def Dev.permits (d : Dev) (a b : Bool) : Dev :=
  { d with permitA := a, permitB := b, stgs := d.stgs.map (fun (x : Stg) => x.switches a b) }

/-- `STO_INPUT_LOW` (R210). -/
def execStoInputLow (sideB : Bool) (s : State) : Host.Outcome State Fault Refusal :=
  .next (s.live (fun (d : Dev) => if sideB then d.permits d.permitA false else d.permits false d.permitB))

/-- R204, R210, R495: the gate supply of a stage is good where both switches are closed and VGATE stands; a stage still
tripped then shows its safe levels. -/
def Stg.gateGood (s : Stg) (vgate : Bool) : Stg :=
  if s.swA || s.swB || !vgate || s.gateOk then s
  else
    let s := { s with gateOk := true }
    if s.tripped then s.safeDrives else s

/-- `STO_SWITCH_CLOSE` (R210): both permit inputs are high. -/
def execStoSwitchClose (stage : Fin 8) (s : State) : Host.Outcome State Fault Refusal :=
  .next (s.live (fun (d : Dev) => (d.permits true true).onStg stage.val (fun (x : Stg) => x.gateGood d.vgate)))

/-- `VGATE_UV` (R495). -/
def execVgateUv (s : State) : Host.Outcome State Fault Refusal :=
  .next (s.live (fun (d : Dev) => { d with vgate := false, stgs := d.stgs.map (fun (x : Stg) => { x.off with gateOk := false }) }))

/-- `VGATE_RECOVER` (R495). -/
def execVgateRecover (s : State) : Host.Outcome State Fault Refusal :=
  .next (s.live (fun (d : Dev) => { d with vgate := true, stgs := d.stgs.map (fun (x : Stg) => x.gateGood true) }))

end Sys2Proof.Machine
end

