-- ==== Sys2Proof/Machine/CapEv.lean ====
section
/-! DEFINITION. What happens at the trigger inputs, the capture channels and landing, the field inputs and outputs (R341-R361,
R421-R431). -/

namespace Sys2Proof.Machine

/-! ### Trigger units and pins -/

/-- `TRIGGER_INPUT` (R343, R344): a value at the input of one unit. Bus lines, combiners and motion variables have their
own ways in (R345, R346, R353). -/
def execTriggerInput (unit : Fin 128) (value : Int) (ns : Nat) (s : State) : Host.Outcome State Fault Refusal :=
  .next (s.live (fun (d : Dev) =>
    match (d.trig unit.val).cfg with
    | some g => if g.kind = 3 ∨ g.kind = 4 ∨ g.kind = 5 then d else d.unitInput unit.val value (d.at_ ns)
    | none => d))

/-- `TRIGGER_TIMEOUT` (R344). -/
def execTriggerTimeout (unit : Fin 128) (ns : Nat) (s : State) : Host.Outcome State Fault Refusal :=
  .next (s.live (fun (d : Dev) =>
    let u := d.trig unit.val
    match u.cfg with
    | some g => d.unitStep unit.val (u.expire g (d.at_ ns))
    | none => d))

/-- `TRIGIO_PULSE_END` (R347): not while a later pulse holds the pin high. -/
def execTrigioPulseEnd (pin : Fin 4) (ns : Nat) (s : State) : Host.Outcome State Fault Refusal :=
  .next (s.live (fun (d : Dev) =>
    { d with cap := { d.cap with pins := upd d.cap.pins pin.val (fun (p : Pin) =>
        if p.dir = 1 ∧ p.level ∧ p.endAt ≤ d.at_ ns then { p with level := false } else p) } }))

/-- `TRIGIO_INPUT_EDGE` (R178, R341, R352): an edge of an input pin. -/
def execTrigioInputEdge (pin : Fin 4) (level : Bool) (ns : Nat) (s : State) : Host.Outcome State Fault Refusal :=
  .next (s.live (fun (d : Dev) =>
    let p := d.cap.pins.getD pin.val Pin.reset
    if p.dir ≠ 0 ∨ p.level = level then d
    else
      let t := d.at_ ns
      let d : Dev := { d with cap := { d.cap with pins := upd d.cap.pins pin.val (fun (p : Pin) => { p with level := level }) } }
      let d := (d.latchAll 3 pin.val level t).feedUnits 2 pin.val (b2n level : Nat) t
      { d with cap := d.cap.feedEdge 2 pin.val level t }))

/-- `MARK_INPUT_SAMPLE` (R341, R349-R352): a 12-bit code; a code at an end of the range sets `clip`. -/
def execMarkInputSample (input : Fin 16) (code ns : Nat) (s : State) : Host.Outcome State Fault Refusal :=
  .next (s.live (fun (d : Dev) =>
    let c := min code 4095
    let t := d.at_ ns
    let d := d.feedUnits 0 input.val (c : Nat) t
    { d with cap := d.cap.feed 0 input.val c (e32 c ++ e32 0) (0x20 * b2n (c == 0 || c == 4095)) t }))

/-! ### Capture -/

/-- `CAP_POST_DONE` (R355). -/
def execCapPostDone (ch : Fin 64) (s : State) : Host.Outcome State Fault Refusal :=
  .next (s.live (fun (d : Dev) => { d with cap := d.cap.postDone ch.val }))

/-- `MEAS_WINDOW_END` (R350). -/
def execMeasWindowEnd (ch : Fin 64) (s : State) : Host.Outcome State Fault Refusal :=
  .next (s.live (fun (d : Dev) => { d with cap := d.cap.windowEnd ch.val }))

/-- R359: a block closes once its first record has waited `flush_us`. -/
def Cap.flush (c : Cap) (n t : Nat) : Cap :=
  match c.chans[n]? with
  | none => c
  | some k =>
    match k.block, k.cfg with
    | some _, some g => if k.openAt + 1000 * g.flushUs ≤ t then (c.closeBlock n).settle (engOf n) else c
    | _, _ => c

/-- `FLUME_BLOCK_FLUSH` (R359). -/
def execFlumeBlockFlush (ch : Fin 64) (ns : Nat) (s : State) : Host.Outcome State Fault Refusal :=
  .next (s.live (fun (d : Dev) => { d with cap := d.cap.flush ch.val (d.at_ ns) }))

/-- R358: records at the tail of a ring in host memory: one write, or two where they pass its end. -/
def Flume.writes (f : Flume) (recs : List Bytes) : List Out :=
  let at_ := f.tail % max 1 f.entries
  let n := f.entries - at_
  if recs.length ≤ n then [.host f.port (f.base + 16 * at_) recs.flatten]
  else [.host f.port (f.base + 16 * at_) (recs.take n).flatten, .host f.port f.base (recs.drop n).flatten]

/-- R359: the block at the head of a ring's queue copied, the tail moved on and the block freed. -/
def Dev.flumeCopy (d : Dev) (e r : Nat) : Dev :=
  let f := (d.eng e).rings.getD r Flume.reset
  match f.ready with
  | some b =>
    let d := (f.writes b.recs).foldl Dev.send d
    let d := d.onEng e (fun (g : Eng) => { g with rings := upd g.rings r (fun (f : Flume) =>
      ({ f with tail := (f.tail + b.recs.length) % 2 ^ 32, queue := f.queue.tail } : Flume).level) })
    { d with cap := d.cap.settle e }
  | none => d

/-- `FLUME_BLOCK_COPY` (R359). -/
def execFlumeBlockCopy (eng : Fin 4) (ring : Fin 4) (s : State) : Host.Outcome State Fault Refusal :=
  .next (s.live (fun (d : Dev) => d.flumeCopy eng.val ring.val))

/-- `FLUME_RING_ERROR` (R358). -/
def execFlumeRingError (eng : Fin 4) (ring : Fin 4) (s : State) : Host.Outcome State Fault Refusal :=
  .next (s.live (fun (d : Dev) => { d with cap := d.cap.ringError eng.val ring.val }))

/-! ### Digital inputs -/

/-- R423: the front-end latency of a digital input, in ns. -/
def diLatency : Nat := 88

/-- R422-R424: an accepted edge of input `n` whose last raw transition was `ns` into the stroke. -/
def Dev.diEdge (d : Dev) (n : Nat) (lv : Bool) (ns : Nat) : Dev :=
  if d.io.dip ∨ (d.di n).level = lv then d
  else
    let t := (d.at_ ns + cellSpan - diLatency) % cellSpan
    let d := (d.onDi n (fun (x : Di) => x.accept lv t)).latchAll 0 n lv t
    let d := d.feedUnits 1 n (b2n lv : Nat) t
    { d with cap := d.cap.feedEdge 1 n lv t }

/-- `DI_EDGE_ACCEPTED` (R422). -/
def execDiEdgeAccepted (di : Fin 32) (level : Bool) (ns : Nat) (s : State) : Host.Outcome State Fault Refusal :=
  .next (s.live (fun (d : Dev) => d.diEdge di.val level ns))

/-! ### The field supply -/

/-- R424, R425: a dip begins; a recovery under way ends. -/
def Io.dipBegin (io : Io) (mv : Nat) : Io :=
  if io.dip then io
  else ({ io with dip := true, good := false, recovering := false, vfield := mv, dips := sat32 (io.dips + 1) } : Io).supplyEvent.modes

/-- R424: the dip ends and recovery begins. -/
def Io.dipEnd (io : Io) (mv : Nat) : Io :=
  if io.dip ∧ 19200 ≤ mv then ({ io with dip := false, recovering := true, vfield := mv } : Io).modes else io

/-- R424, R425: the supply is good. -/
def Io.supplyGood (io : Io) (mv : Nat) : Io :=
  if io.dip ∨ io.good ∨ mv < 19200 then io
  else ({ io with good := true, recovering := false, startup := false, vfield := mv } : Io).supplyEvent.modes

/-- `FIELD_DIP_BEGIN` (R424). -/
def execFieldDipBegin (mv : Nat) (s : State) : Host.Outcome State Fault Refusal :=
  .next (s.live (fun (d : Dev) => if mv < 18000 then { d with io := d.io.dipBegin mv } else d))

/-- `FIELD_DIP_END` (R424). -/
def execFieldDipEnd (mv : Nat) (s : State) : Host.Outcome State Fault Refusal :=
  .next (s.live (fun (d : Dev) => { d with io := d.io.dipEnd mv }))

/-- `FIELD_SUPPLY_GOOD` (R424). -/
def execFieldSupplyGood (mv : Nat) (s : State) : Host.Outcome State Fault Refusal :=
  .next (s.live (fun (d : Dev) => { d with io := d.io.supplyGood mv }))

/-! ### Digital outputs -/

/-- R427, R430, R431: a cause becomes live: bit `b` of the sticky flags and of the events. -/
def Do.rise (x : Do) (b : Nat) (was : Bool) : Do :=
  if was then x else { x with seen := setBit x.seen b, events := setBit x.events b }

/-- R427: an overload turns the output off; with `ol_restart` a retry is to follow. -/
def Do.overloaded (x : Do) : Do :=
  ({ x with overload := true, held := true, retrying := x.restart } : Do).rise 0 x.overload |>.follow

/-- `DO_OVERLOAD` (R427): an output that is on. -/
def execDoOverload (n : Fin 16) (s : State) : Host.Outcome State Fault Refusal :=
  .next (s.live (fun (d : Dev) => d.onDo n.val (fun (x : Do) => if x.on then x.overloaded else x)))

/-- R427: an overloaded output is switched on again. -/
def Do.retry (x : Do) : Do :=
  if x.overload && x.held && x.restart && x.command then
    { ({ x with held := false, retries := sat32 (x.retries + 1) } : Do).follow with retrying := true }
  else x

/-- `DO_OVERLOAD_RETRY` (R427). -/
def execDoOverloadRetry (n : Fin 16) (s : State) : Host.Outcome State Fault Refusal :=
  .next (s.live (fun (d : Dev) => d.onDo n.val Do.retry))

/-- `DO_OVERLOAD_CLEARED` (R427): the output is back on without a new overload. -/
def execDoOverloadCleared (n : Fin 16) (s : State) : Host.Outcome State Fault Refusal :=
  .next (s.live (fun (d : Dev) => d.onDo n.val (fun (x : Do) =>
    if x.overload && !x.held && x.on then { x with overload := false, retrying := false } else x)))

/-- R427: an open wire appears or disappears; the group supply stands at `vdo`, in units of 10 mV. An output that is off
is tested only with `ow_off_test`. -/
def Do.wire (x : Do) (present : Bool) (vdo : Nat) : Do :=
  let x := { x with supplyLow := decide (vdo < 1800) }
  if x.supplyLow then x
  else if present then
    if x.on || x.offTest then ({ x with openWire := true } : Do).rise 1 x.openWire else x
  else { x with openWire := false }

/-- `DO_OPEN_WIRE` (R427). -/
def execDoOpenWire (n : Fin 16) (present : Bool) (vdo : Nat) (s : State) : Host.Outcome State Fault Refusal :=
  .next (s.live (fun (d : Dev) =>
    let v := sat16 vdo
    let d : Dev := { d with io := { d.io with vdo := if n.val < 8 then d.io.vdo / 65536 * 65536 + v else v * 65536 + d.io.vdo % 65536 } }
    d.onDo n.val (fun (x : Do) => x.wire present v)))

/-- R427: overtemperature turns the output off; once it is past, the output follows its command. -/
def Do.temp (x : Do) (hot : Bool) : Do :=
  (if hot then ({ x with overtemp := true } : Do).rise 2 x.overtemp else { x with overtemp := false }).follow

/-- `DO_OVERTEMP` (R427). -/
def execDoOvertemp (n : Fin 16) (hot : Bool) (s : State) : Host.Outcome State Fault Refusal :=
  .next (s.live (fun (d : Dev) => d.onDo n.val (fun (x : Do) => x.temp hot)))

end Sys2Proof.Machine
end

