-- ==== Sys2Proof/Machine/TimeEv.lean ====
section
/-! DEFINITION. What happens on the CAN channels, the compare units, PTP and the check-value units (R432-R441, R447-R458). -/

namespace Sys2Proof.Machine

/-! ### CAN FD -/

/-- R439: a stop that waited for the frame on the bus completes. -/
def Dev.canSettle (d : Dev) (n : Nat) : Dev :=
  if (d.can n).state = 0 then d.finishHold (fun (h : Hold) => h == .canStop n) ST.ok 0 [] none else d

/-- R437: the stamp of a frame whose SOF edge is `ns` into the stroke. -/
def Dev.canStamp (d : Dev) (n ns : Nat) : Nat := (d.at_ ns + cellSpan - (d.can n).cfg.rxDelay) % cellSpan

/-- R432, R434: the channel takes part in the traffic of its bus. -/
def Can.takesPart (c : Can) : Bool := c.state == 1 || c.state == 2

/-- The frame that a `CAN_RX_FRAME` carries: bits 0 to 4 of `flags` are extended, remote, FD, BRS and ESI. -/
def rxFrame (id flags dlc : Nat) (data : Bytes) (stamp : Nat) : CanFrame :=
  let remote := bit flags 1
  { id := id % 2 ^ (if bit flags 0 then 29 else 11), ext := bit flags 0, remote := remote, fd := bit flags 2, brs := bit flags 3
    esi := bit flags 4, dlc := dlc % 16, data := if remote then [] else slice data 0 (dlcLen (dlc % 16)), stamp := stamp, filter := 0 }

/-- R436: a frame valid for the receiver of channel `n`. -/
def Dev.canReceive (d : Dev) (n : Nat) (f : CanFrame) : Dev :=
  let back := 119 + Config.canRec d.free % 9
  (d.skip 1).onCan n (fun (c : Can) => c.receive f back)

/-- `CAN_RX_FRAME` (R436-R438). An FD frame is no valid frame of a channel without FD, and in loopback nothing comes from
the pin (DEDUCED, log entry 179). -/
def execCanRxFrame (ch : Fin 4) (id flags dlc : Nat) (data : Bytes) (ns : Nat) (s : State) : Host.Outcome State Fault Refusal :=
  .next (s.live (fun (d : Dev) =>
    let c := d.can ch.val
    if !c.takesPart ∨ c.cfg.mode = 3 ∨ (bit flags 2 ∧ (bit flags 1 ∨ !bit c.cfg.flags 3)) then d
    else d.canReceive ch.val (rxFrame id flags dlc data (d.canStamp ch.val ns))))

/-- R434, R435: a transmit attempt of channel `n` ends: 0 sent, 1 arbitration lost, 2 + e an error of kind e (R440). In
loopback the channel receives what it sends (DEDUCED, log entry 179). -/
def Dev.canTx (d : Dev) (n res : Nat) (dataPhase : Bool) (ns : Nat) (delay : Option Nat) : Dev :=
  let stamp := d.canStamp n ns
  let c := (d.can n).sof
  let sent := match c.onBus with
    | some b => (c.tx.getD b CanTx.reset).frame
    | none => none
  let d := match sent with
    | some f => if res = 0 ∧ c.cfg.mode = 3 then d.canReceive n { f with stamp := stamp, esi := f.fd && c.state == 2 } else d
    | none => d
  (d.onCan n (fun (c : Can) => c.txDone res dataPhase stamp delay)).canSettle n

/-- `CAN_TX_DONE` (R434). -/
def execCanTxDone (ch : Fin 4) (res : Nat) (dataPhase : Bool) (ns : Nat) (delay : Option Nat) (s : State) :
    Host.Outcome State Fault Refusal :=
  .next (s.live (fun (d : Dev) =>
    if (d.can ch.val).takesPart ∧ res ≠ 2 ∧ res < 9 then d.canTx ch.val res dataPhase ns delay else d))

/-- `CAN_BUS_OFF` (R432, R439): the transmit error counter has passed 255. -/
def execCanBusOff (ch : Fin 4) (s : State) : Host.Outcome State Fault Refusal :=
  .next (s.live (fun (d : Dev) =>
    let c := d.can ch.val
    if c.takesPart ∧ 256 ≤ c.tec then
      (d.onCan ch.val (fun (c : Can) => if c.stopping then c.busOff.stopped else c.busOff)).canSettle ch.val
    else d))

/-- `CAN_RECOVERY_DONE` (R439). -/
def execCanRecoveryDone (ch : Fin 4) (s : State) : Host.Outcome State Fault Refusal :=
  .next (s.live (fun (d : Dev) => d.onCan ch.val Can.recovered))

/-- `CAN_ERROR_DETECTED` (R432, R441). -/
def execCanErrorDetected (ch : Fin 4) (kind : Fin 8) (dataPhase dominant : Bool) (s : State) : Host.Outcome State Fault Refusal :=
  .next (s.live (fun (d : Dev) =>
    if (d.can ch.val).takesPart ∧ 1 ≤ kind.val ∧ kind.val ≤ 6 then
      d.onCan ch.val (fun (c : Can) => c.rxError kind.val dataPhase dominant)
    else d))

/-! ### Compare units and check-value units -/

/-- `CMP_FIRE` (R447-R449). -/
def execCmpFire (unit : Fin 16) (ns : Nat) (s : State) : Host.Outcome State Fault Refusal :=
  .next (s.live (fun (d : Dev) => d.tcuFire unit.val (d.at_ ns) true))

/-- `CRC_DATA_UNIT` (R456, R457). -/
def execCrcDataUnit (unit : Fin 8) (data : Bytes) (s : State) : Host.Outcome State Fault Refusal :=
  .next (s.live (fun (d : Dev) => d.onCrcu unit.val (fun (u : Crcu) => u.unit data)))

/-- `CRC_TIMEOUT` (R458). -/
def execCrcTimeout (unit : Fin 8) (s : State) : Host.Outcome State Fault Refusal :=
  .next (s.live (fun (d : Dev) => d.onCrcu unit.val Crcu.timeout))

/-! ### PTP -/

/-- IEEE 1588: the message types that the port uses (R451). -/
def ptpUsed (kind : Nat) : Bool := kind == 0 || kind == 1 || kind == 8 || kind == 9 || kind == 0xB

/-- R451, R459: the port is led by a master: UNCALIBRATED or SLAVE. -/
def Ptp.led (p : Ptp) : Bool := p.port == 8 || p.port == 9

/-- R451: a message not used. -/
def Ptp.drop (p : Ptp) : Ptp := { p with discard := sat32 (p.discard + 1) }

/-- R451: the port starts to listen once it is initialised. -/
def Ptp.start (p : Ptp) : Ptp := if p.port = 1 then p.setPort 4 else p

/-- R454: the port in state `port`; where a master is selected again, the servo goes into LOCKING. -/
def Ptp.enter (p : Ptp) (port : Nat) : Ptp :=
  let q := p.setPort port
  if q.led then (if p.led && p.servo != 0 && p.servo != 3 then q else { q.setServo 1 with inBand := 0 })
  else if q.servo = 3 then q else q.setServo 0

/-- R451: an Announce: the firmware may select another state and master; both are its own choice. -/
def Dev.ptpAnnounce (d : Dev) : Dev :=
  let open_ := if d.tm.ptp.cfg.mode = 1 then [4, 8, 9] else [4, 5, 6, 7, 8, 9]
  let port := open_.getD (Config.ptpPort d.free % open_.length) 4
  let par := Config.ptpParent d.free
  (d.skip 1).onPtp (fun (p : Ptp) => { p.enter port with gmId := par.1 % 2 ^ 64, parent := par.2 % 2 ^ 80 })

/-- R454: the servo at a Sync with its Follow_Up: a step, or a new rate target. -/
def Dev.ptpServo (d : Dev) : Dev :=
  let o := satS 64 (Config.ptpOffset d.free)
  let c := d.tm.ptp.cfg
  let rate := clampI (-1000000) 1000000 (Config.ptpRate d.free)
  let near := decide (o.natAbs ≤ c.lockNs)
  let slave := d.tm.ptp.port == 9 || Config.ptpSelected d.free
  let d := (d.skip 1).onPtp (fun (p : Ptp) =>
    let p := { p with offset := o, inBand := if near then p.inBand + 1 else 0 }
    let p := if slave then p.setPort 9 else p
    p.setServo (if !near then 1 else if 16 ≤ p.inBand ∨ p.servo = 2 then 2 else 1))
  d.onTm (fun (t : Tm) =>
    if c.stepNs ≠ 0 ∧ c.stepNs < o.natAbs then { t with pend := t.pend ++ [.step (-o)], source := 2 }
    else { t with target := rate, source := 2 })

/-- R451-R454: a PTP message taken. -/
def Dev.ptpTake (d : Dev) (kind : Nat) (twoStep : Bool) (seq : Nat) : Dev :=
  let p := d.tm.ptp
  match kind with
  | 0 =>
    if !p.led then d
    else if twoStep then d.onPtp (fun (p : Ptp) => { p with syncSeq := some (seq % 65536) })
    else d.onPtp Ptp.drop
  | 8 =>
    if p.led ∧ p.syncSeq = some (seq % 65536) then (d.onPtp (fun (p : Ptp) => { p with syncSeq := none })).ptpServo else d
  | 9 =>
    let mine (e : PtpTs) : Bool := e.kind == 1 && e.seq == seq % 65536
    if p.led ∧ p.queue.any mine then
      let v := Config.ptpDelay d.free
      (d.skip 1).onPtp (fun (p : Ptp) => { p with pathDelay := sat32 v, queue := p.queue.filter (fun (e : PtpTs) => !mine e) })
    else d
  | 0xB => d.ptpAnnounce
  | _ => d

/-- `PTP_MESSAGE_RX` (R451-R454): the receive instant enters only the offset and the delay, which are the servo's own. -/
def execPtpMessageRx (kind : Nat) (twoStep : Bool) (seq _ns : Nat) (s : State) : Host.Outcome State Fault Refusal :=
  .next (s.live (fun (d : Dev) =>
    if d.tm.ptp.cfg.mode = 0 ∨ !(d.prt 2).linkUp then d
    else if ptpUsed kind then (d.onPtp Ptp.start).ptpTake kind twoStep seq
    else d.onPtp (fun (p : Ptp) => p.start.drop)))

/-- R451, R453: a message sent, where the port's state sends it. A Follow_Up needs the timestamp of its Sync. -/
def Dev.ptpSend (d : Dev) (kind : Nat) : Dev :=
  let p := d.tm.ptp
  let master := p.port == 6
  match kind with
  | 0 =>
    if master then (d.onPtp (fun (p : Ptp) => { p with seqSync := (p.seqSync + 1) % 65536 })).send (.ptp 0 p.seqSync) else d
  | 8 =>
    match p.queue.find? (fun (e : PtpTs) => e.kind == 0) with
    | some e =>
      if master then
        (d.onPtp (fun (p : Ptp) => { p with queue := p.queue.erase e })).send (.ptp 8 e.seq)
      else d
    | none => d
  | 1 =>
    if p.led then (d.onPtp (fun (p : Ptp) => { p with seqDelay := (p.seqDelay + 1) % 65536 })).send (.ptp 1 p.seqDelay) else d
  | 9 => if master then d.send (.ptp 9 0) else d
  | 0xB =>
    if master then (d.onPtp (fun (p : Ptp) => { p with seqAnnounce := (p.seqAnnounce + 1) % 65536 })).send (.ptp 0xB p.seqAnnounce)
    else d
  | _ => d

/-- `PTP_MESSAGE_TX` (R451). -/
def execPtpMessageTx (kind : Nat) (s : State) : Host.Outcome State Fault Refusal :=
  .next (s.live (fun (d : Dev) =>
    if d.tm.ptp.cfg.mode = 0 ∨ !(d.prt 2).linkUp then d else (d.onPtp Ptp.start).ptpSend kind))

/-- R453: a transmit timestamp into the queue, or dropped where that is full. -/
def Ptp.stamp (p : Ptp) (e : PtpTs) : Ptp :=
  if 16 ≤ p.queue.length then { p with dropped := sat32 (p.dropped + 1), overflow := true, events := setBit p.events 2 }
  else { p with queue := p.queue ++ [e] }

/-- `PTP_TX_TIMESTAMP` (R452, R453): the transmit latency of the link speed, in ps, is added; the fraction goes into
`correctionField`. -/
def execPtpTxTimestamp (kind seq ns : Nat) (s : State) : Host.Outcome State Fault Refusal :=
  .next (s.live (fun (d : Dev) =>
    if d.tm.ptp.cfg.mode = 0 then d
    else
      let lat := (d.tm.ptp.latency.getD (d.prt 2).speed (0, 0)).1 / 1000
      d.onPtp (fun (p : Ptp) => p.stamp ⟨kind % 16, seq % 65536, (d.at_ ns + lat) % cellSpan⟩)))

/-- R454: the master is lost: holdover at the rate in force. A port without a master that may be one becomes free to. -/
def Dev.ptpLoss (d : Dev) : Dev :=
  let p := d.tm.ptp
  let next := if p.cfg.mode = 2 ∧ Config.ptpPort d.free % 2 = 1 then 6 else 4
  if p.led then
    ((d.skip 1).onPtp (fun (p : Ptp) => { (p.setServo 3).setPort next with lostAt := d.tm.now, inBand := 0, syncSeq := none })).onTm
      (fun (t : Tm) => { t with target := t.rate })
  else if p.port = 4 then (d.skip 1).onPtp (fun (p : Ptp) => p.setPort next)
  else d

/-- `PTP_MASTER_LOSS` (R454). -/
def execPtpMasterLoss (s : State) : Host.Outcome State Fault Refusal :=
  .next (s.live (fun (d : Dev) => if d.tm.ptp.cfg.mode = 0 then d else (d.onPtp Ptp.start).ptpLoss))

end Sys2Proof.Machine
end

