-- ==== Sys2Proof/Machine/SafEv.lean ====
section
/-! DEFINITION. What happens at the safety inputs, outputs and channels: contacts, discrepancies, reset pulses, readbacks,
expiries (R308-R334). -/

namespace Sys2Proof.Machine

/-! ### Inputs -/

/-- R312, R329, R330: filtered contacts. After a fault both have shown the safe state together; a pending test has seen the
safe state and then the permit state, which leaves it pending in the stroke of a fault; the pulse of a reset input begins. -/
def SafIn.contacts (n : SafIn) (c1 c2 : Bool) : SafIn :=
  let was := n.permit
  let n := { n with c1 := c1, c2 := c2 }
  let n := if n.fault && n.bothSafe then { n with safeSeen := true } else n
  let n := if n.pending && n.bothSafe then { n with testSafe := true } else n
  let n := if n.pending && n.testSafe && n.permit then { n with pending := n.fresh, testSafe := false } else n
  if n.kind = 1 ∧ n.permit ∧ !was then { n with pulse := true, stuck := false } else n

/-- `SAFETY_INPUT_CHANGE` (R312): channel B acts at once, channel A at the next latch point. -/
def execSafetyInputChange (input : Fin 16) (c1 c2 : Bool) (s : State) : Host.Outcome State Fault Refusal :=
  .next (s.live (fun (d : Dev) => (d.onSafIn input.val (fun (n : SafIn) => n.contacts c1 c2)).syncPaths false true))

/-- R309, R312: an input fault latches, with a safety fault of the functions that use the input. -/
def Dev.inputFault (d : Dev) (n : Nat) : Dev :=
  let d := d.onSafIn n (fun (x : SafIn) => { x with fault := true, safeSeen := false })
  match d.owner 0x0B n with
  | some k =>
    let u := d.usersOf k n
    let d := u.1.foldl (fun (d : Dev) (i : Nat) => d.onSafAx i (fun (x : SafAx) => { x with fault := true })) d
    let d := u.2.foldl (fun (d : Dev) (j : Nat) => d.onSafArm j (fun (x : SafArm) => { x with fault := true })) d
    ((d.safFault k 5).log 0x40 (jObj 0x0B n) 5).syncPaths false true
  | none => d

/-- `SAFETY_INPUT_DISCREPANCY` (R312): contacts that agree again by now count as agreeing (R29). -/
def execSafetyInputDiscrepancy (input : Fin 16) (s : State) : Host.Outcome State Fault Refusal :=
  .next (s.live (fun (d : Dev) =>
    let n := d.safIn input.val
    if n.disagree && !n.fault then d.inputFault input.val else d))

/-- `RESET_PULSE_END` (R330): a pulse of 50 ms to 2 s is a reset of the compartment (R331). -/
def execResetPulseEnd (input : Fin 16) (ms : Nat) (s : State) : Host.Outcome State Fault Refusal :=
  .next (s.live (fun (d : Dev) =>
    let n := d.safIn input.val
    if n.kind = 1 ∧ n.pulse then
      let d := d.onSafIn input.val (fun (x : SafIn) => { x with pulse := false, stuck := false })
      match d.owner 0x0B input.val with
      | some k => if pulseAccepted (1000000 * ms) then d.safReset k else d
      | none => d
    else d))

/-- `RESET_STUCK` (R330). -/
def execResetStuck (input : Fin 16) (s : State) : Host.Outcome State Fault Refusal :=
  .next (s.live (fun (d : Dev) =>
    let n := d.safIn input.val
    if n.kind = 1 ∧ n.pulse ∧ !n.stuck then
      let d := d.onSafIn input.val (fun (x : SafIn) => { x with stuck := true })
      match d.owner 0x0B input.val with
      | some k => d.safEvent k 3
      | none => d
    else d))

/-! ### Discrepancies and readbacks -/

/-- `POSITION_DISCREPANCY` (R311): the count of failing strokes has reached its limit. -/
def execPositionDiscrepancy (axis : Fin 128) (s : State) : Host.Outcome State Fault Refusal :=
  .next (s.live (fun (d : Dev) =>
    let x := d.safAx axis.val
    if 1 ≤ x.cfg.disc ∧ x.cfg.disc ≤ x.discCount then d.axSafFault axis.val 3 else d))

/-- `SAFETY_OUTPUT_READBACK_FAULT` (R309): the output and its axes. -/
def execSafetyOutputReadbackFault (out : Fin 4) (s : State) : Host.Outcome State Fault Refusal :=
  .next (s.live (fun (d : Dev) =>
    let d := d.onSafOut out.val (fun (x : SafOut) => { x with fault := true })
    let d : Dev := { d with saf := { d.saf with axes := d.saf.axes.map (fun (x : SafAx) =>
      if x.cfg.stoOut = out.val then { x with fault := true } else x) } }
    let d := match d.owner 0x22 out.val with | some k => (d.safFault k 6).log 0x40 (jObj 0x22 out.val) 6 | none => d
    d.syncOutputs true true))

/-- `STO_SWITCH_READBACK_FAULT` (R309): the stage, with the axis that it drives. -/
def execStoSwitchReadbackFault (stage : Fin 8) (s : State) : Host.Outcome State Fault Refusal :=
  .next (s.live (fun (d : Dev) =>
    let d : Dev := { d with saf := { d.saf with stages := d.saf.stages.set stage.val true } }
    let d := match d.stageAxis stage.val with
      | some i => d.onSafAx i (fun (x : SafAx) => { x with fault := true })
      | none => d
    let d := match d.owner 0x05 stage.val with | some k => (d.safFault k 7).log 0x40 (0x20 + stage.val) 7 | none => d
    d.syncStage stage.val true true))

/-! ### Demands, ramps and the watchdog -/

/-- R308: a function demands a reaction of an axis, or of the arm of a joint. -/
def Dev.demanded (d : Dev) (i : Nat) : Bool :=
  let two (l : List Bool) : Bool := l.getD 0 false || l.getD 1 false
  two (d.safActs i) || (d.safAx i).violNow ||
    (match d.jointArm i with | some k => two (d.armActs k) || (d.safArm k).violNow || (d.safArm k).demandB | none => false)

/-- R308: channel B opens its STO paths of an axis. -/
def Dev.openB (d : Dev) (i : Nat) : Dev :=
  let a := d.ax i
  let d := if a.local_ then d.onStg a.stage (fun (x : Stg) => ({ x with cmdB := true } : Stg).switches d.permitA d.permitB) else d
  d.onSafOut (d.safAx i).cfg.stoOut (fun (x : SafOut) => { x with sideB := false })

/-- `UNANSWERED_DEMAND` (R308, R309). -/
def execUnansweredDemand (axis : Fin 128) (s : State) : Host.Outcome State Fault Refusal :=
  .next (s.live (fun (d : Dev) =>
    let i := axis.val
    if d.demanded i then
      let all := match d.jointArm i with | some k => (d.arm k).axes | none => [i]
      all.foldl Dev.openB (d.axSafFault i 8)
    else d))

/-- `SS1_EXPIRY` (R317). -/
def execSs1Expiry (isArm : Bool) (n : Fin 128) (s : State) : Host.Outcome State Fault Refusal :=
  .next (s.live (fun (d : Dev) =>
    let k := n.val
    if isArm then (if (d.safArm k).ss1 then (d.safStoArm k true).syncPaths true true else d)
    else if (d.safAx k).ss1 then (d.safSto k true).syncPaths true true
    else d))

/-- `SAFETY_WATCHDOG_EXPIRY` (R334). -/
def execSafetyWatchdogExpiry (comp : Fin 8) (s : State) : Host.Outcome State Fault Refusal :=
  .next (s.live (fun (d : Dev) => if (d.safCmp comp.val).msgOk then (d.safExpire comp.val).syncPaths false true else d))

/-- `PROTECTIVE_STOP_RELEASE` (R327): after the clear cycles the stop ends, or waits for a reset. -/
def execProtectiveStopRelease (arm : Fin 8) (s : State) : Host.Outcome State Fault Refusal :=
  .next (s.live (fun (d : Dev) =>
    let j := arm.val
    let x := d.safArm j
    let due := match d.owner 0x02 j with | some k => decide (max 1 (d.safCmp k).release ≤ x.clear) | none => false
    if (d.arm j).protective && !x.demandB && due then
      if bit x.flags 0 then d.onArm j (fun (m : Arm) => { m with protective := false })
      else d.onSafArm j (fun (x : SafArm) => { x with waitReset := true })
    else d))

end Sys2Proof.Machine
end

