-- ==== Sys2Proof/Machine/CompEv.lean ====
section
/-! DEFINITION. The yarder's reads, and the end of a block reset (R289, R381, R382). -/

namespace Sys2Proof.Machine

/-! ### The yarder -/

/-- R289: how many records the yarder reads now. -/
def Yard.wants (y : Yard) : Nat :=
  if y.loc = 0 ∧ y.state ≤ 1 then
    min (min (64 - y.fetched) (y.high - y.segs.length)) (min y.left (1024 - y.segs.length))
  else 0

/-- R289, R290: the records read into the SRAM yard, or the yard in error where the read fails. -/
def Arm.fetch (m : Arm) (data : Option Bytes) : Arm :=
  let n := m.yard.wants
  if n = 0 then m
  else
    match data with
    | some p =>
      { m with yard := { m.yard with
          segs := m.yard.segs ++ (List.range n).map (fun (k : Nat) => slice p (160 * k) 160)
          head := (m.yard.head + n) % m.yard.entries, fetched := m.yard.fetched + n, state := 1 } }
    | none => { m with yard := { m.yard with state := 3 }, events := setBit m.events 3 }

/-- `YARD_FETCH` (R289). -/
def execYardFetch (arm : Fin 8) (data : Option Bytes) (s : State) : Host.Outcome State Fault Refusal :=
  .next (s.live (fun (d : Dev) => d.onArm arm.val (fun (m : Arm) => m.fetch data)))

/-! ### Blocks -/

/-- R381: the compartments in which the end of a block reset is an event: the owner's, or those that use the block. -/
def Dev.blockUsers (d : Dev) (b : Nat) : List Nat :=
  let own (cls i : Nat) : List Nat := (d.owner cls i).toList
  if b < 0x10 then own 0x03 b
  else if b < 0x14 then
    (List.range 8).filter (fun (k : Nat) => (d.holds 0x06 k).any (fun (n : Nat) => n / 16 == b - 0x10))
  else if b < 0x18 then own 0x08 (b - 0x14)
  else if b < 0x20 then own 0x0E (b - 0x18)
  else if b < 0x28 then own 0x05 (b - 0x20)
  else if b < 0x30 then own 0x10 (b - 0x28)
  else if b < 0x34 then own 0x0F (b - 0x30)
  else (List.range 8).filter (fun (k : Nat) => (d.comp k).state != 0 && (d.comp k).owner == b - 0x34)

/-- A block's state. -/
def Dev.setBlock (d : Dev) (b x : Nat) : Dev := { d with cps := { d.cps with blocks := d.cps.blocks.set b x } }

/-- `BLOCK_RELEASE` (R381): the wrapper opens. -/
def execBlockRelease (block : Fin 56) (s : State) : Host.Outcome State Fault Refusal :=
  .next (s.live (fun (d : Dev) =>
    let b := block.val
    if d.block b = 0 then d
    else ((d.setBlock b 0).finishHold (fun (h : Hold) => h == .block b) ST.ok 0 [] none).compEvents (d.blockUsers b) 3))

/-- `BLOCK_RESET_TIMEOUT` (R382): the command ends; the block goes on waiting. -/
def execBlockResetTimeout (block : Fin 56) (s : State) : Host.Outcome State Fault Refusal :=
  .next (s.live (fun (d : Dev) =>
    let b := block.val
    if d.block b = 0 then d
    else (d.setBlock b 2).finishHold (fun (h : Hold) => h == .block b) ST.timeout 0 [] none))

end Sys2Proof.Machine
end

