-- ==== Sys2Proof/Machine/PowerEv.lean ====
section
/-! DEFINITION. What happens to the supplies: sag, drawdown, park, resets and the watchdog; and the end of a cruise with the
position check that follows a restore (R260-R262, R463-R484). -/

namespace Sys2Proof.Machine

/-! ### Drawdown -/

/-- R472: the area that does not hold the latest committed set. -/
def Pwr.spare (p : Pwr) : Nat :=
  match p.areas.getD 0 none with
  | some a => if a.gen = p.generation ∧ p.generation ≠ 0 then 1 else 0
  | none => 0

/-- R465: a sag: stages and outputs safe, halt marks; with saving armed the save set is written, else the device parks. -/
def Dev.sag (d : Dev) (vmain vcist : Nat) : Dev :=
  let armed := d.pwr.saveArmed
  let d := d.makeSafe
  let d := (List.range 16).foldl (fun (d : Dev) (n : Nat) => d.haltMark 1 true n) d
  let d := match d.cps.migration with | some m => d.migEnd m ST.abortSag | none => d
  let d := d.onPwr (fun (p : Pwr) => { p.arm false with vmain := vmain, vcist := vcist })
  if armed then
    let s := d.saveSet
    d.onPwr (fun (p : Pwr) => { p with draft := some s, supply := .saving p.spare })
  else
    (d.log 0x03 0xFFFF 0).onPwr (fun (p : Pwr) => { p with lastSave := if p.faultHalt then 4 else 2, supply := .park })

/-- `SAG_DECLARED` (R463-R466). -/
def execSagDeclared (vmain vcist : Nat) (s : State) : Host.Outcome State Fault Refusal :=
  .next (s.live (fun (d : Dev) => if vmain < 10200 ∨ vcist < 11000 then d.sag vmain vcist else d))

/-- R467: the set committed: its record, the pointer of the backup domain, park. -/
def Dev.commitSave (d : Dev) (area us mv : Nat) : Dev :=
  let n := Config.saveBytes d.free % (d.pwr.bound + 1)
  let d := (d.skip 1).log 0x01 0xFFFF n
  d.onPwr (fun (p : Pwr) =>
    match p.draft with
    | some x =>
      let g := p.generation + 1
      { p with
        areas := p.areas.set area (some ⟨g, n, false, x⟩), bkp := { p.bkp with pointer := some (area, g) }, generation := g
        lastUs := us, lastMv := mv, vcist := mv, lastSave := 1, draft := none, source := none, supply := .park }
    | none => p)

/-- `SAVE_COMMIT` (R467): never below 6.7 V. -/
def execSaveCommit (us mv : Nat) (s : State) : Host.Outcome State Fault Refusal :=
  let s := s.fresh
  match s.dev.pwr.supply with
  | .saving a => .next (if 6700 ≤ mv then s.withDev (s.dev.commitSave a us mv) else s)
  | _ => .next s

/-- `SAVE_ABANDON` (R467): the earlier set stays the latest. -/
def execSaveAbandon (s : State) : Host.Outcome State Fault Refusal :=
  let s := s.fresh
  match s.dev.pwr.supply with
  | .saving _ =>
    let d := s.dev.onPwr (fun (p : Pwr) => { p with draft := none, lastSave := 3, supply := .park })
    .next (s.withDev (d.log 0x02 0xFFFF 0))
  | _ => .next s

/-- `SAVE_ARM` (R464). -/
def execSaveArm (mv : Nat) (s : State) : Host.Outcome State Fault Refusal :=
  .next (s.live (fun (d : Dev) =>
    let on := decide (11000 ≤ mv) && !d.pwr.faultHalt && !d.pwr.recovery
    d.onPwr (fun (p : Pwr) => { (if on then p.arm true else p) with vcist := mv })))

/-- `CISTERN_DIP` (R464). -/
def execCisternDip (mv : Nat) (s : State) : Host.Outcome State Fault Refusal :=
  .next (s.live (fun (d : Dev) => d.onPwr (fun (p : Pwr) => { (if mv < 11000 then p.arm false else p) with vcist := mv })))

/-- `VBAT_LOW` (R478). -/
def execVbatLow (mv : Nat) (s : State) : Host.Outcome State Fault Refusal :=
  .next (s.live (fun (d : Dev) => d.onPwr (fun (p : Pwr) =>
    let low := decide (mv < 2200)
    { p with vbat := mv, vbatLow := low, events := if low && !p.vbatLow then setBit p.events 4 else p.events })))

/-! ### Resets -/

/-- `PARK_EXIT` (R468, R469): a `RESET_N` that waited for park acts now. -/
def execParkExit (cause : ParkExit) (start : StartUp) (s : State) : Host.Outcome State Fault Refusal :=
  let s := s.fresh
  match s.dev.pwr.supply with
  | .park => .next (s.start (s.dev.pwr.resetWait || decide (cause = .pin)) start)
  | _ => .next s

/-- `POWER_ON_RESET` (R480). -/
def execPowerOnReset (start : StartUp) (s : State) : Host.Outcome State Fault Refusal := .next (s.fresh.start false start)

/-- `RESET_PIN` (R469, R480): during drawdown it waits until park. -/
def execResetPin (start : StartUp) (s : State) : Host.Outcome State Fault Refusal :=
  let s := s.fresh
  match s.dev.pwr.supply with
  | .saving _ => .next (s.withDev (s.dev.onPwr (fun (p : Pwr) => { p with resetWait := true })))
  | _ => .next (s.start true start)

/-- `FIRMWARE_WATCHDOG_EXPIRY` (R481, R482). -/
def execFirmwareWatchdogExpiry (s : State) : Host.Outcome State Fault Refusal := .next (s.live (fun (d : Dev) => d.faultHalt 0x20 0))

/-- `ECC_ERROR_FIRMWARE` (R482). -/
def execEccErrorFirmware (s : State) : Host.Outcome State Fault Refusal := .next (s.live (fun (d : Dev) => d.faultHalt 0x21 0))

/-! ### The position check -/

/-- R474: the feedback kind that a record declares for an axis of its node. -/
def identFbKind (r : Bytes) (na : Nat) : Nat := match identAxisTag r 0x0012 na with | some o => u8 r (o + 1) | none => 0

/-- R474: an axis counted as failed. -/
def Dev.posFailed (d : Dev) (i : Nat) : Dev :=
  let d := d.onFb i (fun (f : Fb) => { f with referenced := false })
  (d.onPwr (fun (p : Pwr) =>
    { p with posFail := p.posFail + 1, posMask := setBit p.posMask i, events := setBit p.events 2 })).log 0x11 (jObj 0x01 i) 0

/-- R130, R474: the saved position moved by the counts since. -/
def Fb.recount (f : Fb) (k : PosCheck) (now delta : Int) : Fb :=
  let dc := if f.flag 1 then -delta else delta
  { ({ f with pAct := k.p, rem := k.rem } : Fb).feed dc with c := k.c + dc, base := some now }

/-- R474: the check of one axis against the record `r` of its node. -/
def Dev.posCheck (d : Dev) (k : PosCheck) (r : Bytes) : Dev :=
  let a := d.ax k.axis
  if identFbKind r a.node.2.2 = 0 then
    d.onFb k.axis (fun (f : Fb) => { f with referenced := f.referenced && d.pwr.save.keepInc })
  else
    let now : Int := (d.entryOf a).count
    let delta := toS 32 (toU 32 (now - k.count))
    let d := d.onFb k.axis (fun (f : Fb) => f.recount k now delta)
    let d := d.onPwr (fun (p : Pwr) => { p with posChecked := p.posChecked + 1 })
    if delta.natAbs ≤ d.pwr.save.absWindow then d else d.posFailed k.axis

/-- The checks that wait for the node at a position. -/
def Dev.checksOf (d : Dev) (seg pos : Nat) : List PosCheck :=
  d.pwr.checks.filter (fun (k : PosCheck) => let a := d.ax k.axis; a.remote && a.node.1 == seg && a.node.2.1 == pos)

/-- R474: the checks of a position carried out. -/
def Dev.runChecks (d : Dev) (seg pos : Nat) (f : Dev → PosCheck → Dev) : Dev :=
  let l := d.checksOf seg pos
  let d := d.onPwr (fun (p : Pwr) => { p with checks := p.checks.filter (fun (k : PosCheck) => !l.contains k) })
  l.foldl f d

/-! ### The end of a cruise -/

/-- R262: whether a record fits the stroke and the laws bound at its position. -/
def Dev.nodeFits (d : Dev) (seg pos : Nat) (r : Bytes) : Bool :=
  bit (identStrokes r) d.stk.cfg.code &&
    (d.axes.all (fun (a : Axis) => !(a.remote && a.node.1 == seg && a.node.2.1 == pos) || bit (identLaws r) a.cfg.law))

/-- R262: how a record compares: the position's new state, its new reference and the event, if any. -/
def Dev.cruiseVerdict (d : Dev) (seg pos : Nat) (r : Bytes) (ref : Option Bytes) : Nat × Option Bytes × Option Nat :=
  if !identValid r || !d.nodeFits seg pos r then (5, ref, some 6)
  else match ref with
    | none => (4, some r, none)
    | some o =>
      if identCompared o ≠ identCompared r then (5, ref, some 6)
      else if identSerial o ≠ identSerial r then (4, some r, some 5)
      else (4, ref, none)

/-- R256, R262, R474: the cruise of a position ends. -/
def Dev.cruiseEnd (d : Dev) (n p : Nat) : Dev :=
  let x := (d.seg n).node p
  let r := x.record.getD []
  let v := d.cruiseVerdict n p r x.reference
  let joined := x.state == 3 && !x.found && v.1 == 4
  let d := d.onSeg n (fun (s : Seg) =>
    let s := s.onNode p (fun (y : NodePos) => { y with state := v.1, reference := v.2.1, cruising := false, read := false, found := false })
    let ev := match v.2.2 with | some b => setBit s.events b | none => s.events
    { s with events := if joined then setBit ev 2 else ev })
  (d.runChecks n p (fun (d : Dev) (k : PosCheck) => d.posCheck k r)).startCheck n

/-- `CRUISE_END` (R262, R474). -/
def execCruiseEnd (seg : Fin 16) (pos : Fin 8) (s : State) : Host.Outcome State Fault Refusal :=
  .next (s.live (fun (d : Dev) =>
    let x := (d.seg seg.val).node pos.val
    if x.cruising && x.read then d.cruiseEnd seg.val pos.val else d))

/-- `NODE_JOIN_TIMEOUT` (R474): the axes of a node that has not joined count as failed. -/
def execNodeJoinTimeout (seg : Fin 16) (pos : Fin 8) (s : State) : Host.Outcome State Fault Refusal :=
  .next (s.live (fun (d : Dev) =>
    if 3 ≤ ((d.seg seg.val).node pos.val).state then d
    else d.runChecks seg.val pos.val (fun (d : Dev) (k : PosCheck) =>
      (d.onPwr (fun (p : Pwr) => { p with posChecked := p.posChecked + 1 })).posFailed k.axis)))

/-- `STAGE_IDENT_READ_DONE` (R260, R261): a valid record enters the identity cache. -/
def execStageIdentReadDone (stage : Fin 8) (data : Option Bytes) (s : State) : Host.Outcome State Fault Refusal :=
  .next (s.live (fun (d : Dev) =>
    match data with
    | some r => if identValid r then { d with idents := d.idents.set (128 + stage.val) (some r) } else d
    | none => d))

end Sys2Proof.Machine
end

