-- ==== Sys2Proof/Machine/Dispatch.lean ====
section
/-! DEFINITION. One arm per command and event of the opcode table: each arm is one direct call of
the meaning written in the family files beside this one. -/

namespace Sys2Proof.Machine

/-- The effect of one command or event on everything but the queue of waiting ones. -/
def exec (i : Instr) (s : State) : Host.Outcome State Fault Refusal :=
  match i with
  | .stopCat0 c => Sys2Proof.Machine.execStopCat0 c s
  | .stopCat1 c => Sys2Proof.Machine.execStopCat1 c s
  | .stopCat2 c => Sys2Proof.Machine.execStopCat2 c s
  | .feedHold c => Sys2Proof.Machine.execFeedHold c s
  | .halt c => Sys2Proof.Machine.execHalt c s
  | .sessionOpen c => Sys2Proof.Machine.execSessionOpen c s
  | .sessionClose c => Sys2Proof.Machine.execSessionClose c s
  | .ringCreate c => Sys2Proof.Machine.execRingCreate c s
  | .ringDelete c => Sys2Proof.Machine.execRingDelete c s
  | .ringStatsClear c => Sys2Proof.Machine.execRingStatsClear c s
  | .deviceIdentify c => Sys2Proof.Machine.execDeviceIdentify c s
  | .nop c => Sys2Proof.Machine.execNop c s
  | .cmdAbort c => Sys2Proof.Machine.execCmdAbort c s
  | .tagLimits c => Sys2Proof.Machine.execTagLimits c s
  | .stopRelease c => Sys2Proof.Machine.execStopRelease c s
  | .feedResume c => Sys2Proof.Machine.execFeedResume c s
  | .cellOwnerSet c => Sys2Proof.Machine.execCellOwnerSet c s
  | .compartmentCreate c => Sys2Proof.Machine.execCompartmentCreate c s
  | .compartmentDelete c => Sys2Proof.Machine.execCompartmentDelete c s
  | .resourceAssign c => Sys2Proof.Machine.execResourceAssign c s
  | .resourceRelease c => Sys2Proof.Machine.execResourceRelease c s
  | .rightsSet c => Sys2Proof.Machine.execRightsSet c s
  | .compartmentQuery c => Sys2Proof.Machine.execCompartmentQuery c s
  | .blockReset c => Sys2Proof.Machine.execBlockReset c s
  | .blockQuery c => Sys2Proof.Machine.execBlockQuery c s
  | .compartmentEventAck c => Sys2Proof.Machine.execCompartmentEventAck c s
  | .strokeConfigure c => Sys2Proof.Machine.execStrokeConfigure c s
  | .strokeQuery c => Sys2Proof.Machine.execStrokeQuery c s
  | .strokeLock c => Sys2Proof.Machine.execStrokeLock c s
  | .budgetQuery c => Sys2Proof.Machine.execBudgetQuery c s
  | .budgetTrial c => Sys2Proof.Machine.execBudgetTrial c s
  | .strokeCountersClear c => Sys2Proof.Machine.execStrokeCountersClear c s
  | .hookLoad c => Sys2Proof.Machine.execHookLoad c s
  | .hookRemove c => Sys2Proof.Machine.execHookRemove c s
  | .hookQuery c => Sys2Proof.Machine.execHookQuery c s
  | .hookUserSet c => Sys2Proof.Machine.execHookUserSet c s
  | .axisConfigure c => Sys2Proof.Machine.execAxisConfigure c s
  | .axisEnable c => Sys2Proof.Machine.execAxisEnable c s
  | .axisLimits c => Sys2Proof.Machine.execAxisLimits c s
  | .coefWrite c => Sys2Proof.Machine.execCoefWrite c s
  | .coefRead c => Sys2Proof.Machine.execCoefRead c s
  | .bankSwap c => Sys2Proof.Machine.execBankSwap c s
  | .axisMode c => Sys2Proof.Machine.execAxisMode c s
  | .axisManualSet c => Sys2Proof.Machine.execAxisManualSet c s
  | .faultClear c => Sys2Proof.Machine.execFaultClear c s
  | .injectStart c => Sys2Proof.Machine.execInjectStart c s
  | .injectStop c => Sys2Proof.Machine.execInjectStop c s
  | .axisFlagsClear c => Sys2Proof.Machine.execAxisFlagsClear c s
  | .axisEventAck c => Sys2Proof.Machine.execAxisEventAck c s
  | .fbConfigure c => Sys2Proof.Machine.execFbConfigure c s
  | .fbLimits c => Sys2Proof.Machine.execFbLimits c s
  | .fbPositionSet c => Sys2Proof.Machine.execFbPositionSet c s
  | .scConfigure c => Sys2Proof.Machine.execScConfigure c s
  | .scCalWrite c => Sys2Proof.Machine.execScCalWrite c s
  | .eoConfigure c => Sys2Proof.Machine.execEoConfigure c s
  | .eoEnable c => Sys2Proof.Machine.execEoEnable c s
  | .fbEventAck c => Sys2Proof.Machine.execFbEventAck c s
  | .fbFlagsClear c => Sys2Proof.Machine.execFbFlagsClear c s
  | .move c => Sys2Proof.Machine.execMove c s
  | .moveModify c => Sys2Proof.Machine.execMoveModify c s
  | .vmConfigure c => Sys2Proof.Machine.execVmConfigure c s
  | .gearEngage c => Sys2Proof.Machine.execGearEngage c s
  | .gearRatio c => Sys2Proof.Machine.execGearRatio c s
  | .relationPhase c => Sys2Proof.Machine.execRelationPhase c s
  | .disengage c => Sys2Proof.Machine.execDisengage c s
  | .camCreate c => Sys2Proof.Machine.execCamCreate c s
  | .camWrite c => Sys2Proof.Machine.execCamWrite c s
  | .camCommit c => Sys2Proof.Machine.execCamCommit c s
  | .camDelete c => Sys2Proof.Machine.execCamDelete c s
  | .camEngage c => Sys2Proof.Machine.execCamEngage c s
  | .camNext c => Sys2Proof.Machine.execCamNext c s
  | .latchArm c => Sys2Proof.Machine.execLatchArm c s
  | .latchDisarm c => Sys2Proof.Machine.execLatchDisarm c s
  | .stepConfigure c => Sys2Proof.Machine.execStepConfigure c s
  | .stepdirConfigure c => Sys2Proof.Machine.execStepdirConfigure c s
  | .homeStall c => Sys2Proof.Machine.execHomeStall c s
  | .pfEventAck c => Sys2Proof.Machine.execPfEventAck c s
  | .pfFlagsClear c => Sys2Proof.Machine.execPfFlagsClear c s
  | .stageConfigure c => Sys2Proof.Machine.execStageConfigure c s
  | .stageEnable c => Sys2Proof.Machine.execStageEnable c s
  | .pwmSet c => Sys2Proof.Machine.execPwmSet c s
  | .pwmCompareSet c => Sys2Proof.Machine.execPwmCompareSet c s
  | .pwmPeriodSet c => Sys2Proof.Machine.execPwmPeriodSet c s
  | .pwmLock c => Sys2Proof.Machine.execPwmLock c s
  | .pwmEventConfigure c => Sys2Proof.Machine.execPwmEventConfigure c s
  | .stageFaultClear c => Sys2Proof.Machine.execStageFaultClear c s
  | .stageEventAck c => Sys2Proof.Machine.execStageEventAck c s
  | .stageFlagsClear c => Sys2Proof.Machine.execStageFlagsClear c s
  | .segmentConfigure c => Sys2Proof.Machine.execSegmentConfigure c s
  | .segmentStart c => Sys2Proof.Machine.execSegmentStart c s
  | .segmentStop c => Sys2Proof.Machine.execSegmentStop c s
  | .nodeRead c => Sys2Proof.Machine.execNodeRead c s
  | .nodeWrite c => Sys2Proof.Machine.execNodeWrite c s
  | .nodeAction c => Sys2Proof.Machine.execNodeAction c s
  | .nodeAccept c => Sys2Proof.Machine.execNodeAccept c s
  | .segmentEventAck c => Sys2Proof.Machine.execSegmentEventAck c s
  | .scheduleWrite c => Sys2Proof.Machine.execScheduleWrite c s
  | .scheduleRead c => Sys2Proof.Machine.execScheduleRead c s
  | .busCountersRead c => Sys2Proof.Machine.execBusCountersRead c s
  | .busCountersClear c => Sys2Proof.Machine.execBusCountersClear c s
  | .armConfigure c => Sys2Proof.Machine.execArmConfigure c s
  | .armCapsules c => Sys2Proof.Machine.execArmCapsules c s
  | .armTools c => Sys2Proof.Machine.execArmTools c s
  | .armStopModel c => Sys2Proof.Machine.execArmStopModel c s
  | .armEnable c => Sys2Proof.Machine.execArmEnable c s
  | .yardConfigure c => Sys2Proof.Machine.execYardConfigure c s
  | .yardAppend c => Sys2Proof.Machine.execYardAppend c s
  | .armPathReset c => Sys2Proof.Machine.execArmPathReset c s
  | .armOverride c => Sys2Proof.Machine.execArmOverride c s
  | .armPayload c => Sys2Proof.Machine.execArmPayload c s
  | .zoneDefine c => Sys2Proof.Machine.execZoneDefine c s
  | .zoneClaim c => Sys2Proof.Machine.execZoneClaim c s
  | .zoneRelease c => Sys2Proof.Machine.execZoneRelease c s
  | .zoneForceRelease c => Sys2Proof.Machine.execZoneForceRelease c s
  | .armFaultClear c => Sys2Proof.Machine.execArmFaultClear c s
  | .armEventAck c => Sys2Proof.Machine.execArmEventAck c s
  | .armFlagsClear c => Sys2Proof.Machine.execArmFlagsClear c s
  | .armQuery c => Sys2Proof.Machine.execArmQuery c s
  | .safetyAxisConfigure c => Sys2Proof.Machine.execSafetyAxisConfigure c s
  | .safetyArmConfigure c => Sys2Proof.Machine.execSafetyArmConfigure c s
  | .safetyInputConfigure c => Sys2Proof.Machine.execSafetyInputConfigure c s
  | .safetyOutputConfigure c => Sys2Proof.Machine.execSafetyOutputConfigure c s
  | .safetyCompartmentConfigure c => Sys2Proof.Machine.execSafetyCompartmentConfigure c s
  | .safetyCommit c => Sys2Proof.Machine.execSafetyCommit c s
  | .safetyQuery c => Sys2Proof.Machine.execSafetyQuery c s
  | .safetyMessage c => Sys2Proof.Machine.execSafetyMessage c s
  | .safetyEventAck c => Sys2Proof.Machine.execSafetyEventAck c s
  | .trigConfigure c => Sys2Proof.Machine.execTrigConfigure c s
  | .trigEnable c => Sys2Proof.Machine.execTrigEnable c s
  | .trigQuery c => Sys2Proof.Machine.execTrigQuery c s
  | .trigioConfigure c => Sys2Proof.Machine.execTrigioConfigure c s
  | .capConfigure c => Sys2Proof.Machine.execCapConfigure c s
  | .capArm c => Sys2Proof.Machine.execCapArm c s
  | .capStop c => Sys2Proof.Machine.execCapStop c s
  | .capRead c => Sys2Proof.Machine.execCapRead c s
  | .landingConfigure c => Sys2Proof.Machine.execLandingConfigure c s
  | .flumeRingConfigure c => Sys2Proof.Machine.execFlumeRingConfigure c s
  | .regConfigure c => Sys2Proof.Machine.execRegConfigure c s
  | .regEnable c => Sys2Proof.Machine.execRegEnable c s
  | .capEventAck c => Sys2Proof.Machine.execCapEventAck c s
  | .regEventAck c => Sys2Proof.Machine.execRegEventAck c s
  | .capCountersClear c => Sys2Proof.Machine.execCapCountersClear c s
  | .diConfigure c => Sys2Proof.Machine.execDiConfigure c s
  | .diTest c => Sys2Proof.Machine.execDiTest c s
  | .fieldSupplyConfigure c => Sys2Proof.Machine.execFieldSupplyConfigure c s
  | .doConfigure c => Sys2Proof.Machine.execDoConfigure c s
  | .doSet c => Sys2Proof.Machine.execDoSet c s
  | .doFaultClear c => Sys2Proof.Machine.execDoFaultClear c s
  | .ioEventAck c => Sys2Proof.Machine.execIoEventAck c s
  | .ioFlagsClear c => Sys2Proof.Machine.execIoFlagsClear c s
  | .canConfigure c => Sys2Proof.Machine.execCanConfigure c s
  | .canFilterSet c => Sys2Proof.Machine.execCanFilterSet c s
  | .canStart c => Sys2Proof.Machine.execCanStart c s
  | .canStop c => Sys2Proof.Machine.execCanStop c s
  | .canTx c => Sys2Proof.Machine.execCanTx c s
  | .canTxAbort c => Sys2Proof.Machine.execCanTxAbort c s
  | .canFifoRead c => Sys2Proof.Machine.execCanFifoRead c s
  | .canRecover c => Sys2Proof.Machine.execCanRecover c s
  | .canEventAck c => Sys2Proof.Machine.execCanEventAck c s
  | .canCountersClear c => Sys2Proof.Machine.execCanCountersClear c s
  | .clockSet c => Sys2Proof.Machine.execClockSet c s
  | .clockStep c => Sys2Proof.Machine.execClockStep c s
  | .clockRateSet c => Sys2Proof.Machine.execClockRateSet c s
  | .clockRead c => Sys2Proof.Machine.execClockRead c s
  | .ptpConfigure c => Sys2Proof.Machine.execPtpConfigure c s
  | .ptpPhyLatency c => Sys2Proof.Machine.execPtpPhyLatency c s
  | .cmpArm c => Sys2Proof.Machine.execCmpArm c s
  | .cmpDisarm c => Sys2Proof.Machine.execCmpDisarm c s
  | .crcConfigure c => Sys2Proof.Machine.execCrcConfigure c s
  | .crcEnable c => Sys2Proof.Machine.execCrcEnable c s
  | .crcRead c => Sys2Proof.Machine.execCrcRead c s
  | .crcCountersClear c => Sys2Proof.Machine.execCrcCountersClear c s
  | .timeEventAck c => Sys2Proof.Machine.execTimeEventAck c s
  | .saveConfigure c => Sys2Proof.Machine.execSaveConfigure c s
  | .backupRead c => Sys2Proof.Machine.execBackupRead c s
  | .backupWrite c => Sys2Proof.Machine.execBackupWrite c s
  | .optionsWrite c => Sys2Proof.Machine.execOptionsWrite c s
  | .optionsRead c => Sys2Proof.Machine.execOptionsRead c s
  | .journalRead c => Sys2Proof.Machine.execJournalRead c s
  | .pwrEventAck c => Sys2Proof.Machine.execPwrEventAck c s
  | .resetCountersClear c => Sys2Proof.Machine.execResetCountersClear c s
  | .evRouteSet c => Sys2Proof.Machine.execEvRouteSet c s
  | .evCoalesceSet c => Sys2Proof.Machine.execEvCoalesceSet c s
  | .evVectorPark c => Sys2Proof.Machine.execEvVectorPark c s
  | .evQuery c => Sys2Proof.Machine.execEvQuery c s
  | .evAck c => Sys2Proof.Machine.execEvAck c s
  | .portConfigure c => Sys2Proof.Machine.execPortConfigure c s
  | .h2Configure c => Sys2Proof.Machine.execH2Configure c s
  | .outlookStreamSet c => Sys2Proof.Machine.execOutlookStreamSet c s
  | .fwStageOpen c => Sys2Proof.Machine.execFwStageOpen c s
  | .fwStageWrite c => Sys2Proof.Machine.execFwStageWrite c s
  | .fwStageClose c => Sys2Proof.Machine.execFwStageClose c s
  | .fwMigrate c => Sys2Proof.Machine.execFwMigrate c s
  | .fwActivate c => Sys2Proof.Machine.execFwActivate c s
  | .fwDiscard c => Sys2Proof.Machine.execFwDiscard c s
  | .fwStatus c => Sys2Proof.Machine.execFwStatus c s
  | .hcCtlCreate p => Sys2Proof.Machine.execHcCtlCreate p s
  | .hcCtlDelete p => Sys2Proof.Machine.execHcCtlDelete p s
  | .hcSqDb p ring tail => Sys2Proof.Machine.execHcSqDb p ring tail s
  | .hcCqDb p ring head => Sys2Proof.Machine.execHcCqDb p ring head s
  | .hcYardDb p arm tail => Sys2Proof.Machine.execHcYardDb p arm tail s
  | .hcFlumeDb p eng ring head => Sys2Proof.Machine.execHcFlumeDb p eng ring head s
  | .hcEvClaim p => Sys2Proof.Machine.execHcEvClaim p s
  | .hcEvComplete p source => Sys2Proof.Machine.execHcEvComplete p source s
  | .hcEvAck p source mask => Sys2Proof.Machine.execHcEvAck p source mask s
  | .hcIrqVecClear hi mask => Sys2Proof.Machine.execHcIrqVecClear hi mask s
  | .registerWrite p addr value => Sys2Proof.Machine.execRegisterWrite p addr value s
  | .msixGateOpen p w => Sys2Proof.Machine.execMsixGateOpen p w s
  | .h2Setup source dgram => Sys2Proof.Machine.execH2Setup source dgram s
  | .h2Command source dgram => Sys2Proof.Machine.execH2Command source dgram s
  | .h2CqAck source dgram => Sys2Proof.Machine.execH2CqAck source dgram s
  | .h2Keepalive source dgram => Sys2Proof.Machine.execH2Keepalive source dgram s
  | .h2RetransmitTimeout ring => Sys2Proof.Machine.execH2RetransmitTimeout ring s
  | .h2EventRepeat vec => Sys2Proof.Machine.execH2EventRepeat vec s
  | .h2SessionTimeout => Sys2Proof.Machine.execH2SessionTimeout s
  | .h3Write bytes whole => Sys2Proof.Machine.execH3Write bytes whole s
  | .h3Read bytes sent => Sys2Proof.Machine.execH3Read bytes sent s
  | .h3Status bytes => Sys2Proof.Machine.execH3Status bytes s
  | .h3SessionTimeout => Sys2Proof.Machine.execH3SessionTimeout s
  | .perst p => Sys2Proof.Machine.execPerst p s
  | .functionLevelReset p => Sys2Proof.Machine.execFunctionLevelReset p s
  | .linkDown p => Sys2Proof.Machine.execLinkDown p s
  | .linkReturn p => Sys2Proof.Machine.execLinkReturn p s
  | .linkLossTimeout p => Sys2Proof.Machine.execLinkLossTimeout p s
  | .powerStateChange p d3 => Sys2Proof.Machine.execPowerStateChange p d3 s
  | .ringScan dma => Sys2Proof.Machine.execRingScan dma s
  | .byRefPayloadRead ring data => Sys2Proof.Machine.execByRefPayloadRead ring data s
  | .fenceClear ring => Sys2Proof.Machine.execFenceClear ring s
  | .completionPost ring => Sys2Proof.Machine.execCompletionPost ring s
  | .strokeBoundary => Sys2Proof.Machine.execStrokeBoundary s
  | .liftLatchPoint => Sys2Proof.Machine.execLiftLatchPoint s
  | .liftComplete seg => Sys2Proof.Machine.execLiftComplete seg s
  | .dischargeStart => Sys2Proof.Machine.execDischargeStart s
  | .slackStart => Sys2Proof.Machine.execSlackStart s
  | .suctionFrame seg dt symOk frame => Sys2Proof.Machine.execSuctionFrame seg dt symOk frame s
  | .suctionSlotClose seg pos => Sys2Proof.Machine.execSuctionSlotClose seg pos s
  | .staleAgeFault axis => Sys2Proof.Machine.execStaleAgeFault axis s
  | .echoRsp seg trip symOk frame => Sys2Proof.Machine.execEchoRsp seg trip symOk frame s
  | .echoTimeout seg => Sys2Proof.Machine.execEchoTimeout seg s
  | .replyFrame seg symOk frame => Sys2Proof.Machine.execReplyFrame seg symOk frame s
  | .pollNoReply seg => Sys2Proof.Machine.execPollNoReply seg s
  | .listenEnd seg => Sys2Proof.Machine.execListenEnd seg s
  | .listenTraffic seg => Sys2Proof.Machine.execListenTraffic seg s
  | .backoffEnd seg => Sys2Proof.Machine.execBackoffEnd seg s
  | .startingEnd seg => Sys2Proof.Machine.execStartingEnd seg s
  | .nodeLost seg pos => Sys2Proof.Machine.execNodeLost seg pos s
  | .cruiseEnd seg pos => Sys2Proof.Machine.execCruiseEnd seg pos s
  | .nodeJoinTimeout seg pos => Sys2Proof.Machine.execNodeJoinTimeout seg pos s
  | .segmentBusErrors seg => Sys2Proof.Machine.execSegmentBusErrors seg s
  | .feCountExpiry axis => Sys2Proof.Machine.execFeCountExpiry axis s
  | .standstillReached axis => Sys2Proof.Machine.execStandstillReached axis s
  | .qsTimeout axis => Sys2Proof.Machine.execQsTimeout axis s
  | .manualTimeout axis => Sys2Proof.Machine.execManualTimeout axis s
  | .injectEnd axis => Sys2Proof.Machine.execInjectEnd axis s
  | .rampEnd axis => Sys2Proof.Machine.execRampEnd axis s
  | .scSample ch sine cosine mark ns => Sys2Proof.Machine.execScSample ch sine cosine mark ns s
  | .quadEdge axis a b second ns => Sys2Proof.Machine.execQuadEdge axis a b second ns s
  | .quadIndex axis ns => Sys2Proof.Machine.execQuadIndex axis ns s
  | .hallEdge axis state ns => Sys2Proof.Machine.execHallEdge axis state ns s
  | .hallInterpTimeout axis => Sys2Proof.Machine.execHallInterpTimeout axis s
  | .stepEdge pin up ns => Sys2Proof.Machine.execStepEdge pin up ns s
  | .pwmPeriodBoundary stage ns => Sys2Proof.Machine.execPwmPeriodBoundary stage ns s
  | .pwmCenter stage codes volts => Sys2Proof.Machine.execPwmCenter stage codes volts s
  | .bootstrapRefresh stage hb => Sys2Proof.Machine.execBootstrapRefresh stage hb s
  | .tripInput global stage asserted => Sys2Proof.Machine.execTripInput global stage asserted s
  | .vdsDetection stage hb high => Sys2Proof.Machine.execVdsDetection stage hb high s
  | .hsSupplyUv stage hb => Sys2Proof.Machine.execHsSupplyUv stage hb s
  | .hsSupplyRecover stage hb => Sys2Proof.Machine.execHsSupplyRecover stage hb s
  | .prechargeEnd stage => Sys2Proof.Machine.execPrechargeEnd stage s
  | .stageOffsetDone stage offsets => Sys2Proof.Machine.execStageOffsetDone stage offsets s
  | .stoInputLow sideB => Sys2Proof.Machine.execStoInputLow sideB s
  | .stoSwitchClose stage => Sys2Proof.Machine.execStoSwitchClose stage s
  | .vgateUv => Sys2Proof.Machine.execVgateUv s
  | .vgateRecover => Sys2Proof.Machine.execVgateRecover s
  | .triggerInput unit value ns => Sys2Proof.Machine.execTriggerInput unit value ns s
  | .triggerTimeout unit ns => Sys2Proof.Machine.execTriggerTimeout unit ns s
  | .trigioPulseEnd pin ns => Sys2Proof.Machine.execTrigioPulseEnd pin ns s
  | .capPostDone ch => Sys2Proof.Machine.execCapPostDone ch s
  | .measWindowEnd ch => Sys2Proof.Machine.execMeasWindowEnd ch s
  | .flumeBlockFlush ch ns => Sys2Proof.Machine.execFlumeBlockFlush ch ns s
  | .flumeBlockCopy eng ring => Sys2Proof.Machine.execFlumeBlockCopy eng ring s
  | .flumeRingError eng ring => Sys2Proof.Machine.execFlumeRingError eng ring s
  | .diEdgeAccepted di level ns => Sys2Proof.Machine.execDiEdgeAccepted di level ns s
  | .fieldDipBegin mv => Sys2Proof.Machine.execFieldDipBegin mv s
  | .fieldDipEnd mv => Sys2Proof.Machine.execFieldDipEnd mv s
  | .fieldSupplyGood mv => Sys2Proof.Machine.execFieldSupplyGood mv s
  | .doOverload n => Sys2Proof.Machine.execDoOverload n s
  | .doOverloadRetry n => Sys2Proof.Machine.execDoOverloadRetry n s
  | .doOpenWire n present vdo => Sys2Proof.Machine.execDoOpenWire n present vdo s
  | .doOvertemp n hot => Sys2Proof.Machine.execDoOvertemp n hot s
  | .canRxFrame ch id flags dlc data ns => Sys2Proof.Machine.execCanRxFrame ch id flags dlc data ns s
  | .canTxDone ch res dataPhase ns delay => Sys2Proof.Machine.execCanTxDone ch res dataPhase ns delay s
  | .canBusOff ch => Sys2Proof.Machine.execCanBusOff ch s
  | .canRecoveryDone ch => Sys2Proof.Machine.execCanRecoveryDone ch s
  | .cmpFire unit ns => Sys2Proof.Machine.execCmpFire unit ns s
  | .ptpMessageRx kind twoStep seq ns => Sys2Proof.Machine.execPtpMessageRx kind twoStep seq ns s
  | .ptpMessageTx kind => Sys2Proof.Machine.execPtpMessageTx kind s
  | .ptpTxTimestamp kind seq ns => Sys2Proof.Machine.execPtpTxTimestamp kind seq ns s
  | .ptpMasterLoss => Sys2Proof.Machine.execPtpMasterLoss s
  | .crcDataUnit unit data => Sys2Proof.Machine.execCrcDataUnit unit data s
  | .crcTimeout unit => Sys2Proof.Machine.execCrcTimeout unit s
  | .safetyInputChange input c1 c2 => Sys2Proof.Machine.execSafetyInputChange input c1 c2 s
  | .safetyInputDiscrepancy input => Sys2Proof.Machine.execSafetyInputDiscrepancy input s
  | .resetPulseEnd input ms => Sys2Proof.Machine.execResetPulseEnd input ms s
  | .resetStuck input => Sys2Proof.Machine.execResetStuck input s
  | .positionDiscrepancy axis => Sys2Proof.Machine.execPositionDiscrepancy axis s
  | .safetyOutputReadbackFault out => Sys2Proof.Machine.execSafetyOutputReadbackFault out s
  | .stoSwitchReadbackFault stage => Sys2Proof.Machine.execStoSwitchReadbackFault stage s
  | .unansweredDemand axis => Sys2Proof.Machine.execUnansweredDemand axis s
  | .ss1Expiry isArm n => Sys2Proof.Machine.execSs1Expiry isArm n s
  | .safetyWatchdogExpiry comp => Sys2Proof.Machine.execSafetyWatchdogExpiry comp s
  | .protectiveStopRelease arm => Sys2Proof.Machine.execProtectiveStopRelease arm s
  | .yardFetch arm data => Sys2Proof.Machine.execYardFetch arm data s
  | .evCoalesceTimer p vec => Sys2Proof.Machine.execEvCoalesceTimer p vec s
  | .eventPending source => Sys2Proof.Machine.execEventPending source s
  | .blockRelease block => Sys2Proof.Machine.execBlockRelease block s
  | .blockResetTimeout block => Sys2Proof.Machine.execBlockResetTimeout block s
  | .migrationQuiesceTimeout => Sys2Proof.Machine.execMigrationQuiesceTimeout s
  | .sagDeclared vmain vcist => Sys2Proof.Machine.execSagDeclared vmain vcist s
  | .saveCommit us mv => Sys2Proof.Machine.execSaveCommit us mv s
  | .saveAbandon => Sys2Proof.Machine.execSaveAbandon s
  | .saveArm mv => Sys2Proof.Machine.execSaveArm mv s
  | .parkExit cause start => Sys2Proof.Machine.execParkExit cause start s
  | .powerOnReset start => Sys2Proof.Machine.execPowerOnReset start s
  | .resetPin start => Sys2Proof.Machine.execResetPin start s
  | .firmwareWatchdogExpiry => Sys2Proof.Machine.execFirmwareWatchdogExpiry s
  | .eccErrorFirmware => Sys2Proof.Machine.execEccErrorFirmware s
  | .vbatLow mv => Sys2Proof.Machine.execVbatLow mv s
  | .pcieLinkUp p speed width => Sys2Proof.Machine.execPcieLinkUp p speed width s
  | .h2PcsLinkChange up speed => Sys2Proof.Machine.execH2PcsLinkChange up speed s
  | .canErrorDetected ch kind dataPhase dominant => Sys2Proof.Machine.execCanErrorDetected ch kind dataPhase dominant s
  | .cisternDip mv => Sys2Proof.Machine.execCisternDip mv s
  | .stageIdentReadDone stage data => Sys2Proof.Machine.execStageIdentReadDone stage data s
  | .trigioInputEdge pin level ns => Sys2Proof.Machine.execTrigioInputEdge pin level ns s
  | .markInputSample input code ns => Sys2Proof.Machine.execMarkInputSample input code ns s
  | .doOverloadCleared n => Sys2Proof.Machine.execDoOverloadCleared n s

end Sys2Proof.Machine
end

