-- ==== Sys2Proof/Safety.lean ====
section
/-! DEFINITION. What counts as a good state of the block and a safe step, and the words in which statements speak of a
command packet: accepted, refused, and the state each leaves. -/

namespace Sys2Proof.Machine

/-- The ring-area memory is in its canonical form. -/
def State.memOk (s : State) : Prop := Memory.wf s.mem = true

/-- A step is safe where it answers a next state: no fault, no refusal. -/
def safeStep (s : State) : Prop := ∃ t, step s = .next t

/-- The state after `n` steps, where every one answers a next state. -/
def stepN : Nat → State → Option State
  | 0, s => some s
  | n + 1, s => match step s with
    | .next t => stepN n t
    | _ => none

/-- R39: the packet stands on a ring of its port that the device fetches from, and passes every check. -/
def State.accepts (s : State) (sp : Spec) (c : Cmd) : Bool :=
  s.fresh.dev.carries c && (s.fresh.dev.judge sp c).isNone

/-- R44, R52: the state after a command that has taken effect: it has finished or runs on, and its ring expects the
next sequence number. -/
def State.after (s : State) (sp : Spec) (c : Cmd) (e : Eff) : State :=
  s.fresh.withDev (((e.finish c sp.op .none (s.fresh.dev.effStroke sp c)).expect c).consume)

/-- R38, R44, R46: the state after a command that failed a check: its completion waits, with the stroke in which that was
decided, and its ring expects the next sequence number. -/
def State.refused (s : State) (sp : Spec) (c : Cmd) (status detail : Nat) : State :=
  s.fresh.withDev (((s.fresh.dev.post c sp.op .none status detail [] s.dev.stk.number none).expect c).consume)

/-- The state after a step of the device that changes the device by `f` and sends only what `f` sends. -/
def State.does (s : State) (f : Dev → Dev) : State := s.fresh.withDev (f s.fresh.dev)

/-- The row `f` of the table completes with the effect of `sp` on every packet that the device accepts. -/
def Completes (f : Cmd → Instr) (sp : Spec) : Prop :=
  ∀ (s : State) (c : Cmd), s.accepts sp c = true → exec (f c) s = .next (s.after sp c (sp.carry c s.fresh.dev))

/-- R44, R46, R472: what every packet may change beside its own part: the rings, the commands in flight and the count of
packets taken, and the use of the restored configuration set. What was sent in the step before is gone. -/
def Dev.booked (d e : Dev) : Dev :=
  { d with
    sent := [], nov := { d.nov with rings := e.nov.rings, flights := e.nov.flights, taken := e.nov.taken }
    pwr := { d.pwr with areas := e.pwr.areas, source := e.pwr.source } }

/-- The frame of a row: beside what every packet may change, only the part that `part` takes from the next state. -/
def Frame (part : Dev → Dev → Dev) (i : Instr) : Prop :=
  ∀ s t : State, exec i s = .next t →
    t.mem = s.mem ∧ t.shown = s.shown ∧ t.pending = s.pending ∧ t.dev = part (s.dev.booked t.dev) t.dev

/-- Of a list of like things a row changes entry `n` alone. -/
def OnlyEntry {α : Type} (get : Dev → List α) (n : Nat) (i : Instr) : Prop :=
  ∀ (s t : State) (k : Nat), exec i s = .next t → k ≠ n → (get t.dev)[k]? = (get s.dev)[k]?

/-- A step of the device that the row carries out in full: it changes the device by `f`. -/
def Gives (s : State) (i : Instr) (f : Dev → Dev) : Prop := exec i s = .next (s.does f)

/-- A step of the control space that the row carries out in full. -/
def GivesCtl (s : State) (i : Instr) (f : State → State) : Prop := exec i s = .next (f s.fresh)

/-- The row `f` completes on every packet that the device accepts, and leaves `get` of the device as `val` says. -/
def Sets {α : Type} (f : Cmd → Instr) (sp : Spec) (get : Dev → α) (val : Cmd → Dev → α) : Prop :=
  ∀ (s : State) (c : Cmd), s.accepts sp c = true → ∃ t, exec (f c) s = .next t ∧ get t.dev = val c s.dev

/-- The row `f` completes on every packet that the device accepts with a reply: its completion waits with `ST_OK` and the
result bytes that `val` says. -/
def Replies (f : Cmd → Instr) (sp : Spec) (val : Cmd → Dev → Bytes) : Prop :=
  ∀ (s : State) (c : Cmd), s.accepts sp c = true → ∃ (t : State) (fl : Flight), exec (f c) s = .next t ∧
    t.dev.nov.flights = s.dev.nov.flights ++ [fl] ∧ fl.cmd = c ∧ fl.op = sp.op ∧ fl.stage = .post ∧ fl.status = ST.ok ∧
    fl.result = val c s.dev

/-- The command packet of a row: what the spec says of its opcode, and the packet. None for the rows that are events. -/
def rowPacket : Instr → Option (Spec × Cmd)
  | .stopCat0 c => some (specStopCat0, c)
  | .stopCat1 c => some (specStopCat1, c)
  | .stopCat2 c => some (specStopCat2, c)
  | .feedHold c => some (specFeedHold, c)
  | .halt c => some (specHalt, c)
  | .sessionOpen c => some (specSessionOpen, c)
  | .sessionClose c => some (specSessionClose, c)
  | .ringCreate c => some (specRingCreate, c)
  | .ringDelete c => some (specRingDelete, c)
  | .ringStatsClear c => some (specRingStatsClear, c)
  | .deviceIdentify c => some (specDeviceIdentify, c)
  | .nop c => some (specNop, c)
  | .cmdAbort c => some (specCmdAbort, c)
  | .tagLimits c => some (specTagLimits, c)
  | .stopRelease c => some (specStopRelease, c)
  | .feedResume c => some (specFeedResume, c)
  | .cellOwnerSet c => some (specCellOwnerSet, c)
  | .compartmentCreate c => some (specCompartmentCreate, c)
  | .compartmentDelete c => some (specCompartmentDelete, c)
  | .resourceAssign c => some (specResourceAssign, c)
  | .resourceRelease c => some (specResourceRelease, c)
  | .rightsSet c => some (specRightsSet, c)
  | .compartmentQuery c => some (specCompartmentQuery, c)
  | .blockReset c => some (specBlockReset, c)
  | .blockQuery c => some (specBlockQuery, c)
  | .compartmentEventAck c => some (specCompartmentEventAck, c)
  | .fwStageOpen c => some (specFwStageOpen, c)
  | .fwStageWrite c => some (specFwStageWrite, c)
  | .fwStageClose c => some (specFwStageClose, c)
  | .fwMigrate c => some (specFwMigrate, c)
  | .fwActivate c => some (specFwActivate, c)
  | .fwDiscard c => some (specFwDiscard, c)
  | .fwStatus c => some (specFwStatus, c)
  | .strokeConfigure c => some (specStrokeConfigure, c)
  | .strokeQuery c => some (specStrokeQuery, c)
  | .strokeLock c => some (specStrokeLock, c)
  | .budgetQuery c => some (specBudgetQuery, c)
  | .strokeCountersClear c => some (specStrokeCountersClear, c)
  | .budgetTrial c => some (specBudgetTrial, c)
  | .hookLoad c => some (specHookLoad, c)
  | .hookRemove c => some (specHookRemove, c)
  | .hookQuery c => some (specHookQuery, c)
  | .hookUserSet c => some (specHookUserSet, c)
  | .axisConfigure c => some (specAxisConfigure, c)
  | .axisEnable c => some (specAxisEnable, c)
  | .axisLimits c => some (specAxisLimits, c)
  | .coefWrite c => some (specCoefWrite, c)
  | .coefRead c => some (specCoefRead, c)
  | .bankSwap c => some (specBankSwap, c)
  | .axisMode c => some (specAxisMode, c)
  | .axisManualSet c => some (specAxisManualSet, c)
  | .faultClear c => some (specFaultClear, c)
  | .injectStart c => some (specInjectStart, c)
  | .injectStop c => some (specInjectStop, c)
  | .axisFlagsClear c => some (specAxisFlagsClear, c)
  | .axisEventAck c => some (specAxisEventAck, c)
  | .fbConfigure c => some (specFbConfigure, c)
  | .fbLimits c => some (specFbLimits, c)
  | .fbPositionSet c => some (specFbPositionSet, c)
  | .scConfigure c => some (specScConfigure, c)
  | .scCalWrite c => some (specScCalWrite, c)
  | .eoConfigure c => some (specEoConfigure, c)
  | .eoEnable c => some (specEoEnable, c)
  | .fbEventAck c => some (specFbEventAck, c)
  | .fbFlagsClear c => some (specFbFlagsClear, c)
  | .move c => some (specMove, c)
  | .moveModify c => some (specMoveModify, c)
  | .vmConfigure c => some (specVmConfigure, c)
  | .gearEngage c => some (specGearEngage, c)
  | .gearRatio c => some (specGearRatio, c)
  | .relationPhase c => some (specRelationPhase, c)
  | .disengage c => some (specDisengage, c)
  | .camCreate c => some (specCamCreate, c)
  | .camWrite c => some (specCamWrite, c)
  | .camCommit c => some (specCamCommit, c)
  | .camDelete c => some (specCamDelete, c)
  | .camEngage c => some (specCamEngage, c)
  | .camNext c => some (specCamNext, c)
  | .latchArm c => some (specLatchArm, c)
  | .latchDisarm c => some (specLatchDisarm, c)
  | .stepConfigure c => some (specStepConfigure, c)
  | .stepdirConfigure c => some (specStepdirConfigure, c)
  | .homeStall c => some (specHomeStall, c)
  | .pfEventAck c => some (specPfEventAck, c)
  | .pfFlagsClear c => some (specPfFlagsClear, c)
  | .stageConfigure c => some (specStageConfigure, c)
  | .stageEnable c => some (specStageEnable, c)
  | .pwmSet c => some (specPwmSet, c)
  | .pwmCompareSet c => some (specPwmCompareSet, c)
  | .pwmPeriodSet c => some (specPwmPeriodSet, c)
  | .pwmLock c => some (specPwmLock, c)
  | .pwmEventConfigure c => some (specPwmEventConfigure, c)
  | .stageFaultClear c => some (specStageFaultClear, c)
  | .stageEventAck c => some (specStageEventAck, c)
  | .stageFlagsClear c => some (specStageFlagsClear, c)
  | .segmentConfigure c => some (specSegmentConfigure, c)
  | .segmentStart c => some (specSegmentStart, c)
  | .segmentStop c => some (specSegmentStop, c)
  | .nodeRead c => some (specNodeRead, c)
  | .nodeWrite c => some (specNodeWrite, c)
  | .nodeAction c => some (specNodeAction, c)
  | .nodeAccept c => some (specNodeAccept, c)
  | .segmentEventAck c => some (specSegmentEventAck, c)
  | .scheduleWrite c => some (specScheduleWrite, c)
  | .scheduleRead c => some (specScheduleRead, c)
  | .busCountersRead c => some (specBusCountersRead, c)
  | .busCountersClear c => some (specBusCountersClear, c)
  | .armConfigure c => some (specArmConfigure, c)
  | .armCapsules c => some (specArmCapsules, c)
  | .armTools c => some (specArmTools, c)
  | .armStopModel c => some (specArmStopModel, c)
  | .armEnable c => some (specArmEnable, c)
  | .yardConfigure c => some (specYardConfigure, c)
  | .yardAppend c => some (specYardAppend, c)
  | .armPathReset c => some (specArmPathReset, c)
  | .armOverride c => some (specArmOverride, c)
  | .armPayload c => some (specArmPayload, c)
  | .zoneDefine c => some (specZoneDefine, c)
  | .zoneClaim c => some (specZoneClaim, c)
  | .zoneRelease c => some (specZoneRelease, c)
  | .zoneForceRelease c => some (specZoneForceRelease, c)
  | .armFaultClear c => some (specArmFaultClear, c)
  | .armEventAck c => some (specArmEventAck, c)
  | .armFlagsClear c => some (specArmFlagsClear, c)
  | .armQuery c => some (specArmQuery, c)
  | .safetyAxisConfigure c => some (specSafetyAxisConfigure, c)
  | .safetyArmConfigure c => some (specSafetyArmConfigure, c)
  | .safetyInputConfigure c => some (specSafetyInputConfigure, c)
  | .safetyOutputConfigure c => some (specSafetyOutputConfigure, c)
  | .safetyCompartmentConfigure c => some (specSafetyCompartmentConfigure, c)
  | .safetyCommit c => some (specSafetyCommit, c)
  | .safetyQuery c => some (specSafetyQuery, c)
  | .safetyMessage c => some (specSafetyMessage, c)
  | .safetyEventAck c => some (specSafetyEventAck, c)
  | .trigConfigure c => some (specTrigConfigure, c)
  | .trigEnable c => some (specTrigEnable, c)
  | .trigQuery c => some (specTrigQuery, c)
  | .trigioConfigure c => some (specTrigioConfigure, c)
  | .capConfigure c => some (specCapConfigure, c)
  | .capArm c => some (specCapArm, c)
  | .capStop c => some (specCapStop, c)
  | .capRead c => some (specCapRead, c)
  | .landingConfigure c => some (specLandingConfigure, c)
  | .flumeRingConfigure c => some (specFlumeRingConfigure, c)
  | .regConfigure c => some (specRegConfigure, c)
  | .regEnable c => some (specRegEnable, c)
  | .capEventAck c => some (specCapEventAck, c)
  | .regEventAck c => some (specRegEventAck, c)
  | .capCountersClear c => some (specCapCountersClear, c)
  | .diConfigure c => some (specDiConfigure, c)
  | .diTest c => some (specDiTest, c)
  | .fieldSupplyConfigure c => some (specFieldSupplyConfigure, c)
  | .doConfigure c => some (specDoConfigure, c)
  | .doSet c => some (specDoSet, c)
  | .doFaultClear c => some (specDoFaultClear, c)
  | .ioEventAck c => some (specIoEventAck, c)
  | .ioFlagsClear c => some (specIoFlagsClear, c)
  | .canConfigure c => some (specCanConfigure, c)
  | .canFilterSet c => some (specCanFilterSet, c)
  | .canStart c => some (specCanStart, c)
  | .canStop c => some (specCanStop, c)
  | .canTx c => some (specCanTx, c)
  | .canTxAbort c => some (specCanTxAbort, c)
  | .canFifoRead c => some (specCanFifoRead, c)
  | .canRecover c => some (specCanRecover, c)
  | .canEventAck c => some (specCanEventAck, c)
  | .canCountersClear c => some (specCanCountersClear, c)
  | .clockSet c => some (specClockSet, c)
  | .clockStep c => some (specClockStep, c)
  | .clockRateSet c => some (specClockRateSet, c)
  | .clockRead c => some (specClockRead, c)
  | .ptpConfigure c => some (specPtpConfigure, c)
  | .ptpPhyLatency c => some (specPtpPhyLatency, c)
  | .cmpArm c => some (specCmpArm, c)
  | .cmpDisarm c => some (specCmpDisarm, c)
  | .crcConfigure c => some (specCrcConfigure, c)
  | .crcEnable c => some (specCrcEnable, c)
  | .crcRead c => some (specCrcRead, c)
  | .crcCountersClear c => some (specCrcCountersClear, c)
  | .timeEventAck c => some (specTimeEventAck, c)
  | .saveConfigure c => some (specSaveConfigure, c)
  | .backupRead c => some (specBackupRead, c)
  | .backupWrite c => some (specBackupWrite, c)
  | .optionsWrite c => some (specOptionsWrite, c)
  | .optionsRead c => some (specOptionsRead, c)
  | .journalRead c => some (specJournalRead, c)
  | .pwrEventAck c => some (specPwrEventAck, c)
  | .resetCountersClear c => some (specResetCountersClear, c)
  | .evRouteSet c => some (specEvRouteSet, c)
  | .evCoalesceSet c => some (specEvCoalesceSet, c)
  | .evVectorPark c => some (specEvVectorPark, c)
  | .evQuery c => some (specEvQuery, c)
  | .evAck c => some (specEvAck, c)
  | .portConfigure c => some (specPortConfigure, c)
  | .h2Configure c => some (specH2Configure, c)
  | .outlookStreamSet c => some (specOutlookStreamSet, c)
  | _ => none

end Sys2Proof.Machine
end

