-- ==== Sys2Proof/Certificates/Slice0/Obligations.lean ====
section
/-! DEFINITION. The statements about the model, for the provers. A clause that rests on a choice of the model names its log
entry; everything else follows the rules of the spec that OBLIGATIONS.json cites. -/

open Sys2Proof Sys2Proof.Machine

/-- For every command c and state s whose queue has c at the front, step answers what exec answers for c on the state whose
queue is the rest. The queue is the model's (log entry 3). -/
def Obligations.StepRunsFrontCommand : Prop :=
  ∀ (c : Instr) (rest : List Instr) (s : State), s.pending = c :: rest → step s = exec c { s with pending := rest }

/-- With no command waiting a step changes nothing. This is the model's choice (DESIGN CHOICE, log entry 3). -/
def Obligations.EmptyQueueIdles : Prop :=
  ∀ s : State, s.pending = [] → step s = .next s

/-- For every command and every state exec answers a next state: no fault, no refusal. A command that the device turns away ends
with a completion and its status. -/
def Obligations.EveryStepAnswersNext : Prop :=
  ∀ (i : Instr) (s : State), ∃ t, exec i s = .next t

/-- Whatever the command, the next state's queue is the queue exec was given. The queue is the model's (log entry 3). -/
def Obligations.ExecLeavesQueueAlone : Prop :=
  ∀ (i : Instr) (s t : State), exec i s = .next t → t.pending = s.pending

/-- From every state, as many steps as commands wait lead to a state with an empty queue. The queue is the model's (log entry
3). -/
def Obligations.QueueDrains : Prop :=
  ∀ s : State, ∃ t, stepN s.pending.length s = some t ∧ t.pending = []

/-- The ring-area memory of State.reset is in its canonical form: addresses rising, no byte 0 listed. That unlisted bytes read
as 0 is the model's choice (DESIGN CHOICE, log entry 4). -/
def Obligations.ResetMemoryIsCanonical : Prop :=
  State.reset.memOk

/-- For every state whose ring-area memory is in its canonical form, the state that a step answers has a ring-area memory in its
canonical form. The form is the model's (log entry 4). -/
def Obligations.StepKeepsMemoryCanonical : Prop :=
  ∀ s t : State, s.memOk → step s = .next t → t.memOk

/-- After reset: stroke 0 (R9), free lock mode and pull 100 ppm; no session; H0 is the cell owner and there is no standby
(R370); no compartment exists; every axis is DISABLED with bank 0 active, zero gains and no hook (R103, R107); every encoder
output is disabled with low outputs (R150); every segment STOPPED; every stage DISABLED; every arm DISABLED; every CAN
channel STOPPED; every H3 vector masked (R411); the shared cap of every port is 384 (R414). -/
def Obligations.ResetAsTheSpecStates : Prop :=
  let d := State.reset.dev
  d.stk.number = 0 ∧ d.stk.lockMode = 0 ∧ d.cps.cellOwner = 0 ∧ d.cps.standby = none ∧
  (∀ p < 4, d.isOpen p = false) ∧ (∀ k < 8, (d.comp k).state = 0) ∧
  (∀ a ∈ d.axes, a.state = 0 ∧ a.bank = 0 ∧ a.bank0 = Coefs.reset ∧ a.hooks = List.replicate 6 none) ∧
  (∀ e ∈ d.eos, e.enabled = false ∧ e.a = false ∧ e.b = false ∧ e.z = false) ∧
  (∀ g ∈ d.segs, g.state = 0) ∧ (∀ s ∈ d.stgs, s.mode = 0) ∧ (∀ m ∈ d.arms, m.state = 0) ∧ (∀ c ∈ d.cans, c.state = 0) ∧
  (∀ v < 64, bit (d.prt 3).irqMask v = true) ∧ d.nov.caps = [384, 384, 384, 384]

/-- On canonical memory, the bytes written into a slot of a ring in device SRAM, no longer than the ring, read back byte for
byte at the addresses they were written to; every byte outside those addresses reads as before. -/
def Obligations.RingWritesReadBack : Prop :=
  ∀ (m : List Host.Cell) (port base slots size slot : Nat) (b : Bytes), Memory.wf m = true → b.length ≤ slots * size →
    (∀ k < b.length,
      Memory.read (Memory.writeRing m port base slots size slot b) (areaAddr port (base + (slot * size + k) % (slots * size))) = b.getD k 0) ∧
    (∀ a, (∀ k < b.length, a ≠ areaAddr port (base + (slot * size + k) % (slots * size))) →
      Memory.read (Memory.writeRing m port base slots size slot b) a = Memory.read m a)

/-- Every command leaves the ring-area memory as it was, but for COMPLETION_POST, H2_COMMAND, REGISTER_WRITE and H3_WRITE, and
the starts of the device (PARK_EXIT, POWER_ON_RESET, RESET_PIN). -/
def Obligations.OnlyTheseRowsWriteRingMemory : Prop :=
  ∀ (i : Instr) (s t : State), exec i s = .next t →
    (match i with
     | .completionPost _ => True
     | .h2Command _ _ => True
     | .registerWrite _ _ _ => True
     | .h3Write _ _ => True
     | .parkExit _ _ => True
     | .powerOnReset _ => True
     | .resetPin _ => True
     | _ => t.mem = s.mem)

/-- What the outlook windows show changes with SLACK_START and with the starts of the device (PARK_EXIT, POWER_ON_RESET,
RESET_PIN) only. That the refresh of every stroke falls on the slack start is the model's reading (log entry 40). -/
def Obligations.ShownRecordsChangeOnlyAtSlack : Prop :=
  ∀ (i : Instr) (s t : State), exec i s = .next t →
    (match i with
     | .slackStart => True
     | .parkExit _ _ => True
     | .powerOnReset _ => True
     | .resetPin _ => True
     | _ => t.shown = s.shown)

/-- For every command packet row and every state: on a ring that is not fetched from (not of its port, not ACTIVE or STALLED,
closing, or the device not running) nothing happens; on a ring that is, a packet that fails a check of R39 leaves its
completion with the first failing status and detail, and the ring expects sequence + 1 (R44); all else is as before. That
such a packet on a ring not fetched from is no command at all is the model's reading (log entry 9). -/
def Obligations.RefusedPacketOnlyReports : Prop :=
  ∀ (i : Instr) (sp : Spec) (c : Cmd) (s : State), rowPacket i = some (sp, c) →
    (s.fresh.dev.carries c = false → exec i s = .next s.fresh) ∧
    (∀ st x, s.fresh.dev.carries c = true → s.fresh.dev.judge sp c = some (st, x) → exec i s = .next (s.refused sp c st x)) ∧
    (∀ st x, (s.refused sp c st x).dev = s.dev.booked (s.refused sp c st x).dev ∧
      (s.refused sp c st x).dev.nov.flights =
        s.dev.nov.flights ++ [⟨c, sp.op, .none, .post, .none, st, x, [], s.dev.stk.number, none, s.dev.nov.taken⟩])

/-- A packet of any row that passes the header form and ring class, on a ring that is fetched from, with a sequence other than
the one expected completes with ST_BAD_SEQUENCE, detail the low 16 bits of the expected value, and no effect; the ring then
expects its sequence + 1. -/
def Obligations.WrongSequenceRefused : Prop :=
  ∀ (i : Instr) (sp : Spec) (c : Cmd) (s : State), rowPacket i = some (sp, c) → s.fresh.dev.carries c = true →
    s.fresh.dev.checkForm sp c = none → c.seq ≠ (s.dev.ring c.ring.val).expSeq →
    exec i s = .next (s.refused sp c ST.badSequence ((s.dev.ring c.ring.val).expSeq % 65536)) ∧
    ((s.refused sp c ST.badSequence ((s.dev.ring c.ring.val).expSeq % 65536)).dev.ring c.ring.val).expSeq = (c.seq + 1) % 2 ^ 32

/-- For every row whose right is the owner's: where the target is an object that no compartment of the port holds (the
compartment itself exists), the command changes nothing but the ring, its completion and the count of packets. -/
def Obligations.NoOwnershipNoChange : Prop :=
  ∀ (i : Instr) (sp : Spec) (c : Cmd) (s t : State), rowPacket i = some (sp, c) → sp.right = .owner →
    (∀ k, s.dev.holder c.cls c.idx = some k → s.dev.owns c.port.val k = false) →
    ¬ (c.cls = 0x0C ∧ (s.dev.comp c.idx).state = 0) →
    exec i s = .next t → t.mem = s.mem ∧ t.shown = s.shown ∧ t.dev = s.dev.booked t.dev

/-- For every command packet row the opcode table of the ring scanner holds, under the row's opcode, the same meaning that the
row carries out. -/
def Obligations.RowsAreTheRingOpcodes : Prop :=
  ∀ (i : Instr) (sp : Spec) (c : Cmd), rowPacket i = some (sp, c) → specOf sp.op = some sp

/-- A packet laid out as R33 says, with every field at any value it can hold and a payload of up to 4,080 bytes, is read as that
opcode, tag, compartment, flags, sequence, target class, target index and payload. -/
def Obligations.PacketHeaderReadsBack : Prop :=
  ∀ (port : Fin 4) (ring : Fin 128) (op tag comp flags seq cls idx : Nat) (p : Bytes),
    op < 2 ^ 16 → tag < 2 ^ 16 → comp < 2 ^ 8 → flags < 2 ^ 8 → seq < 2 ^ 32 → cls < 2 ^ 8 → idx < 2 ^ 24 → p.length ≤ 4080 →
    packetOf port ring (e16 op ++ e16 tag ++ e8 comp ++ e8 flags ++ e16 p.length ++ e32 seq ++ enc 3 idx ++ e8 cls ++ p) =
      (op, { port := port, ring := ring, tag := tag, seq := seq, comp := comp, flags := flags, atStroke := 0, cls := cls, idx := idx,
             refAddr := 0, payload := p })

/-- Each of these commands completes: on every packet that stands on a ring the device fetches from and passes every check of
R39, exec answers the state in which the command's own effect, as its rule gives it, has taken place, and the ring expects
sequence + 1. STOP_CAT0, STOP_CAT1, STOP_CAT2, FEED_HOLD, HALT and the eleven commands of area 0x01. -/
def Obligations.UrgentAndSessionCommandsComplete : Prop :=
  Completes .stopCat0 specStopCat0 ∧ Completes .stopCat1 specStopCat1 ∧ Completes .stopCat2 specStopCat2 ∧
  Completes .feedHold specFeedHold ∧ Completes .halt specHalt ∧ Completes .sessionOpen specSessionOpen ∧
  Completes .sessionClose specSessionClose ∧ Completes .ringCreate specRingCreate ∧ Completes .ringDelete specRingDelete ∧
  Completes .ringStatsClear specRingStatsClear ∧ Completes .deviceIdentify specDeviceIdentify ∧ Completes .nop specNop ∧
  Completes .cmdAbort specCmdAbort ∧ Completes .tagLimits specTagLimits ∧ Completes .stopRelease specStopRelease ∧
  Completes .feedResume specFeedResume

/-- Each of these commands completes: on every packet that stands on a ring the device fetches from and passes every check of
R39, exec answers the state in which the command's own effect, as its rule gives it, has taken place, and the ring expects
sequence + 1. The compartment, block reset, firmware and stroke commands. -/
def Obligations.CompartmentAndStrokeCommandsComplete : Prop :=
  Completes .cellOwnerSet specCellOwnerSet ∧ Completes .compartmentCreate specCompartmentCreate ∧
  Completes .compartmentDelete specCompartmentDelete ∧ Completes .resourceAssign specResourceAssign ∧
  Completes .resourceRelease specResourceRelease ∧ Completes .rightsSet specRightsSet ∧
  Completes .compartmentQuery specCompartmentQuery ∧ Completes .blockReset specBlockReset ∧
  Completes .blockQuery specBlockQuery ∧ Completes .compartmentEventAck specCompartmentEventAck ∧
  Completes .fwStageOpen specFwStageOpen ∧ Completes .fwStageWrite specFwStageWrite ∧
  Completes .fwStageClose specFwStageClose ∧ Completes .fwMigrate specFwMigrate ∧ Completes .fwActivate specFwActivate ∧
  Completes .fwDiscard specFwDiscard ∧ Completes .fwStatus specFwStatus ∧ Completes .strokeConfigure specStrokeConfigure ∧
  Completes .strokeQuery specStrokeQuery ∧ Completes .strokeLock specStrokeLock ∧ Completes .budgetQuery specBudgetQuery ∧
  Completes .strokeCountersClear specStrokeCountersClear ∧ Completes .budgetTrial specBudgetTrial

/-- Each of these commands completes: on every packet that stands on a ring the device fetches from and passes every check of
R39, exec answers the state in which the command's own effect, as its rule gives it, has taken place, and the ring expects
sequence + 1. The axis, hook, injection, feedback, sine/cosine and encoder output commands. -/
def Obligations.AxisAndFeedbackCommandsComplete : Prop :=
  Completes .hookLoad specHookLoad ∧ Completes .hookRemove specHookRemove ∧ Completes .hookQuery specHookQuery ∧
  Completes .hookUserSet specHookUserSet ∧ Completes .axisConfigure specAxisConfigure ∧
  Completes .axisEnable specAxisEnable ∧ Completes .axisLimits specAxisLimits ∧ Completes .coefWrite specCoefWrite ∧
  Completes .coefRead specCoefRead ∧ Completes .bankSwap specBankSwap ∧ Completes .axisMode specAxisMode ∧
  Completes .axisManualSet specAxisManualSet ∧ Completes .faultClear specFaultClear ∧
  Completes .injectStart specInjectStart ∧ Completes .injectStop specInjectStop ∧
  Completes .axisFlagsClear specAxisFlagsClear ∧ Completes .axisEventAck specAxisEventAck ∧
  Completes .fbConfigure specFbConfigure ∧ Completes .fbLimits specFbLimits ∧ Completes .fbPositionSet specFbPositionSet ∧
  Completes .scConfigure specScConfigure ∧ Completes .scCalWrite specScCalWrite ∧ Completes .eoConfigure specEoConfigure ∧
  Completes .eoEnable specEoEnable ∧ Completes .fbEventAck specFbEventAck ∧ Completes .fbFlagsClear specFbFlagsClear

/-- Each of these commands completes: on every packet that stands on a ring the device fetches from and passes every check of
R39, exec answers the state in which the command's own effect, as its rule gives it, has taken place, and the ring expects
sequence + 1. The twenty commands of profiles, gearing, cams, latches, stepping and homing. -/
def Obligations.ProfileCommandsComplete : Prop :=
  Completes .move specMove ∧ Completes .moveModify specMoveModify ∧ Completes .vmConfigure specVmConfigure ∧
  Completes .gearEngage specGearEngage ∧ Completes .gearRatio specGearRatio ∧ Completes .relationPhase specRelationPhase ∧
  Completes .disengage specDisengage ∧ Completes .camCreate specCamCreate ∧ Completes .camWrite specCamWrite ∧
  Completes .camCommit specCamCommit ∧ Completes .camDelete specCamDelete ∧ Completes .camEngage specCamEngage ∧
  Completes .camNext specCamNext ∧ Completes .latchArm specLatchArm ∧ Completes .latchDisarm specLatchDisarm ∧
  Completes .stepConfigure specStepConfigure ∧ Completes .stepdirConfigure specStepdirConfigure ∧
  Completes .homeStall specHomeStall ∧ Completes .pfEventAck specPfEventAck ∧ Completes .pfFlagsClear specPfFlagsClear

/-- Each of these commands completes: on every packet that stands on a ring the device fetches from and passes every check of
R39, exec answers the state in which the command's own effect, as its rule gives it, has taken place, and the ring expects
sequence + 1. The local stage, segment, node, schedule and bus counter commands. -/
def Obligations.StageAndFinavalCommandsComplete : Prop :=
  Completes .stageConfigure specStageConfigure ∧ Completes .stageEnable specStageEnable ∧ Completes .pwmSet specPwmSet ∧
  Completes .pwmCompareSet specPwmCompareSet ∧ Completes .pwmPeriodSet specPwmPeriodSet ∧ Completes .pwmLock specPwmLock ∧
  Completes .pwmEventConfigure specPwmEventConfigure ∧ Completes .stageFaultClear specStageFaultClear ∧
  Completes .stageEventAck specStageEventAck ∧ Completes .stageFlagsClear specStageFlagsClear ∧
  Completes .segmentConfigure specSegmentConfigure ∧ Completes .segmentStart specSegmentStart ∧
  Completes .segmentStop specSegmentStop ∧ Completes .nodeRead specNodeRead ∧ Completes .nodeWrite specNodeWrite ∧
  Completes .nodeAction specNodeAction ∧ Completes .nodeAccept specNodeAccept ∧
  Completes .segmentEventAck specSegmentEventAck ∧ Completes .scheduleWrite specScheduleWrite ∧
  Completes .scheduleRead specScheduleRead ∧ Completes .busCountersRead specBusCountersRead ∧
  Completes .busCountersClear specBusCountersClear

/-- Each of these commands completes: on every packet that stands on a ring the device fetches from and passes every check of
R39, exec answers the state in which the command's own effect, as its rule gives it, has taken place, and the ring expects
sequence + 1. The arm, yard, zone and safety commands. -/
def Obligations.RobotAndSafetyCommandsComplete : Prop :=
  Completes .armConfigure specArmConfigure ∧ Completes .armCapsules specArmCapsules ∧ Completes .armTools specArmTools ∧
  Completes .armStopModel specArmStopModel ∧ Completes .armEnable specArmEnable ∧
  Completes .yardConfigure specYardConfigure ∧ Completes .yardAppend specYardAppend ∧
  Completes .armPathReset specArmPathReset ∧ Completes .armOverride specArmOverride ∧
  Completes .armPayload specArmPayload ∧ Completes .zoneDefine specZoneDefine ∧ Completes .zoneClaim specZoneClaim ∧
  Completes .zoneRelease specZoneRelease ∧ Completes .zoneForceRelease specZoneForceRelease ∧
  Completes .armFaultClear specArmFaultClear ∧ Completes .armEventAck specArmEventAck ∧
  Completes .armFlagsClear specArmFlagsClear ∧ Completes .armQuery specArmQuery ∧
  Completes .safetyAxisConfigure specSafetyAxisConfigure ∧ Completes .safetyArmConfigure specSafetyArmConfigure ∧
  Completes .safetyInputConfigure specSafetyInputConfigure ∧ Completes .safetyOutputConfigure specSafetyOutputConfigure ∧
  Completes .safetyCompartmentConfigure specSafetyCompartmentConfigure ∧ Completes .safetyCommit specSafetyCommit ∧
  Completes .safetyQuery specSafetyQuery ∧ Completes .safetyMessage specSafetyMessage ∧
  Completes .safetyEventAck specSafetyEventAck

/-- Each of these commands completes: on every packet that stands on a ring the device fetches from and passes every check of
R39, exec answers the state in which the command's own effect, as its rule gives it, has taken place, and the ring expects
sequence + 1. The trigger, capture, registration, field I/O and CAN commands. -/
def Obligations.CaptureAndFieldCommandsComplete : Prop :=
  Completes .trigConfigure specTrigConfigure ∧ Completes .trigEnable specTrigEnable ∧ Completes .trigQuery specTrigQuery ∧
  Completes .trigioConfigure specTrigioConfigure ∧ Completes .capConfigure specCapConfigure ∧
  Completes .capArm specCapArm ∧ Completes .capStop specCapStop ∧ Completes .capRead specCapRead ∧
  Completes .landingConfigure specLandingConfigure ∧ Completes .flumeRingConfigure specFlumeRingConfigure ∧
  Completes .regConfigure specRegConfigure ∧ Completes .regEnable specRegEnable ∧ Completes .capEventAck specCapEventAck ∧
  Completes .regEventAck specRegEventAck ∧ Completes .capCountersClear specCapCountersClear ∧
  Completes .diConfigure specDiConfigure ∧ Completes .diTest specDiTest ∧
  Completes .fieldSupplyConfigure specFieldSupplyConfigure ∧ Completes .doConfigure specDoConfigure ∧
  Completes .doSet specDoSet ∧ Completes .doFaultClear specDoFaultClear ∧ Completes .ioEventAck specIoEventAck ∧
  Completes .ioFlagsClear specIoFlagsClear ∧ Completes .canConfigure specCanConfigure ∧
  Completes .canFilterSet specCanFilterSet ∧ Completes .canStart specCanStart ∧ Completes .canStop specCanStop ∧
  Completes .canTx specCanTx ∧ Completes .canTxAbort specCanTxAbort ∧ Completes .canFifoRead specCanFifoRead ∧
  Completes .canRecover specCanRecover ∧ Completes .canEventAck specCanEventAck ∧
  Completes .canCountersClear specCanCountersClear

/-- Each of these commands completes: on every packet that stands on a ring the device fetches from and passes every check of
R39, exec answers the state in which the command's own effect, as its rule gives it, has taken place, and the ring expects
sequence + 1. The cell time, PTP, compare, check-value, save, backup, option, journal, event and port commands. -/
def Obligations.TimePowerAndEventCommandsComplete : Prop :=
  Completes .clockSet specClockSet ∧ Completes .clockStep specClockStep ∧ Completes .clockRateSet specClockRateSet ∧
  Completes .clockRead specClockRead ∧ Completes .ptpConfigure specPtpConfigure ∧
  Completes .ptpPhyLatency specPtpPhyLatency ∧ Completes .cmpArm specCmpArm ∧ Completes .cmpDisarm specCmpDisarm ∧
  Completes .crcConfigure specCrcConfigure ∧ Completes .crcEnable specCrcEnable ∧ Completes .crcRead specCrcRead ∧
  Completes .crcCountersClear specCrcCountersClear ∧ Completes .timeEventAck specTimeEventAck ∧
  Completes .saveConfigure specSaveConfigure ∧ Completes .backupRead specBackupRead ∧
  Completes .backupWrite specBackupWrite ∧ Completes .optionsWrite specOptionsWrite ∧
  Completes .optionsRead specOptionsRead ∧ Completes .journalRead specJournalRead ∧
  Completes .pwrEventAck specPwrEventAck ∧ Completes .resetCountersClear specResetCountersClear ∧
  Completes .evRouteSet specEvRouteSet ∧ Completes .evCoalesceSet specEvCoalesceSet ∧
  Completes .evVectorPark specEvVectorPark ∧ Completes .evQuery specEvQuery ∧ Completes .evAck specEvAck ∧
  Completes .portConfigure specPortConfigure ∧ Completes .h2Configure specH2Configure ∧
  Completes .outlookStreamSet specOutlookStreamSet

/-- The axis and hook commands named change no axis but their target, the feedback commands only the feedback, channel or output
they name. Beside that, a next state of these rows differs only in the rings, the commands in flight, the count of packets
taken, and the use of the restored configuration set (R44, R46, R472); the ring-area memory and what the outlook shows are
unchanged. -/
def Obligations.AxisFeedbackFrame : Prop :=
  (∀ (c : Cmd), ∀ f ∈ [Instr.hookLoad, Instr.hookRemove, Instr.hookQuery, Instr.hookUserSet, Instr.axisConfigure, Instr.axisLimits, Instr.coefWrite, Instr.bankSwap, Instr.faultClear, Instr.axisFlagsClear], Frame (fun b e => { b with axes := e.axes }) (f c) ∧ OnlyEntry Dev.axes c.idx (f c)) ∧
  (∀ (c : Cmd), ∀ f ∈ [Instr.fbConfigure, Instr.fbLimits], Frame (fun b e => { b with fbs := e.fbs }) (f c) ∧ OnlyEntry Dev.fbs c.idx (f c)) ∧
  (∀ (c : Cmd), ∀ f ∈ [Instr.scConfigure, Instr.scCalWrite], Frame (fun b e => { b with scs := e.scs }) (f c) ∧ OnlyEntry Dev.scs c.idx (f c)) ∧
  (∀ (c : Cmd), ∀ f ∈ [Instr.eoConfigure, Instr.eoEnable], Frame (fun b e => { b with eos := e.eos }) (f c) ∧ OnlyEntry Dev.eos c.idx (f c)) ∧
  (∀ (c : Cmd), ∀ f ∈ [Instr.fbFlagsClear], Frame (fun b e => { b with fbs := e.fbs, scs := e.scs, eos := e.eos }) (f c))

/-- Each changes only the profile of its axis, its virtual master or its cam table; engaging a relation also marks which cam
tables are in use. The counter of free values (the model's own) advances with CAM_CREATE. Beside that, a next state of these
rows differs only in the rings, the commands in flight, the count of packets taken, and the use of the restored
configuration set (R44, R46, R472); the ring-area memory and what the outlook shows are unchanged. -/
def Obligations.ProfileFrame : Prop :=
  (∀ (c : Cmd), ∀ f ∈ [Instr.gearRatio, Instr.relationPhase, Instr.disengage, Instr.latchArm, Instr.latchDisarm, Instr.stepConfigure, Instr.stepdirConfigure, Instr.homeStall, Instr.pfFlagsClear], Frame (fun b e => { b with pfs := e.pfs }) (f c) ∧ OnlyEntry Dev.pfs c.idx (f c)) ∧
  (∀ (c : Cmd), ∀ f ∈ [Instr.vmConfigure], Frame (fun b e => { b with vms := e.vms }) (f c) ∧ OnlyEntry Dev.vms c.idx (f c)) ∧
  (∀ (c : Cmd), ∀ f ∈ [Instr.camWrite, Instr.camCommit, Instr.camDelete], Frame (fun b e => { b with cams := e.cams }) (f c) ∧ OnlyEntry Dev.cams c.idx (f c)) ∧
  (∀ (c : Cmd), ∀ f ∈ [Instr.camCreate], Frame (fun b e => { b with cams := e.cams, free := e.free }) (f c) ∧ OnlyEntry Dev.cams c.idx (f c)) ∧
  (∀ (c : Cmd), ∀ f ∈ [Instr.gearEngage, Instr.camEngage, Instr.camNext], Frame (fun b e => { b with pfs := e.pfs, cams := e.cams }) (f c) ∧ OnlyEntry Dev.pfs c.idx (f c))

/-- A stage command changes only its stage, a segment command only its segment, a node command only the segment of its node.
Beside that, a next state of these rows differs only in the rings, the commands in flight, the count of packets taken, and
the use of the restored configuration set (R44, R46, R472); the ring-area memory and what the outlook shows are unchanged. -/
def Obligations.StageAndSegmentFrame : Prop :=
  (∀ (c : Cmd), ∀ f ∈ [Instr.stageConfigure, Instr.stageEnable, Instr.pwmSet, Instr.pwmCompareSet, Instr.pwmPeriodSet, Instr.pwmLock, Instr.pwmEventConfigure, Instr.stageFaultClear, Instr.stageFlagsClear], Frame (fun b e => { b with stgs := e.stgs }) (f c) ∧ OnlyEntry Dev.stgs c.idx (f c)) ∧
  (∀ (c : Cmd), ∀ f ∈ [Instr.segmentConfigure, Instr.segmentStart, Instr.scheduleWrite, Instr.busCountersClear], Frame (fun b e => { b with segs := e.segs }) (f c) ∧ OnlyEntry Dev.segs c.idx (f c)) ∧
  (∀ (c : Cmd), ∀ f ∈ [Instr.nodeRead, Instr.nodeWrite, Instr.nodeAction, Instr.nodeAccept], Frame (fun b e => { b with segs := e.segs }) (f c) ∧ OnlyEntry Dev.segs (c.idx / 8) (f c))

/-- An arm command changes only its arm, a zone definition its zone, a claim or release the zone requests; the two safety
configurations change only the safety part, the capture commands only the capture part (REG_ENABLE also the profiles, whose
latch it takes). Beside that, a next state of these rows differs only in the rings, the commands in flight, the count of
packets taken, and the use of the restored configuration set (R44, R46, R472); the ring-area memory and what the outlook
shows are unchanged. -/
def Obligations.ArmSafetyCaptureFrame : Prop :=
  (∀ (c : Cmd), ∀ f ∈ [Instr.armConfigure, Instr.armCapsules, Instr.armTools, Instr.armStopModel, Instr.yardConfigure, Instr.yardAppend, Instr.armPathReset, Instr.armOverride, Instr.armPayload, Instr.armFlagsClear], Frame (fun b e => { b with arms := e.arms }) (f c) ∧ OnlyEntry Dev.arms c.idx (f c)) ∧
  (∀ (c : Cmd), ∀ f ∈ [Instr.zoneDefine], Frame (fun b e => { b with zones := e.zones }) (f c) ∧ OnlyEntry Dev.zones c.idx (f c)) ∧
  (∀ (c : Cmd), ∀ f ∈ [Instr.zoneClaim, Instr.zoneRelease], Frame (fun b e => { b with claims := e.claims }) (f c)) ∧
  (∀ (c : Cmd), ∀ f ∈ [Instr.safetyOutputConfigure, Instr.safetyCompartmentConfigure], Frame (fun b e => { b with saf := e.saf }) (f c)) ∧
  (∀ (c : Cmd), ∀ f ∈ [Instr.trigConfigure, Instr.trigioConfigure, Instr.capConfigure, Instr.capArm, Instr.capStop, Instr.landingConfigure, Instr.flumeRingConfigure, Instr.regConfigure, Instr.capCountersClear], Frame (fun b e => { b with cap := e.cap }) (f c)) ∧
  (∀ (c : Cmd), ∀ f ∈ [Instr.regEnable], Frame (fun b e => { b with pfs := e.pfs, cap := e.cap }) (f c))

/-- Each of these changes only the part of the device it is about: field I/O, its CAN channel, cell time and checks, power and
backup, the ports, the stroke, the firmware slots, the compartments. Beside that, a next state of these rows differs only in
the rings, the commands in flight, the count of packets taken, and the use of the restored configuration set (R44, R46,
R472); the ring-area memory and what the outlook shows are unchanged. -/
def Obligations.FieldTimePowerFrame : Prop :=
  (∀ (c : Cmd), ∀ f ∈ [Instr.diConfigure, Instr.diTest, Instr.fieldSupplyConfigure, Instr.doConfigure, Instr.doFaultClear, Instr.ioFlagsClear], Frame (fun b e => { b with io := e.io }) (f c)) ∧
  (∀ (c : Cmd), ∀ f ∈ [Instr.canConfigure, Instr.canFilterSet, Instr.canStart, Instr.canRecover, Instr.canCountersClear], Frame (fun b e => { b with cans := e.cans }) (f c) ∧ OnlyEntry Dev.cans c.idx (f c)) ∧
  (∀ (c : Cmd), ∀ f ∈ [Instr.clockSet, Instr.clockStep, Instr.clockRateSet, Instr.ptpConfigure, Instr.ptpPhyLatency, Instr.crcConfigure, Instr.crcEnable, Instr.crcCountersClear], Frame (fun b e => { b with tm := e.tm }) (f c)) ∧
  (∀ (c : Cmd), ∀ f ∈ [Instr.saveConfigure, Instr.backupWrite, Instr.optionsWrite, Instr.resetCountersClear], Frame (fun b e => { b with pwr := e.pwr }) (f c)) ∧
  (∀ (c : Cmd), ∀ f ∈ [Instr.evCoalesceSet, Instr.portConfigure, Instr.outlookStreamSet], Frame (fun b e => { b with hp := e.hp }) (f c)) ∧
  (∀ (c : Cmd), ∀ f ∈ [Instr.strokeConfigure, Instr.strokeCountersClear], Frame (fun b e => { b with stk := e.stk }) (f c)) ∧
  (∀ (c : Cmd), ∀ f ∈ [Instr.fwStageOpen, Instr.fwStageWrite, Instr.fwActivate, Instr.fwDiscard], Frame (fun b e => { b with fw := e.fw }) (f c)) ∧
  (∀ (c : Cmd), ∀ f ∈ [Instr.compartmentCreate], Frame (fun b e => { b with cps := e.cps }) (f c))

/-- A query changes no part of the device. Where its reply holds values that the spec leaves open, the counter of free values
(the model's own) advances. Beside that, a next state of these rows differs only in the rings, the commands in flight, the
count of packets taken, and the use of the restored configuration set (R44, R46, R472); the ring-area memory and what the
outlook shows are unchanged. -/
def Obligations.QueriesFrame : Prop :=
  (∀ (c : Cmd), ∀ f ∈ [Instr.nop, Instr.strokeQuery, Instr.budgetQuery, Instr.budgetTrial, Instr.coefRead, Instr.compartmentQuery, Instr.blockQuery, Instr.fwStatus, Instr.scheduleRead, Instr.busCountersRead, Instr.armQuery, Instr.safetyQuery, Instr.trigQuery, Instr.capRead, Instr.crcRead, Instr.backupRead, Instr.optionsRead, Instr.evQuery], Frame (fun b _ => b) (f c)) ∧
  (∀ (c : Cmd), ∀ f ∈ [Instr.deviceIdentify, Instr.clockRead, Instr.journalRead], Frame (fun b e => { b with free := e.free }) (f c))

/-- An accepted AXIS_CONFIGURE, AXIS_LIMITS, COEF_WRITE, HOOK_LOAD or AXIS_FLAGS_CLEAR completes and changes its axis by the
fields of its payload and nothing of it besides; HOOK_LOAD replies the hook's cost (R82), COEF_READ the bank in the layout
of COEF_WRITE, which returns every byte that a COEF_WRITE of that layout wrote. -/
def Obligations.AxisCommandsTakeEffect : Prop :=
  Sets .axisConfigure specAxisConfigure Dev.axes (fun c d => upd d.axes c.idx (fun (a : Axis) => { a with cfg := axCfgOf c.payload })) ∧
  Sets .axisLimits specAxisLimits Dev.axes (fun c d => upd d.axes c.idx (fun (a : Axis) => { a with lim := axLimOf c.payload })) ∧
  Sets .coefWrite specCoefWrite Dev.axes (fun c d => upd d.axes c.idx (fun (a : Axis) => if u8 c.payload 0 = 0 then { a with bank0 := coefsOf c.payload } else { a with bank1 := coefsOf c.payload })) ∧
  Sets .hookLoad specHookLoad Dev.axes (fun c d => upd d.axes c.idx (fun (a : Axis) => { a with hooks := a.hooks.set (u8 c.payload 0) (some (hookOf c.payload)) })) ∧
  Sets .axisFlagsClear specAxisFlagsClear Dev.axes (fun c d => upd d.axes c.idx (fun (a : Axis) => { a with flags := 0 })) ∧
  Replies .hookLoad specHookLoad (fun c _ => e16 (hookCost (hookOf c.payload).ops) ++ zeros 2) ∧
  Replies .coefRead specCoefRead (fun c d => (if u8 c.payload 0 = 0 then (d.ax c.idx).bank0 else (d.ax c.idx).bank1).bytes (u8 c.payload 0)) ∧
  (∀ p : Bytes, p.length = 104 → u8 p 0 < 256 → allZero p 1 3 = true → (∀ k < 14, u8 p (7 + 4 * k) = 0) → (coefsOf p).bytes (u8 p 0) = p)

/-- Accepted FB_CONFIGURE, FB_LIMITS, SC_CONFIGURE, SC_CAL_WRITE, FB_POSITION_SET, LATCH_DISARM, CAM_WRITE and VM_CONFIGURE
complete and leave their object with the values of the payload; after FB_POSITION_SET p_act is the position given. -/
def Obligations.FeedbackCommandsTakeEffect : Prop :=
  Sets .fbConfigure specFbConfigure Dev.fbs (fun c d => upd d.fbs c.idx (fun (f : Fb) => f.configure (fbCfgOf c.payload))) ∧
  Sets .fbLimits specFbLimits Dev.fbs (fun c d => upd d.fbs c.idx (fun (f : Fb) => { f with softMin := i64 c.payload 0, softMax := i64 c.payload 8, atMin := f.atMin && f.pAct == i64 c.payload 0, atMax := f.atMax && f.pAct == i64 c.payload 8 })) ∧
  Sets .scCalWrite specScCalWrite Dev.scs (fun c d => upd d.scs c.idx (fun (h : ScCh) => { h with offS := i16 c.payload 0, offC := i16 c.payload 2, gain := i16 c.payload 4, phase := i16 c.payload 6 })) ∧
  Sets .scConfigure specScConfigure Dev.scs (fun c d => upd d.scs c.idx (fun (h : ScCh) => { h with calMode := u8 c.payload 0, ampCount := u8 c.payload 1, nomAmp := u16 c.payload 2, ampLo := u16 c.payload 4, ampHi := u16 c.payload 6, refMark := u8 c.payload 8 == 1, calDone := false, calStart := none })) ∧
  (∀ (s : State) (c : Cmd), s.accepts specFbPositionSet c = true → c.idx < s.dev.fbs.length → ∃ t, exec (.fbPositionSet c) s = .next t ∧ (t.dev.fb c.idx).pAct = i64 c.payload 0) ∧
  Sets .latchDisarm specLatchDisarm Dev.pfs (fun c d => upd d.pfs c.idx (fun (p : Pf) => { p with latches := upd p.latches (u8 c.payload 0) (fun (l : Latch) => { l with armed := false }) })) ∧
  Sets .camWrite specCamWrite Dev.cams (fun c d => upd d.cams c.idx (fun (t : Cam) => t.write c.payload)) ∧
  Sets .vmConfigure specVmConfigure Dev.vms (fun c d => upd d.vms c.idx (fun (m : Vm) => m.note.configure c.payload))

/-- Accepted STAGE_CONFIGURE, PWM_PERIOD_SET, PWM_LOCK, PWM_SET, STAGE_FLAGS_CLEAR, SEGMENT_CONFIGURE, SEGMENT_START and
SCHEDULE_WRITE complete and leave their stage or segment with the values given (periods and compare values as shadows that a
period boundary takes over); SCHEDULE_READ replies the table in force. -/
def Obligations.StageAndSegmentCommandsTakeEffect : Prop :=
  Sets .stageConfigure specStageConfigure Dev.stgs (fun c d => upd d.stgs c.idx (fun (x : Stg) => { x with cfg := stgCfgOf c.payload })) ∧
  Sets .pwmPeriodSet specPwmPeriodSet Dev.stgs (fun c d => upd d.stgs c.idx (fun (x : Stg) => { x with periodSh := some (u32 c.payload 0) })) ∧
  Sets .pwmLock specPwmLock Dev.stgs (fun c d => upd d.stgs c.idx (fun (x : Stg) => { x with locked := u8 c.payload 0 == 1 })) ∧
  Sets .pwmSet specPwmSet Dev.stgs (fun c d => upd d.stgs c.idx (fun (x : Stg) => { x with periodSh := some (u32 c.payload 0), hbs := x.hbs.mapIdx (fun (k : Nat) (h : Hb) => { h with cmpSh := some (u32 c.payload (4 + 4 * k)), modeSh := some (u8 c.payload (20 + k)) }) })) ∧
  Sets .stageFlagsClear specStageFlagsClear Dev.stgs (fun c d => upd d.stgs c.idx (fun (x : Stg) => { x with faults := clearMask x.faults 0xFF0000, refreshes := 0, blocked := 0 })) ∧
  Sets .segmentConfigure specSegmentConfigure Dev.segs (fun c d => upd d.segs c.idx (fun (x : Seg) => { x with term := u8 c.payload 0, busThr := u8 c.payload 1 })) ∧
  Sets .segmentStart specSegmentStart Dev.segs (fun c d => upd d.segs c.idx (fun (x : Seg) => { x with startReq := true })) ∧
  Sets .scheduleWrite specScheduleWrite Dev.segs (fun c d => upd d.segs c.idx (fun (x : Seg) => x.setTable (d.schedTable c.payload))) ∧
  Replies .scheduleRead specScheduleRead (fun c d => e8 (d.seg c.idx).entries.length ++ e8 (b2n (match (d.seg c.idx).table with | some t => t.auto | none => false)) ++ e8 (d.seg c.idx).ver ++ e8 0 ++ (d.seg c.idx).entries.flatMap SchEntry.bytes)

/-- Accepted arm configurations, tools, capsules, stop models, override, payload, path reset and flag clearing complete and
leave their arm with the values given; ZONE_CLAIM adds the host's request (requester 8); SAFETY_COMPARTMENT_CONFIGURE stores
its three fields and leaves the compartment uncommitted. -/
def Obligations.ArmAndSafetyCommandsTakeEffect : Prop :=
  Sets .armConfigure specArmConfigure Dev.arms (fun c d => upd d.arms c.idx (fun (m : Arm) => { m with cfg := some (armCfgOf c.payload) })) ∧
  Sets .armCapsules specArmCapsules Dev.arms (fun c d => upd d.arms c.idx (fun (m : Arm) => { m with capsules := capsulesOf c.payload })) ∧
  Sets .armTools specArmTools Dev.arms (fun c d => upd d.arms c.idx (fun (m : Arm) => { m with tools := some (toolsOf c.payload) })) ∧
  Sets .armStopModel specArmStopModel Dev.arms (fun c d => upd d.arms c.idx (fun (m : Arm) => { m with model := some (stopModelOf c.payload) })) ∧
  Sets .armOverride specArmOverride Dev.arms (fun c d => upd d.arms c.idx (fun (m : Arm) => { m with override := u16 c.payload 0 })) ∧
  Sets .armPayload specArmPayload Dev.arms (fun c d => upd d.arms c.idx (fun (m : Arm) => { m with payload := u64 c.payload 0 })) ∧
  Sets .armPathReset specArmPathReset Dev.arms (fun c d => upd d.arms c.idx (fun (m : Arm) => { m with errSeg := 0, yard := { m.yard with segs := [], checked := 0, state := 0, head := u32 c.payload 0 } })) ∧
  Sets .armFlagsClear specArmFlagsClear Dev.arms (fun c d => upd d.arms c.idx (fun (m : Arm) => { m with flags := 0 })) ∧
  Sets .zoneClaim specZoneClaim Dev.claims (fun c d => d.claims ++ [⟨8, u64 c.payload 0, d.stk.number / d.cyc, false⟩]) ∧
  (∀ (s : State) (c : Cmd), s.accepts specSafetyCompartmentConfigure c = true → c.idx < s.dev.saf.comps.length → ∃ t, exec (.safetyCompartmentConfigure c) s = .next t ∧ (t.dev.safCmp c.idx).committed = false ∧ (t.dev.safCmp c.idx).latency = u32 c.payload 0 ∧ (t.dev.safCmp c.idx).vhMin = u16 c.payload 4 ∧ (t.dev.safCmp c.idx).release = u8 c.payload 6)

/-- Accepted DI_CONFIGURE, FIELD_SUPPLY_CONFIGURE, CAN_CONFIGURE and CAN_COUNTERS_CLEAR complete and store what they carry;
CAN_START of a stopped channel makes it error-active with both error counters 0; CAN_RECOVER takes a bus-off channel into
recovery. That the fault-confinement counters survive CAN_COUNTERS_CLEAR and the peaks restart at the fill is the model's
reading (log entry 76). -/
def Obligations.FieldAndCanCommandsTakeEffect : Prop :=
  (∀ (s : State) (c : Cmd), s.accepts specDiConfigure c = true → c.idx < s.dev.io.dis.length → ∃ t, exec (.diConfigure c) s = .next t ∧ t.dev.di c.idx = { s.dev.di c.idx with diType := u8 c.payload 0, edgeEvents := u8 c.payload 1, cntN := u16 c.payload 2, debounce := u32 c.payload 4 }) ∧
  Sets .fieldSupplyConfigure specFieldSupplyConfigure (fun d => d.io.recoverMs) (fun c _ => u16 c.payload 0) ∧
  Sets .canConfigure specCanConfigure Dev.cans (fun c d => upd d.cans c.idx (fun (x : Can) => { x with cfg := canCfgOf c.payload })) ∧
  (∀ (s : State) (c : Cmd), s.accepts specCanRecover c = true → c.idx < s.dev.cans.length → (s.dev.can c.idx).state = 3 → ∃ t, exec (.canRecover c) s = .next t ∧ (t.dev.can c.idx).state = 4) ∧
  (∀ (s : State) (c : Cmd), s.accepts specCanStart c = true → c.idx < s.dev.cans.length → (s.dev.can c.idx).state = 0 → ∃ t, exec (.canStart c) s = .next t ∧ (t.dev.can c.idx).state = 1 ∧ (t.dev.can c.idx).tec = 0 ∧ (t.dev.can c.idx).recv = 0) ∧
  Sets .canCountersClear specCanCountersClear Dev.cans (fun c d => upd d.cans c.idx (fun (x : Can) => { x with txOk := 0, rxOk := 0, errors := 0, busOffs := 0, rxLost := 0, tdcRange := false, fifos := x.fifos.map (fun (f : CanFifo) => { f with peak := f.frames.length, dropped := 0 }) }))

/-- Accepted CLOCK_RATE_SET sets the rate target, PTP_PHY_LATENCY the eight latencies, CRC_CONFIGURE, REG_CONFIGURE and
TRIG_CONFIGURE their unit's configuration (a trigger unit's state starts over, its firing count and last tag stay),
CRC_COUNTERS_CLEAR clears the unit's counters, TRIG_QUERY replies the count and the 48-bit tag of the last firing. -/
def Obligations.TimeAndCaptureCommandsTakeEffect : Prop :=
  Sets .clockRateSet specClockRateSet (fun d => d.tm.target) (fun c _ => i32 c.payload 0) ∧
  Sets .ptpPhyLatency specPtpPhyLatency (fun d => d.tm.ptp.latency) (fun c _ => (List.range 4).map (fun (k : Nat) => (u32 c.payload (8 * k), u32 c.payload (8 * k + 4)))) ∧
  Sets .crcConfigure specCrcConfigure (fun d => d.tm.crcs) (fun c d => upd d.tm.crcs c.idx (fun (u : Crcu) => { u with cfg := some (crcCfgOf c.payload) })) ∧
  Sets .crcCountersClear specCrcCountersClear (fun d => d.tm.crcs) (fun c d => upd d.tm.crcs c.idx (fun (u : Crcu) => { u with timeouts := 0, good := 0, bad := 0, repeat_ := 0, skip := 0 })) ∧
  Sets .regConfigure specRegConfigure (fun d => d.cap.regs) (fun c d => upd d.cap.regs c.idx (fun (r : Reg) => { r with cfg := some (regOf c.payload) })) ∧
  Sets .trigConfigure specTrigConfigure (fun d => d.cap.units) (fun c d => upd d.cap.units c.idx (fun (u : Trig) => { Trig.reset with cfg := some (trigOf c.payload), fires := u.fires, lastTag := u.lastTag })) ∧
  Replies .trigQuery specTrigQuery (fun c d => e32 (d.trig c.idx).fires ++ enc 6 (d.trig c.idx).lastTag ++ zeros 2)

/-- RESET_COUNTERS_CLEAR sets both counters to 0; BACKUP_WRITE writes its bytes and no others into the backup registers and
BACKUP_READ replies them; TAG_LIMITS sets the four caps, OUTLOOK_STREAM_SET the ranges and the period, FW_ACTIVATE makes the
staged slot the active and the boot slot, BLOCK_QUERY replies one state per block. -/
def Obligations.PowerAndPortCommandsTakeEffect : Prop :=
  Sets .resetCountersClear specResetCountersClear (fun d => (d.pwr.bkp.powerOns, d.pwr.bkp.pinResets)) (fun _ _ => (0, 0)) ∧
  Replies .backupRead specBackupRead (fun c d => slice d.pwr.bkp.regs (u8 c.payload 0) (u16 c.payload 2)) ∧
  Sets .backupWrite specBackupWrite (fun d => d.pwr.bkp.regs) (fun c d => overwrite d.pwr.bkp.regs (u8 c.payload 0) (c.payload.drop 4)) ∧
  (∀ (m : Bytes) (o : Nat) (p : Bytes), o + p.length ≤ m.length → slice (overwrite m o p) o p.length = p ∧ (overwrite m o p).length = m.length ∧ ∀ k, k < o ∨ o + p.length ≤ k → (overwrite m o p)[k]? = m[k]?) ∧
  Sets .tagLimits specTagLimits (fun d => d.nov.caps) (fun c _ => (List.range 4).map (fun (i : Nat) => u16 c.payload (2 * i))) ∧
  Sets .outlookStreamSet specOutlookStreamSet (fun d => (d.hp.h2.period, d.hp.h2.ranges)) (fun c _ => (u16 c.payload 0, (List.range (u8 c.payload 2)).map (fun (k : Nat) => (u32 c.payload (4 + 8 * k), u32 c.payload (8 + 8 * k))))) ∧
  Sets .fwActivate specFwActivate (fun d => (d.fw.active, d.fw.boot)) (fun _ d => (1 - d.fw.active, 1 - d.fw.active)) ∧
  Replies .blockQuery specBlockQuery (fun _ d => (List.range 56).map (fun (b : Nat) => byteOf (d.block b)))

/-- On a running device each of these rows carries out its own effect, under the conditions its rule names, and exec answers
that state. On a port that answers and has a control space (H0, H1, H3): create and delete of the control ring, doorbells,
claim, complete, acknowledge, register writes; HC_IRQ_VEC and the opening of a masked MSI-X vector. -/
def Obligations.ControlSpaceRowsComplete : Prop :=
  (∀ (s : State) (p : Fin 4), s.dev.portUp p.val = true → p.val ≠ 2 →
    GivesCtl s (.hcCtlCreate p) (fun u => u.ctlWrite p.val 0x24 1)) ∧
  (∀ (s : State) (p : Fin 4), s.dev.portUp p.val = true → p.val ≠ 2 →
    GivesCtl s (.hcCtlDelete p) (fun u => u.ctlWrite p.val 0x24 2)) ∧
  (∀ (s : State) (p : Fin 4) (ring : Fin 128) (tail : Nat), s.dev.portUp p.val = true → p.val ≠ 2 →
    GivesCtl s (.hcSqDb p ring tail) (fun u => u.sqDoorbell p.val ring.val tail)) ∧
  (∀ (s : State) (p : Fin 4) (ring : Fin 128) (head : Nat), s.dev.portUp p.val = true → p.val ≠ 2 →
    GivesCtl s (.hcCqDb p ring head) (fun u => u.withDev (u.dev.cqDoorbell p.val ring.val head))) ∧
  (∀ (s : State) (p : Fin 4) (arm : Fin 8) (tail : Nat), s.dev.portUp p.val = true → p.val ≠ 2 →
    GivesCtl s (.hcYardDb p arm tail) (fun u => u.withDev (u.dev.yardDoorbell p.val arm.val tail))) ∧
  (∀ (s : State) (p eng ring : Fin 4) (head : Nat), s.dev.portUp p.val = true → p.val ≠ 2 →
    GivesCtl s (.hcFlumeDb p eng ring head) (fun u => u.withDev (u.dev.flumeDoorbell p.val eng.val ring.val head))) ∧
  (∀ (s : State) (p : Fin 4), s.dev.portUp p.val = true → p.val ≠ 2 →
    GivesCtl s (.hcEvClaim p) (fun u => u.withDev ((u.dev.claim p.val).send (.reg (u.dev.claimWord p.val))))) ∧
  (∀ (s : State) (p : Fin 4) (source : Fin 1024), s.dev.portUp p.val = true → p.val ≠ 2 →
    GivesCtl s (.hcEvComplete p source) (fun u => u.withDev (u.dev.complete p.val source.val))) ∧
  (∀ (s : State) (p : Fin 4) (source : Fin 1024) (mask : Nat), s.dev.portUp p.val = true → p.val ≠ 2 →
    GivesCtl s (.hcEvAck p source mask) (fun u => u.withDev (u.dev.ackWrite p.val source.val mask))) ∧
  (∀ (s : State) (p : Fin 4) (addr value : Nat), s.dev.portUp p.val = true → p.val ≠ 2 →
    GivesCtl s (.registerWrite p addr value) (fun u => u.ctlWrite p.val addr value)) ∧
  (∀ (s : State) (hi : Bool) (mask : Nat), s.dev.running = true →
    Gives s (.hcIrqVecClear hi mask) (fun d => d.irqClear hi mask)) ∧
  (∀ (s : State) (p : Fin 2) (w : MsixWrite), s.dev.running = true → s.dev.portUp p.val = true →
    Gives s (.msixGateOpen p w) (fun d => d.msixWrite p.val w))

/-- On a running device each of these rows carries out its own effect, under the conditions its rule names, and exec answers
that state. An H2 datagram that is whole, of its kind and length, from the session's source, authentic and not accepted
before takes effect; SETUP under its pre-shared key; repeats and timeouts; an H3 transaction in its frame with a good CRC is
applied, read or answered. -/
def Obligations.TransportRowsComplete : Prop :=
  (∀ (s : State) (src : Nat) (g kp : Bytes), s.dev.running = true → s.dev.portUp 2 = true → dgWhole g = true → u8 g 0 = 0x01 → (dgBody g).length = 24 → s.dev.psk (u8 (dgBody g) 0) = some kp → dgTagOk kp g = true → s.dev.hp.h2.nonces.contains (slice (dgBody g) 4 16) = false → u32 g 4 = 0 →
    Gives s (.h2Setup src g) (fun d => d.setup src kp (dgBody g))) ∧
  (∀ (s : State) (src : Nat) (g : Bytes) (x y : H2Session), s.dev.portUp 2 = true → s.dev.hp.h2.session = some x → dgWhole g = true →
    src = x.source → u32 g 4 = x.id → dgTagOk x.key g = true → x.accept (u64 g 8) = some y →
    (u8 g 0 = 0x10 → 4 ≤ u16 g 2 → exec (.h2Command src g) s = .next (s.fresh.h2Place y g)) ∧
    (u8 g 0 = 0x11 → u16 g 2 = 8 → exec (.h2CqAck src g) s =
      .next ((s.fresh.h2Mark y).withDev ((s.fresh.h2Mark y).dev.cqDoorbell 2 (u16 (dgBody g) 0) (u32 (dgBody g) 4)))) ∧
    (u8 g 0 = 0x12 → u16 g 2 = 0 → exec (.h2Keepalive src g) s =
      .next ((s.fresh.h2Mark y).withDev ((s.fresh.h2Mark y).dev.h2Send 0x22
        (e32 s.dev.stk.number ++ e32 ((s.fresh.h2Mark y).dev.controlRing 2).sqFree))))) ∧
  (∀ (s : State) (ring : Fin 128), s.dev.running = true → (s.dev.ring ring.val).state ≠ 0 → (s.dev.ring ring.val).port = 2 →
    exec (.h2RetransmitTimeout ring) s = .next (s.fresh.completionDgram ring.val (s.dev.ring ring.val).cqHead (s.dev.ring ring.val).cqUsed)) ∧
  (∀ (s : State) (v : Fin 64), s.dev.running = true → s.dev.vecSources 2 v.val ≠ [] → (s.dev.vec 2 v.val).again = true → (s.dev.vec 2 v.val).parked = false →
    Gives s (.h2EventRepeat v) (fun d => d.h2Send 0x31 (d.eventBody v.val))) ∧
  (∀ (s : State), s.dev.running = true →
    Gives s (.h2SessionTimeout) (fun d => d.loseH2)) ∧
  (∀ (s : State) (b : Bytes), s.dev.portUp 3 = true → u8 b 0 % 16 = 1 → spiWidthOk (u8 b 0) = true → b.length = 9 + u16 b 5 →
    u16 b 5 % 4 = 0 → 4 ≤ u16 b 5 → u16 b 5 ≤ 4096 → u16 b (7 + u16 b 5) = crc16 (b.take (7 + u16 b 5)) →
    exec (.h3Write b true) s =
      .next (let u := (s.fresh.withDev (s.fresh.dev.spiLanes (u8 b 0))).spiApply (u32 b 1) (slice b 7 (u16 b 5))
             u.withDev (u.dev.onPort 3 (fun (q : Port) => { q with lastWrite := 0 })))) ∧
  (∀ (s : State) (b : Bytes) (sent : Bool), s.dev.portUp 3 = true → u8 b 0 % 16 = 2 → spiWidthOk (u8 b 0) = true → 9 ≤ b.length →
    u16 b 7 = crc16 (b.take 7) →
    exec (.h3Read b sent) s =
      .next (let u := s.fresh.withDev (s.fresh.dev.spiLanes (u8 b 0))
             let d := if sent && decide (u32 b 1 ≤ 0x100) && decide (0x104 ≤ u32 b 1 + u16 b 5) then u.dev.claim 3 else u.dev
             u.withDev (d.send (.spi (spiReply ((List.range (u16 b 5)).map (fun (k : Nat) => u.spiByte (u32 b 1 + k)))))))) ∧
  (∀ (s : State) (b : Bytes), s.dev.running = true → s.dev.portUp 3 = true → u8 b 0 % 16 = 3 → spiWidthOk (u8 b 0) = true → 3 ≤ b.length → u16 b 1 = crc16 (b.take 1) →
    Gives s (.h3Status b) (fun d => ((d.spiLanes (u8 b 0)).onPort 3 (fun (q : Port) => { q with lastWrite := 1 })).send (.spi (spiReply (e32 (d.spiLanes (u8 b 0)).spiStatus))))) ∧
  (∀ (s : State), s.dev.running = true → s.dev.isOpen 3 = true →
    Gives s (.h3SessionTimeout) (fun d => d.portLost 3))

/-- On a running device each of these rows carries out its own effect, under the conditions its rule names, and exec answers
that state. PERST#, Function Level Reset, link down, return and loss timeout, power state, link up, and the H2 PCS link. -/
def Obligations.LinkRowsComplete : Prop :=
  (∀ (s : State) (p : Fin 2), s.dev.running = true →
    Gives s (.perst p) (fun d => (d.portLost p.val).onPort p.val (fun (q : Port) => ({ q.endpointReset with speed := 0, width := 0 } : Port).link false))) ∧
  (∀ (s : State) (p : Fin 2), s.dev.running = true →
    Gives s (.functionLevelReset p) (fun d => (d.portLost p.val).onPort p.val Port.endpointReset)) ∧
  (∀ (s : State) (p : Fin 2), s.dev.running = true → (s.dev.prt p.val).linkUp = true →
    Gives s (.linkDown p) (fun d => d.onPort p.val (fun (q : Port) => ({ q with waiting := true } : Port).link false))) ∧
  (∀ (s : State) (p : Fin 2), s.dev.running = true → (s.dev.prt p.val).waiting = true →
    Gives s (.linkReturn p) (fun d => d.onPort p.val (fun (q : Port) => ({ q with waiting := false } : Port).link true))) ∧
  (∀ (s : State) (p : Fin 2), s.dev.running = true → (s.dev.prt p.val).waiting = true →
    Gives s (.linkLossTimeout p) (fun d => (d.portLost p.val).onPort p.val (fun (q : Port) => { q with waiting := false, speed := 0, width := 0 }))) ∧
  (∀ (s : State) (p : Fin 2) (d3 : Bool), s.dev.running = true →
    Gives s (.powerStateChange p d3) (fun d => d.onPort p.val (fun (q : Port) => { q with d3 := d3 }))) ∧
  (∀ (s : State) (p : Fin 2) (speed width : Fin 16), s.dev.running = true → s.dev.portUp p.val = true →
    Gives s (.pcieLinkUp p speed width) (fun d => d.onPort p.val (fun (q : Port) => ({ q with speed := speed.val, width := width.val } : Port).link true))) ∧
  (∀ (s : State) (up : Bool) (speed : Fin 4), s.dev.running = true → s.dev.portUp 2 = true →
    Gives s (.h2PcsLinkChange up speed) (fun d => d.onPort 2 (fun (q : Port) => ({ q with speed := speed.val } : Port).link up)))

/-- On a running device each of these rows carries out its own effect, under the conditions its rule names, and exec answers
that state. The scanner's step, by-reference reads, fences and completion posts; the stroke boundary, the lift latch point
in the beacon or suction phase, lift complete of a segment whose axes ran, the discharge start in lift, the slack start in
discharge. -/
def Obligations.RingAndStrokeRowsComplete : Prop :=
  (∀ (s : State) (dma : Option Bytes), exec (.ringScan dma) s = .next ((s.fresh.withDev s.fresh.dev.runNow).scanStep dma)) ∧
  (∀ (s : State) (ring : Fin 128) (data : Option Bytes), s.dev.running = true →
    Gives s (.byRefPayloadRead ring data) (fun d => d.refRead ring.val data)) ∧
  (∀ (s : State) (ring : Fin 128), s.dev.running = true →
    Gives s (.fenceClear ring) (fun d => d.fenceClear ring.val)) ∧
  (∀ (s : State) (ring : Fin 128), exec (.completionPost ring) s = .next ((s.fresh.withDev s.fresh.dev.runNow.settleHolds).post ring.val)) ∧
  (∀ (s : State), s.dev.running = true →
    Gives s (.strokeBoundary) (fun d => d.strokeStart)) ∧
  (∀ (s : State), s.dev.running = true → s.dev.stk.phase = .beacon ∨ s.dev.stk.phase = .suction →
    Gives s (.liftLatchPoint) (fun d => d.latchPoint_)) ∧
  (∀ (s : State) (seg : Fin 16), s.dev.running = true → s.dev.stk.phase = .lift → (s.dev.seg seg.val).ran = true →
    Gives s (.liftComplete seg) (fun d => { d with stk := { d.stk with segDone := d.stk.segDone.set seg.val true } })) ∧
  (∀ (s : State), s.dev.running = true → s.dev.stk.phase = .lift →
    Gives s (.dischargeStart) (fun d => d.dischargeStart)) ∧
  (∀ s : State, s.dev.running = true → s.dev.stk.phase = .discharge →
    exec .slackStart s = .next { s.fresh with
      dev := s.fresh.dev.slackStart.streamOutlook { s.fresh.dev.slackStart with sent := [] }
      shown := { s.fresh.dev.slackStart with sent := [] } })

/-- On a running device each of these rows carries out its own effect, under the conditions its rule names, and exec answers
that state. Suction frames and slot closes in an open slot, stale ages, echoes, replies, the end of LISTEN, contention
(count up to 255, the back-off of R252 as detail, EV_SEGMENT_CONTENDED), the end of back-off and of STARTING, node loss,
cruises, joins and bus errors. -/
def Obligations.SegmentRowsComplete : Prop :=
  (∀ (s : State) (seg : Fin 16) (dt : Int) (ok : Bool) (f : Bytes) (e : SchEntry), s.dev.running = true → (s.dev.seg seg.val).slotNow = some e → s.dev.sucks = true → (s.dev.seg seg.val).cyclic = true →
    Gives s (.suctionFrame seg dt ok f) (fun d => d.suctionFrame seg.val e dt ok f)) ∧
  (∀ (s : State) (seg : Fin 16) (pos : Fin 8) (e : SchEntry), s.dev.running = true → (s.dev.seg seg.val).suctionOf pos.val = some e → s.dev.sucks = true → (s.dev.seg seg.val).cyclic = true → ((s.dev.seg seg.val).node pos.val).closed = false →
    Gives s (.suctionSlotClose seg pos) (fun d => let x := d.onSeg seg.val (fun (s : Seg) => s.onNode pos.val (fun (x : NodePos) => x.missed 3)); (x.rawNone seg.val pos.val (x.at_ (e.start * 80 + 160))).lateLift seg.val)) ∧
  (∀ (s : State) (axis : Fin 128), s.dev.running = true → 3 ≤ (s.dev.ax axis.val).age →
    Gives s (.staleAgeFault axis) (fun d => d.axFault axis.val 3 false)) ∧
  (∀ (s : State) (seg : Fin 16) (trip p : Nat) (ok : Bool) (f : Bytes), s.dev.running = true → (s.dev.seg seg.val).echo = some p → ((s.dev.seg seg.val).node p).echoWindow trip = none → frameFault ok f 7 (p + 1) (s.dev.stk.number % 256) (fun (k : Nat) => k == 0) = none →
    Gives s (.echoRsp seg trip ok f) (fun d => d.echoTaken seg.val p trip)) ∧
  (∀ (s : State) (seg : Fin 16) (p : Nat), s.dev.running = true → (s.dev.seg seg.val).echo = some p →
    Gives s (.echoTimeout seg) (fun d => d.echoMissed seg.val p 3)) ∧
  (∀ (s : State) (seg : Fin 16) (ok : Bool) (f : Bytes) (v : Svc), s.dev.running = true → (s.dev.seg seg.val).svc = some v → v.asked = true → frameFault ok f 5 (v.pos + 1) (s.dev.seg seg.val).txNo (replyLen f v.limit) = none →
    Gives s (.replyFrame seg ok f) (fun d => (d.replied seg.val v (u8 f 4) (slice f 7 (u16 f 5))).segPoll seg.val)) ∧
  (∀ (s : State) (seg : Fin 16) (v : Svc), s.dev.running = true → (s.dev.seg seg.val).svc = some v → v.asked = true →
    Gives s (.pollNoReply seg) (fun d => (d.unanswered seg.val v 3).segPoll seg.val)) ∧
  (∀ (s : State) (seg : Fin 16), s.dev.running = true → (s.dev.seg seg.val).state = 1 → s.dev.listenStrokes ≤ (s.dev.seg seg.val).strokes →
    Gives s (.listenEnd seg) (fun d => d.onSeg seg.val (fun (g : Seg) => g.toState 3))) ∧
  (∀ (s : State) (seg : Fin 16), s.dev.running = true → (s.dev.seg seg.val).state = 1 →
    (let k := min 255 ((s.dev.seg seg.val).contentions + 1)
     let b := 1 + crc32c (e64 Config.serial ++ [byteOf seg.val, byteOf (k % 256)]) % 64
     Gives s (.listenTraffic seg) (fun d =>
       (d.onSeg seg.val (fun (g : Seg) => { g.toState 2 with contentions := k, backoffMs := b, events := setBit (g.toState 2).events 0 })).finishHold
         (fun (h : Hold) => h == .segStart seg.val) ST.contended b [] none))) ∧
  (∀ (s : State) (seg : Fin 16), s.dev.running = true → (s.dev.seg seg.val).state = 2 →
    Gives s (.backoffEnd seg) (fun d => d.onSeg seg.val (fun (g : Seg) => { g.toState 0 with backoffMs := 0 }))) ∧
  (∀ (s : State) (seg : Fin 16), s.dev.running = true → (s.dev.seg seg.val).started = true →
    Gives s (.startingEnd seg) (fun d => 
      (((d.seg seg.val).suctions.foldl (fun (d : Dev) (e : SchEntry) =>
        if 16 ≤ ((s.dev.seg seg.val).node e.pos).okRun then
          d.onSeg seg.val (fun (g : Seg) => g.onNode e.pos (fun (x : NodePos) => { x.cruise with state := 3, found := true }))
        else d.onSeg seg.val (fun (g : Seg) => g.onNode e.pos (fun (x : NodePos) => x.leave 1))) d).onSeg seg.val (fun (g : Seg) => g.toState 4)).startCheck seg.val)) ∧
  (∀ (s : State) (seg : Fin 16) (pos : Fin 8), s.dev.running = true → 3 ≤ ((s.dev.seg seg.val).node pos.val).state → ((s.dev.seg seg.val).node pos.val).state ≤ 5 → 16 ≤ ((s.dev.seg seg.val).node pos.val).missRun →
    Gives s (.nodeLost seg pos) (fun d => (d.onSeg seg.val (fun (g : Seg) => { g with events := setBit g.events 3 })).nodeGone seg.val pos.val)) ∧
  (∀ (s : State) (seg : Fin 16) (pos : Fin 8), s.dev.running = true → ((s.dev.seg seg.val).node pos.val).cruising = true → ((s.dev.seg seg.val).node pos.val).read = true →
    Gives s (.cruiseEnd seg pos) (fun d => d.cruiseEnd seg.val pos.val)) ∧
  (∀ (s : State) (seg : Fin 16) (pos : Fin 8), s.dev.running = true → ((s.dev.seg seg.val).node pos.val).state < 3 →
    Gives s (.nodeJoinTimeout seg pos) (fun d => d.runChecks seg.val pos.val (fun (d : Dev) (k : PosCheck) => (d.onPwr (fun (p : Pwr) => { p with posChecked := p.posChecked + 1 })).posFailed k.axis))) ∧
  (∀ (s : State) (seg : Fin 16), s.dev.running = true → (s.dev.seg seg.val).busThr ≤ (s.dev.seg seg.val).errorSum - (s.dev.seg seg.val).spanBase →
    Gives s (.segmentBusErrors seg) (fun d => d.onSeg seg.val (fun (g : Seg) => { g with events := setBit g.events 7 })))

/-- On a running device each of these rows carries out its own effect, under the conditions its rule names, and exec answers
that state. Following-error, standstill, quick-stop and manual timeouts, injection and ramp ends, feedback samples, edges
and pulses of a source the axis reads. -/
def Obligations.AxisRowsComplete : Prop :=
  (∀ (s : State) (axis : Fin 128), s.dev.running = true → (s.dev.ax axis.val).lim.feLimit ≠ 0 → 0 < (s.dev.ax axis.val).feCount → (s.dev.ax axis.val).lim.feTime ≤ (s.dev.ax axis.val).feCount →
    Gives s (.feCountExpiry axis) (fun d => d.axFault axis.val 1 ((s.dev.ax axis.val).lim.reactFe == 1))) ∧
  (∀ (s : State) (axis : Fin 128), s.dev.running = true → (s.dev.ax axis.val).computed = true → (s.dev.ax axis.val).standstill = false → 0 < (s.dev.ax axis.val).ssCount → (s.dev.ax axis.val).lim.ssTime ≤ (s.dev.ax axis.val).ssCount →
    Gives s (.standstillReached axis) (fun d => 
      let x := (d.onAx axis.val (fun (a : Axis) => { a with standstill := true, events := setBit a.events 2 })).quickOff axis.val
      if (x.safAx axis.val).ss1 then x.safSto axis.val true else x)) ∧
  (∀ (s : State) (axis : Fin 128), s.dev.running = true → (s.dev.ax axis.val).computed = true → ((s.dev.ax axis.val).stop = 4 ∨ (s.dev.ax axis.val).ramping = true) → (s.dev.ax axis.val).standstill = false → (s.dev.ax axis.val).lim.qsTimeout ≠ 0 → (s.dev.ax axis.val).lim.qsTimeout < (s.dev.ax axis.val).qsCount →
    Gives s (.qsTimeout axis) (fun d => (d.onAx axis.val (fun (a : Axis) => { a with events := setBit a.events 4 })).qsOff axis.val)) ∧
  (∀ (s : State) (axis : Fin 128), s.dev.running = true → ((s.dev.ax axis.val).state = 2 ∨ (s.dev.ax axis.val).state = 3) → (s.dev.ax axis.val).lim.manTimeout ≠ 0 → (s.dev.ax axis.val).lim.manTimeout < (s.dev.ax axis.val).manCount →
    Gives s (.manualTimeout axis) (fun d => d.axFault axis.val 9 ((s.dev.ax axis.val).lim.reactManual == 1))) ∧
  (∀ (s : State) (axis : Fin 128) (j : Inj), s.dev.running = true → (s.dev.ax axis.val).inj = some j → j.duration ≤ j.k →
    Gives s (.injectEnd axis) (fun d => d.endInj axis.val false)) ∧
  (∀ (s : State) (axis : Fin 128), s.dev.running = true →
    Gives s (.rampEnd axis) (fun d => d.onPf axis.val Pf.rampEnd)) ∧
  (∀ (s : State) (ch : Fin 8) (sine cosine : Int) (mark : Bool) (ns : Nat), s.dev.running = true → s.dev.block (0x28 + ch.val) = 0 →
    Gives s (.scSample ch sine cosine mark ns) (fun d => d.scSample ch.val sine cosine mark ns)) ∧
  (∀ (s : State) (axis : Fin 128) (x y : Bool) (ns : Nat), s.dev.running = true → (s.dev.safAx axis.val).cfg.bSource = 2 →
    Gives s (.quadEdge axis x y true ns) (fun d => d.onSafAx axis.val (fun (z : SafAx) => z.edgeB x y))) ∧
  (∀ (s : State) (axis : Fin 128) (x y : Bool) (ns : Nat), s.dev.running = true → s.dev.reads axis.val 2 = true →
    Gives s (.quadEdge axis x y false ns) (fun d => (d.onFb axis.val (fun (f : Fb) => f.quadEdge x y)).keepCount axis.val (d.at_ ns))) ∧
  (∀ (s : State) (axis : Fin 128) (ns : Nat), s.dev.running = true → s.dev.reads axis.val 2 = true → (s.dev.fb axis.val).flag 0 = true →
    Gives s (.quadIndex axis ns) (fun d => (d.onFb axis.val Fb.quadIndex).latchAxis axis.val 2 0 true (d.at_ ns))) ∧
  (∀ (s : State) (axis : Fin 128) (st : Fin 8) (ns : Nat), s.dev.running = true → s.dev.reads axis.val 3 = true →
    Gives s (.hallEdge axis st ns) (fun d => (d.onFb axis.val (fun (f : Fb) => f.hallEdge st.val (d.at_ ns))).keepCount axis.val (d.at_ ns))) ∧
  (∀ (s : State) (axis : Fin 128), s.dev.running = true → s.dev.reads axis.val 3 = true →
    Gives s (.hallInterpTimeout axis) (fun d => d.onFb axis.val (fun (f : Fb) => { f with suspended := true }))) ∧
  (∀ (s : State) (pin : Fin 32) (up : Bool) (ns : Nat), s.dev.running = true →
    Gives s (.stepEdge pin up ns) (fun d => { d with pfs := d.pfs.map (fun (p : Pf) =>
        if p.stepDir.enabled && p.stepDir.pin == pin.val then { p with stepDir := p.stepDir.step up (d.at_ ns) } else p) }))

/-- On a running device each of these rows carries out its own effect, under the conditions its rule names, and exec answers
that state. Period boundary and centre, bootstrap refresh, trips, VDS detections, high-side supplies, precharge, offsets,
the STO inputs, VGATE, and the reading of a stage's ident record. -/
def Obligations.StageRowsComplete : Prop :=
  (∀ (s : State) (stage : Fin 8) (ns : Nat), s.dev.running = true →
    Gives s (.pwmPeriodBoundary stage ns) (fun d => d.stageBoundary stage.val ns)) ∧
  (∀ (s : State) (stage : Fin 8) (codes : List Int) (volts : Nat), s.dev.running = true →
    Gives s (.pwmCenter stage codes volts) (fun d => d.stageCentre stage.val codes volts)) ∧
  (∀ (s : State) (stage : Fin 8) (hb : Fin 4), s.dev.running = true →
    Gives s (.bootstrapRefresh stage hb) (fun d => d.onStg stage.val (fun (x : Stg) => x.refreshHb hb.val))) ∧
  (∀ (s : State) (stage : Fin 8) (on : Bool), s.dev.running = true →
    Gives s (.tripInput true stage on) (fun d => { d with gtrip := on, stgs := d.stgs.map (fun (x : Stg) => x.tripInput true on) })) ∧
  (∀ (s : State) (stage : Fin 8) (on : Bool), s.dev.running = true →
    Gives s (.tripInput false stage on) (fun d => d.onStg stage.val (fun (x : Stg) => x.tripInput false on))) ∧
  (∀ (s : State) (stage : Fin 8) (hb : Fin 4) (high : Bool), s.dev.running = true → ((s.dev.stg stage.val).hb hb.val).mayConduct high = true →
    Gives s (.vdsDetection stage hb high) (fun d => d.onStg stage.val (fun (x : Stg) => x.vds hb.val))) ∧
  (∀ (s : State) (stage : Fin 8) (hb : Fin 4), s.dev.running = true → ((s.dev.stg stage.val).hb hb.val).uv = false →
    Gives s (.hsSupplyUv stage hb) (fun d => d.onStg stage.val (fun (x : Stg) => x.uvLow hb.val))) ∧
  (∀ (s : State) (stage : Fin 8) (hb : Fin 4), s.dev.running = true →
    Gives s (.hsSupplyRecover stage hb) (fun d => d.onStg stage.val (fun (x : Stg) => x.uvHigh hb.val))) ∧
  (∀ (s : State) (stage : Fin 8), s.dev.running = true →
    Gives s (.prechargeEnd stage) (fun d => d.onStg stage.val (fun (x : Stg) => if x.precharging then { x with precharged := true } else x))) ∧
  (∀ (s : State) (stage : Fin 8) (l : List Int), s.dev.running = true → (s.dev.stg stage.val).measuring = true → l.length = 4 →
    Gives s (.stageOffsetDone stage l) (fun d => 
      (d.onStg stage.val (fun (x : Stg) => { x with measuring := false, ready := true, offsets := l })).finishHold
        (fun (h : Hold) => h == .stage stage.val) ST.ok 0 (l.flatMap eS16) none)) ∧
  (∀ (s : State), s.dev.running = true →
    Gives s (.stoInputLow false) (fun d => d.permits false d.permitB)) ∧
  (∀ (s : State), s.dev.running = true →
    Gives s (.stoInputLow true) (fun d => d.permits d.permitA false)) ∧
  (∀ (s : State) (stage : Fin 8), s.dev.running = true →
    Gives s (.stoSwitchClose stage) (fun d => (d.permits true true).onStg stage.val (fun (x : Stg) => x.gateGood d.vgate))) ∧
  (∀ (s : State), s.dev.running = true →
    Gives s (.vgateUv) (fun d => { d with vgate := false, stgs := d.stgs.map (fun (x : Stg) => { x.off with gateOk := false }) })) ∧
  (∀ (s : State), s.dev.running = true →
    Gives s (.vgateRecover) (fun d => { d with vgate := true, stgs := d.stgs.map (fun (x : Stg) => x.gateGood true) })) ∧
  (∀ (s : State) (stage : Fin 8) (r : Bytes), s.dev.running = true → identValid r = true →
    Gives s (.stageIdentReadDone stage (some r)) (fun d => { d with idents := d.idents.set (128 + stage.val) (some r) }))

/-- On a running device each of these rows carries out its own effect, under the conditions its rule names, and exec answers
that state. Trigger inputs and timeouts, TRIGIO pulses and edges, mark samples, post windows, measurement windows, flume
blocks and ring errors; DI edges, supply dips, DO overload, open wire and overtemperature. -/
def Obligations.CaptureAndFieldRowsComplete : Prop :=
  (∀ (s : State) (unit : Fin 128) (value : Int) (ns : Nat) (g : TrigCfg), s.dev.running = true → (s.dev.trig unit.val).cfg = some g → g.kind ≠ 3 → g.kind ≠ 4 → g.kind ≠ 5 →
    Gives s (.triggerInput unit value ns) (fun d => d.unitInput unit.val value (d.at_ ns))) ∧
  (∀ (s : State) (unit : Fin 128) (ns : Nat) (g : TrigCfg), s.dev.running = true → (s.dev.trig unit.val).cfg = some g →
    Gives s (.triggerTimeout unit ns) (fun d => d.unitStep unit.val ((s.dev.trig unit.val).expire g (d.at_ ns)))) ∧
  (∀ (s : State) (pin : Fin 4) (ns : Nat), s.dev.running = true →
    Gives s (.trigioPulseEnd pin ns) (fun d => { d with cap := { d.cap with pins := upd d.cap.pins pin.val (fun (p : Pin) =>
        if p.dir = 1 ∧ p.level ∧ p.endAt ≤ d.at_ ns then { p with level := false } else p) } })) ∧
  (∀ (s : State) (ch : Fin 64), s.dev.running = true →
    Gives s (.capPostDone ch) (fun d => { d with cap := d.cap.postDone ch.val })) ∧
  (∀ (s : State) (ch : Fin 64), s.dev.running = true →
    Gives s (.measWindowEnd ch) (fun d => { d with cap := d.cap.windowEnd ch.val })) ∧
  (∀ (s : State) (ch : Fin 64) (ns : Nat), s.dev.running = true →
    Gives s (.flumeBlockFlush ch ns) (fun d => { d with cap := d.cap.flush ch.val (d.at_ ns) })) ∧
  (∀ (s : State) (eng ring : Fin 4), s.dev.running = true →
    Gives s (.flumeBlockCopy eng ring) (fun d => d.flumeCopy eng.val ring.val)) ∧
  (∀ (s : State) (eng ring : Fin 4), s.dev.running = true →
    Gives s (.flumeRingError eng ring) (fun d => { d with cap := d.cap.ringError eng.val ring.val })) ∧
  (∀ (s : State) (di : Fin 32) (level : Bool) (ns : Nat), s.dev.running = true →
    Gives s (.diEdgeAccepted di level ns) (fun d => d.diEdge di.val level ns)) ∧
  (∀ (s : State) (mv : Nat), s.dev.running = true → mv < 18000 →
    Gives s (.fieldDipBegin mv) (fun d => { d with io := d.io.dipBegin mv })) ∧
  (∀ (s : State) (mv : Nat), s.dev.running = true →
    Gives s (.fieldDipEnd mv) (fun d => { d with io := d.io.dipEnd mv })) ∧
  (∀ (s : State) (mv : Nat), s.dev.running = true →
    Gives s (.fieldSupplyGood mv) (fun d => { d with io := d.io.supplyGood mv })) ∧
  (∀ (s : State) (n : Fin 16), s.dev.running = true → (s.dev.dout n.val).on = true →
    Gives s (.doOverload n) (fun d => d.onDo n.val (fun (x : Do) => if x.on then x.overloaded else x))) ∧
  (∀ (s : State) (n : Fin 16), s.dev.running = true →
    Gives s (.doOverloadRetry n) (fun d => d.onDo n.val Do.retry)) ∧
  (∀ (s : State) (n : Fin 16) (present : Bool) (v : Nat), s.dev.running = true →
    Gives s (.doOpenWire n present v) (fun d => 
      ({ d with io := { d.io with vdo := if n.val < 8 then d.io.vdo / 65536 * 65536 + sat16 v else sat16 v * 65536 + d.io.vdo % 65536 } } : Dev).onDo n.val
        (fun (x : Do) => x.wire present (sat16 v)))) ∧
  (∀ (s : State) (n : Fin 16) (hot : Bool), s.dev.running = true →
    Gives s (.doOvertemp n hot) (fun d => d.onDo n.val (fun (x : Do) => x.temp hot))) ∧
  (∀ (s : State) (pin : Fin 4) (level : Bool) (ns : Nat), s.dev.running = true → (s.dev.cap.pins.getD pin.val Pin.reset).dir = 0 → (s.dev.cap.pins.getD pin.val Pin.reset).level ≠ level →
    Gives s (.trigioInputEdge pin level ns) (fun d => 
      let x : Dev := { d with cap := { d.cap with pins := upd d.cap.pins pin.val (fun (p : Pin) => { p with level := level }) } }
      let y := (x.latchAll 3 pin.val level (d.at_ ns)).feedUnits 2 pin.val (b2n level : Nat) (d.at_ ns)
      { y with cap := y.cap.feedEdge 2 pin.val level (d.at_ ns) })) ∧
  (∀ (s : State) (input : Fin 16) (code ns : Nat), s.dev.running = true → code ≤ 4095 →
    Gives s (.markInputSample input code ns) (fun d => 
      let y := d.feedUnits 0 input.val (code : Nat) (d.at_ ns)
      { y with cap := y.cap.feed 0 input.val code (e32 code ++ e32 0) (0x20 * b2n (code == 0 || code == 4095)) (d.at_ ns) })) ∧
  (∀ (s : State) (n : Fin 16), s.dev.running = true →
    Gives s (.doOverloadCleared n) (fun d => d.onDo n.val (fun (x : Do) => if x.overload && !x.held && x.on then { x with overload := false, retrying := false } else x)))

/-- On a running device each of these rows carries out its own effect, under the conditions its rule names, and exec answers
that state. Frames received and sent, errors and bus-off of a channel that takes part, recovery; compare units, PTP messages
and time stamps, check-value units. -/
def Obligations.CanTimeAndCheckRowsComplete : Prop :=
  (∀ (s : State) (ch : Fin 4) (id flags dlc ns : Nat) (data : Bytes), s.dev.running = true → (s.dev.can ch.val).takesPart = true → (s.dev.can ch.val).cfg.mode ≠ 3 → ¬ (bit flags 2 = true ∧ (bit flags 1 = true ∨ bit (s.dev.can ch.val).cfg.flags 3 = false)) →
    Gives s (.canRxFrame ch id flags dlc data ns) (fun d => d.canReceive ch.val (rxFrame id flags dlc data (d.canStamp ch.val ns)))) ∧
  (∀ (s : State) (ch : Fin 4) (r : Nat) (dataPhase : Bool) (ns : Nat) (delay : Option Nat), s.dev.running = true → (s.dev.can ch.val).takesPart = true → r ≠ 2 → r < 9 →
    Gives s (.canTxDone ch r dataPhase ns delay) (fun d => d.canTx ch.val r dataPhase ns delay)) ∧
  (∀ (s : State) (ch : Fin 4), s.dev.running = true → (s.dev.can ch.val).takesPart = true → 256 ≤ (s.dev.can ch.val).tec →
    Gives s (.canBusOff ch) (fun d => (d.onCan ch.val (fun (x : Can) => if x.stopping then x.busOff.stopped else x.busOff)).canSettle ch.val)) ∧
  (∀ (s : State) (ch : Fin 4), s.dev.running = true →
    Gives s (.canRecoveryDone ch) (fun d => d.onCan ch.val Can.recovered)) ∧
  (∀ (s : State) (unit : Fin 16) (ns : Nat), s.dev.running = true →
    Gives s (.cmpFire unit ns) (fun d => d.tcuFire unit.val (d.at_ ns) true)) ∧
  (∀ (s : State) (kind sq ns : Nat) (two : Bool), s.dev.running = true → s.dev.tm.ptp.cfg.mode ≠ 0 → (s.dev.prt 2).linkUp = true → ptpUsed kind = true →
    Gives s (.ptpMessageRx kind two sq ns) (fun d => (d.onPtp Ptp.start).ptpTake kind two sq)) ∧
  (∀ (s : State) (kind sq ns : Nat) (two : Bool), s.dev.running = true → s.dev.tm.ptp.cfg.mode ≠ 0 → (s.dev.prt 2).linkUp = true → ptpUsed kind = false →
    Gives s (.ptpMessageRx kind two sq ns) (fun d => d.onPtp (fun (p : Ptp) => p.start.drop))) ∧
  (∀ (s : State) (kind : Nat), s.dev.running = true → s.dev.tm.ptp.cfg.mode ≠ 0 → (s.dev.prt 2).linkUp = true →
    Gives s (.ptpMessageTx kind) (fun d => (d.onPtp Ptp.start).ptpSend kind)) ∧
  (∀ (s : State) (kind sq ns : Nat), s.dev.running = true → s.dev.tm.ptp.cfg.mode ≠ 0 →
    Gives s (.ptpTxTimestamp kind sq ns) (fun d => d.onPtp (fun (p : Ptp) => p.stamp ⟨kind % 16, sq % 65536, (d.at_ ns + (d.tm.ptp.latency.getD (d.prt 2).speed (0, 0)).1 / 1000) % cellSpan⟩))) ∧
  (∀ (s : State), s.dev.running = true → s.dev.tm.ptp.cfg.mode ≠ 0 →
    Gives s (.ptpMasterLoss) (fun d => (d.onPtp Ptp.start).ptpLoss)) ∧
  (∀ (s : State) (unit : Fin 8) (data : Bytes), s.dev.running = true →
    Gives s (.crcDataUnit unit data) (fun d => d.onCrcu unit.val (fun (u : Crcu) => u.unit data))) ∧
  (∀ (s : State) (unit : Fin 8), s.dev.running = true →
    Gives s (.crcTimeout unit) (fun d => d.onCrcu unit.val Crcu.timeout)) ∧
  (∀ (s : State) (ch : Fin 4) (kind : Fin 8) (dataPhase dominant : Bool), s.dev.running = true → (s.dev.can ch.val).takesPart = true → 1 ≤ kind.val → kind.val ≤ 6 →
    Gives s (.canErrorDetected ch kind dataPhase dominant) (fun d => d.onCan ch.val (fun (x : Can) => x.rxError kind.val dataPhase dominant)))

/-- On a running device each of these rows carries out its own effect, under the conditions its rule names, and exec answers
that state. Safety inputs, discrepancies, resets, readbacks, demands, SS1 and watchdog expiry, protective stop release; yard
fetches, coalescing timers and pending events, block release and timeout, migration timeout. -/
def Obligations.SafetyAndCompartmentRowsComplete : Prop :=
  (∀ (s : State) (input : Fin 16) (c1 c2 : Bool), s.dev.running = true →
    Gives s (.safetyInputChange input c1 c2) (fun d => (d.onSafIn input.val (fun (n : SafIn) => n.contacts c1 c2)).syncPaths false true)) ∧
  (∀ (s : State) (input : Fin 16), s.dev.running = true → (s.dev.safIn input.val).disagree = true → (s.dev.safIn input.val).fault = false →
    Gives s (.safetyInputDiscrepancy input) (fun d => d.inputFault input.val)) ∧
  (∀ (s : State) (input : Fin 16) (ms k : Nat), s.dev.running = true → (s.dev.safIn input.val).kind = 1 → (s.dev.safIn input.val).pulse = true → s.dev.owner 0x0B input.val = some k → pulseAccepted (1000000 * ms) = true →
    Gives s (.resetPulseEnd input ms) (fun d => (d.onSafIn input.val (fun (x : SafIn) => { x with pulse := false, stuck := false })).safReset k)) ∧
  (∀ (s : State) (input : Fin 16) (k : Nat), s.dev.running = true → (s.dev.safIn input.val).kind = 1 → (s.dev.safIn input.val).pulse = true → (s.dev.safIn input.val).stuck = false → s.dev.owner 0x0B input.val = some k →
    Gives s (.resetStuck input) (fun d => (d.onSafIn input.val (fun (x : SafIn) => { x with stuck := true })).safEvent k 3)) ∧
  (∀ (s : State) (axis : Fin 128), s.dev.running = true → 1 ≤ (s.dev.safAx axis.val).cfg.disc → (s.dev.safAx axis.val).cfg.disc ≤ (s.dev.safAx axis.val).discCount →
    Gives s (.positionDiscrepancy axis) (fun d => d.axSafFault axis.val 3)) ∧
  (∀ (s : State) (out : Fin 4) (k : Nat), s.dev.running = true → s.dev.owner 0x22 out.val = some k →
    Gives s (.safetyOutputReadbackFault out) (fun d => 
      let x := d.onSafOut out.val (fun (y : SafOut) => { y with fault := true })
      let y : Dev := { x with saf := { x.saf with axes := x.saf.axes.map (fun (z : SafAx) => if z.cfg.stoOut = out.val then { z with fault := true } else z) } }
      (((y.safFault k 6).log 0x40 (jObj 0x22 out.val) 6)).syncOutputs true true)) ∧
  (∀ (s : State) (stage : Fin 8) (k i : Nat), s.dev.running = true → s.dev.stageAxis stage.val = some i → s.dev.owner 0x05 stage.val = some k →
    Gives s (.stoSwitchReadbackFault stage) (fun d => 
      let x : Dev := { d with saf := { d.saf with stages := d.saf.stages.set stage.val true } }
      let y := x.onSafAx i (fun (z : SafAx) => { z with fault := true })
      (((y.safFault k 7).log 0x40 (0x20 + stage.val) 7)).syncStage stage.val true true)) ∧
  (∀ (s : State) (axis : Fin 128), s.dev.running = true → s.dev.demanded axis.val = true → s.dev.jointArm axis.val = none →
    Gives s (.unansweredDemand axis) (fun d => (d.axSafFault axis.val 8).openB axis.val)) ∧
  (∀ (s : State) (n : Fin 128), s.dev.running = true → (s.dev.safArm n.val).ss1 = true →
    Gives s (.ss1Expiry true n) (fun d => (d.safStoArm n.val true).syncPaths true true)) ∧
  (∀ (s : State) (n : Fin 128), s.dev.running = true → (s.dev.safAx n.val).ss1 = true →
    Gives s (.ss1Expiry false n) (fun d => (d.safSto n.val true).syncPaths true true)) ∧
  (∀ (s : State) (k : Fin 8), s.dev.running = true → (s.dev.safCmp k.val).msgOk = true →
    Gives s (.safetyWatchdogExpiry k) (fun d => (d.safExpire k.val).syncPaths false true)) ∧
  (∀ (s : State) (arm : Fin 8) (k : Nat), s.dev.running = true → s.dev.owner 0x02 arm.val = some k → max 1 (s.dev.safCmp k).release ≤ (s.dev.safArm arm.val).clear → (s.dev.arm arm.val).protective = true → (s.dev.safArm arm.val).demandB = false →
    Gives s (.protectiveStopRelease arm) (fun d => 
      if bit (d.safArm arm.val).flags 0 then d.onArm arm.val (fun (m : Arm) => { m with protective := false })
      else d.onSafArm arm.val (fun (x : SafArm) => { x with waitReset := true }))) ∧
  (∀ (s : State) (arm : Fin 8) (data : Option Bytes), s.dev.running = true →
    Gives s (.yardFetch arm data) (fun d => d.onArm arm.val (fun (m : Arm) => m.fetch data))) ∧
  (∀ (s : State) (p : Fin 4) (v : Fin 64), s.dev.running = true → (s.dev.vec p.val v.val).timer = true → (s.dev.vec p.val v.val).evTime ≠ 0 → (s.dev.vec p.val v.val).held = false →
    Gives s (.evCoalesceTimer p v) (fun d => d.conditionMet p.val v.val)) ∧
  (∀ (s : State) (source : Fin 1024), s.dev.running = true →
    Gives s (.eventPending source) (fun d => d.pendingEvent source.val)) ∧
  (∀ (s : State) (b : Fin 56), s.dev.running = true → s.dev.block b.val ≠ 0 →
    Gives s (.blockRelease b) (fun d => ((d.setBlock b.val 0).finishHold (fun (h : Hold) => h == .block b.val) ST.ok 0 [] none).compEvents (d.blockUsers b.val) 3)) ∧
  (∀ (s : State) (b : Fin 56), s.dev.running = true → s.dev.block b.val ≠ 0 →
    Gives s (.blockResetTimeout b) (fun d => (d.setBlock b.val 2).finishHold (fun (h : Hold) => h == .block b.val) ST.timeout 0 [] none)) ∧
  (∀ (s : State) (m : Migration), s.dev.running = true → s.dev.cps.migration = some m → m.phase = .quiesce →
    Gives s (.migrationQuiesceTimeout) (fun d => d.migEnd m ST.timeout))

/-- On a running device each of these rows carries out its own effect, under the conditions its rule names, and exec answers
that state. A sag below the thresholds, the commit and the abandonment of a save, arming, the exits from park, power-on and
pin reset, firmware and ECC errors, VBAT, a cistern dip. POWER_ON_RESET, PARK_EXIT in park and RESET_PIN outside a save
start the device. -/
def Obligations.PowerRowsComplete : Prop :=
  (∀ (s : State) (vmain vcist : Nat), s.dev.running = true → (vmain < 10200 ∨ vcist < 11000) →
    Gives s (.sagDeclared vmain vcist) (fun d => d.sag vmain vcist)) ∧
  (∀ (s : State) (a us mv : Nat), s.dev.pwr.supply = .saving a → 6700 ≤ mv → Gives s (.saveCommit us mv) (fun d => d.commitSave a us mv)) ∧
  (∀ (s : State) (a : Nat), s.dev.pwr.supply = .saving a →
    Gives s .saveAbandon (fun d => (d.onPwr (fun (p : Pwr) => { p with draft := none, lastSave := 3, supply := .park })).log 0x02 0xFFFF 0)) ∧
  (∀ (s : State) (mv : Nat), s.dev.running = true →
    Gives s (.saveArm mv) (fun d => d.onPwr (fun (p : Pwr) => { (if decide (11000 ≤ mv) && !d.pwr.faultHalt && !d.pwr.recovery then p.arm true else p) with vcist := mv }))) ∧
  (∀ (s : State) (x : ParkExit) (u : StartUp), s.dev.pwr.supply = .park → exec (.parkExit x u) s = .next (s.fresh.start (s.dev.pwr.resetWait || decide (x = .pin)) u)) ∧
  (∀ (s : State) (u : StartUp), exec (.powerOnReset u) s = .next (s.fresh.start false u)) ∧
  (∀ (s : State) (u : StartUp), (∀ a, s.dev.pwr.supply ≠ .saving a) → exec (.resetPin u) s = .next (s.fresh.start true u)) ∧
  (∀ (s : State) (u : StartUp) (a : Nat), s.dev.pwr.supply = .saving a → Gives s (.resetPin u) (fun d => d.onPwr (fun (p : Pwr) => { p with resetWait := true }))) ∧
  (∀ (s : State), s.dev.running = true →
    Gives s (.firmwareWatchdogExpiry) (fun d => d.faultHalt 0x20 0)) ∧
  (∀ (s : State), s.dev.running = true →
    Gives s (.eccErrorFirmware) (fun d => d.faultHalt 0x21 0)) ∧
  (∀ (s : State) (mv : Nat), s.dev.running = true →
    Gives s (.vbatLow mv) (fun d => d.onPwr (fun (p : Pwr) => { p with vbat := mv, vbatLow := decide (mv < 2200), events := if decide (mv < 2200) && !p.vbatLow then setBit p.events 4 else p.events }))) ∧
  (∀ (s : State) (mv : Nat), s.dev.running = true →
    Gives s (.cisternDip mv) (fun d => d.onPwr (fun (p : Pwr) => { (if mv < 11000 then p.arm false else p) with vcist := mv })))

/-- For Q15 operands: a zero divisor sets div_zero and returns the clamp by the sign of n, remainder n; a quotient not below 1
in magnitude sets div_overflow and returns the clamp by the signs, remainder 0; otherwise the fifteen non-restoring steps
after step 1 on the magnitudes give floor(|n| x 32,768 / |d|) and its remainder, the quotient takes the sign of n/d and the
remainder that of n, n x 32,768 = q d + r with |r| < |d|, and no flag is set. -/
def Obligations.DivisionIsExact : Prop :=
  ∀ n d : Int, -32768 ≤ n → n ≤ 32767 → -32768 ≤ d → d ≤ 32767 →
    (d = 0 → divs n d = ⟨if 0 ≤ n then 32767 else -32768, n, true, false⟩) ∧
    (d ≠ 0 → d.natAbs ≤ n.natAbs → divs n d = ⟨if (0 ≤ n ↔ 0 ≤ d) then 32767 else -32768, 0, false, true⟩) ∧
    (n.natAbs < d.natAbs →
      (let qm := (divsSteps n.natAbs d.natAbs).1
       let p := (divsSteps n.natAbs d.natAbs).2
       divs n d = ⟨if (0 ≤ n ↔ 0 ≤ d) then (qm : Int) else -(qm : Int), if n < 0 then -p else p, false, false⟩ ∧
       qm = n.natAbs * 32768 / d.natAbs ∧ p = ((n.natAbs * 32768 % d.natAbs : Nat) : Int)) ∧
      n * 32768 = (divs n d).q * d + (divs n d).r ∧ (divs n d).r.natAbs < d.natAbs)

/-- An accepted BANK_SWAP is timed at the lift latch point and completes: its axis changes in the active bank alone, so that
integrators, biquad states, obs_dist and hook user variables carry over; where the bank is active already the completion
says ST_OK_NO_CHANGE. -/
def Obligations.BankSwapKeepsLoopState : Prop :=
  specBankSwap.timing = .latch ∧
  ∀ (s : State) (c : Cmd), s.accepts specBankSwap c = true → c.idx < s.dev.axes.length →
    ∃ (t : State) (fl : Flight), exec (.bankSwap c) s = .next t ∧
      t.dev.axes = s.dev.axes.set c.idx { s.dev.ax c.idx with bank := u8 c.payload 0 } ∧
      (t.dev.ax c.idx).loop = (s.dev.ax c.idx).loop ∧ (t.dev.ax c.idx).users = (s.dev.ax c.idx).users ∧
      t.dev.nov.flights = s.dev.nov.flights ++ [fl] ∧ fl.cmd = c ∧ fl.stage = .post ∧
      fl.status = (if (s.dev.ax c.idx).bank = u8 c.payload 0 then ST.noChange else ST.ok)

/-- When 100 ms have passed on a block still in reset, the commands that wait for it complete with ST_TIMEOUT and the block
stays in reset_pending_clock; its release then opens it all the same; a second BLOCK_RESET of a block in reset completes at
once with ST_OK_NO_CHANGE and changes nothing else. -/
def Obligations.BlockResetTimeout : Prop :=
  (∀ (s : State) (b : Fin 56), s.dev.running = true → s.dev.cps.blocks.length = 56 → s.dev.block b.val ≠ 0 →
    ∃ t, exec (.blockResetTimeout b) s = .next t ∧ t.dev.block b.val = 2 ∧
      (∀ f ∈ s.dev.nov.flights, f.stage = .hold → f.hold = .block b.val →
        ∃ g ∈ t.dev.nov.flights, g.cmd = f.cmd ∧ g.stage = .post ∧ g.status = ST.timeout) ∧
      (∀ f ∈ t.dev.nov.flights, ¬ (f.stage = .hold ∧ f.hold = .block b.val)) ∧
      ∃ u, exec (.blockRelease b) t = .next u ∧ u.dev.block b.val = 0) ∧
  (∀ (s : State) (c : Cmd), s.accepts specBlockReset c = true → s.dev.block (u8 c.payload 0) ≠ 0 →
    ∃ (t : State) (fl : Flight), exec (.blockReset c) s = .next t ∧ t.dev = s.dev.booked t.dev ∧
      t.dev.nov.flights = s.dev.nov.flights ++ [fl] ∧ fl.cmd = c ∧ fl.stage = .post ∧ fl.status = ST.noChange ∧
      fl.eff = s.dev.stk.number)

/-- A message issued on vector v of H3 sets bit v of HC_IRQ_VEC and no other; IRQ_N is driven low exactly while some bit of
HC_IRQ_VEC is set whose mask bit is clear; after reset every vector is masked. -/
def Obligations.IrqLineOfH3 : Prop :=
  (∀ (d : Dev) (v : Nat), d.hp.ports.length = 4 → v < 64 →
    ∀ i, bit ((d.issue 3 v).prt 3).irqVec i = (bit (d.prt 3).irqVec i || decide (i = v))) ∧
  (∀ q : Port, q.irq = true ↔ ∃ i, bit q.irqVec i = true ∧ bit q.irqMask i = false) ∧
  (∀ v < 64, bit (State.reset.dev.prt 3).irqMask v = true)

/-- On a running device a VBAT reading sets vbat_low exactly when it is below 2.2 V, and EV_PWR_VBAT_LOW (bit 4) becomes set
when vbat_low becomes set; no other event bit changes. -/
def Obligations.VbatLowAndItsEvent : Prop :=
  ∀ (s : State) (mv : Nat), s.dev.running = true →
    ∃ t, exec (.vbatLow mv) s = .next t ∧ (t.dev.pwr.vbatLow = true ↔ mv < 2200) ∧
      (∀ i, bit t.dev.pwr.events i = (bit s.dev.pwr.events i || (decide (i = 4) && decide (mv < 2200) && !s.dev.pwr.vbatLow)))

/-- For every pair of ratios with positive denominators, every sync length L and every u, G(u) is the floor of the rational
number of R169's table. -/
def Obligations.GearFloorsOnce : Prop :=
  ∀ (no nn len u : Int) (d_o d_n : Nat), 0 < d_o → 0 < d_n →
    (let ro : ℚ := (no : ℚ) / d_o
     let rn : ℚ := (nn : ℚ) / d_n
     gearG no d_o nn d_n len u =
       (if (len = 0 ∧ u < 0) ∨ (0 < len ∧ u < 0) ∨ (len < 0 ∧ 0 < u) then ⌊ro * u⌋
        else if len ≠ 0 ∧ u.natAbs ≤ len.natAbs then ⌊ro * u + (rn - ro) * u ^ 2 / (2 * len)⌋
        else ⌊ro * len + (rn - ro) * len / 2 + rn * (u - len)⌋))

/-- For each cycle length of R31 and every knot pair, the position of R92 in the last stroke of the cycle is p1, and the
velocity there is V1 divided by the cycle length, rounded half up. -/
def Obligations.KnotsMeet : Prop :=
  ∀ (k : Knots) (n : Nat), n = 4 ∨ n = 8 ∨ n = 16 ∨ n = 32 →
    interpPos k (n - 1) n = k.p1 ∧ interpVel k (n - 1) n = ⌊(k.v1 : ℚ) / n + 1 / 2⌋

/-- For every ramp with D > 0: a stroke never turns the velocity round nor raises its magnitude, which falls by D or to 0; after
as many strokes as |V| / D rounded up the velocity is 0, and from then on the position stays. -/
def Obligations.RampComesToRest : Prop :=
  ∀ r : Ramp, 0 < r.d →
    (r.step.v.natAbs = r.v.natAbs - r.d.natAbs ∧ 0 ≤ r.step.v * r.v ∧ r.step.p = r.p + r.step.v ∧ r.step.d = r.d) ∧
    (∀ n : Nat, r.v.natAbs ≤ n * r.d.natAbs → (r.after n).v = 0 ∧ (r.after (n + 1)).pos = (r.after n).pos)

/-- For every type, address and sequence byte and every payload whose length the type allows, the frame bytes of R218 with the
CRC of their type pass the symbol, CRC and header checks; with one of the three header bytes other than expected the header
check fails, and with a symbol error the symbol check. -/
def Obligations.FramesPassTheirOwnChecks : Prop :=
  ∀ (type addr sq : Nat) (p : Bytes) (lenOk : Nat → Bool), type < 256 → addr < 256 → sq < 256 → lenOk p.length = true →
    frameFault true (mkFrame type addr sq p) type addr sq lenOk = none ∧
    frameFault false (mkFrame type addr sq p) type addr sq lenOk = some 4 ∧
    (∀ t a q : Nat, (t, a, q) ≠ (type, addr, sq) → frameFault true (mkFrame type addr sq p) t a q lenOk = some 6)

/-- While a stop category, halt or feed hold is in force on an axis, MOVE, GEAR_ENGAGE, CAM_ENGAGE, HOME_STALL and a
STEPDIR_CONFIGURE that enables leave every profile as it is, and AXIS_MANUAL_SET and an AXIS_MODE that asks for a running
mode leave every axis as it is. -/
def Obligations.StopRefusesMotion : Prop :=
  ∀ (s t : State) (c : Cmd), (s.dev.ax c.idx).stop ≠ 0 →
    (c.cls = 0x01 → exec (.move c) s = .next t → t.dev.pfs = s.dev.pfs) ∧
    (exec (.gearEngage c) s = .next t → t.dev.pfs = s.dev.pfs) ∧
    (exec (.camEngage c) s = .next t → t.dev.pfs = s.dev.pfs) ∧
    (exec (.homeStall c) s = .next t → t.dev.pfs = s.dev.pfs) ∧
    (u8 c.payload 0 = 1 → exec (.stepdirConfigure c) s = .next t → t.dev.pfs = s.dev.pfs) ∧
    (exec (.axisManualSet c) s = .next t → t.dev.axes = s.dev.axes) ∧
    (u8 c.payload 0 ≠ 1 → exec (.axisMode c) s = .next t → t.dev.axes = s.dev.axes)

/-- isqrt of a number below 2^256 is the largest integer whose square does not exceed it (R91); reduce with span 2^m is the
error in units of 2^m / 32,768, rounded half up and clamped to Q15 (R73); a Q15 result with the saturation bit set is
clamped once, and without it keeps the low 16 bits (R71). -/
def Obligations.ArithmeticOfTheLoop : Prop :=
  (∀ n : Nat, n < 2 ^ 256 → isqrt n * isqrt n ≤ n ∧ n < (isqrt n + 1) * (isqrt n + 1)) ∧
  (∀ (e : Int) (m : Nat), m ≤ 47 → reduce e m = max (-32768) (min 32767 ⌊(e : ℚ) * 32768 / 2 ^ m + 1 / 2⌋)) ∧
  (∀ v : Int, (q15 v true).1 = max (-32768) (min 32767 v) ∧ ((q15 v true).2 = true ↔ (q15 v true).1 ≠ v) ∧
    (q15 v false).1 % 65536 = v % 65536 ∧ -32768 ≤ (q15 v false).1 ∧ (q15 v false).1 ≤ 32767 ∧ (q15 v false).2 = false)
end

