-- ==== Sys2Proof/Laws/Memory.lean ====
section
/-! SUPPORT. The ring-area memory: every operation keeps its canonical form, and a byte reads as it was last
written. -/

namespace Sys2Proof.Machine

@[simp] theorem Memory.rising_nil (lo : Nat) : Memory.rising lo [] = true := rfl

theorem Memory.rising_cons {lo a : Nat} {b : Byte} {r : List Host.Cell} :
    Memory.rising lo ((a, b) :: r) = true ↔ lo ≤ a ∧ b ≠ 0 ∧ Memory.rising (a + 1) r = true := by
  simp [Memory.rising, and_assoc]

/-- A lower bound may be lowered. -/
theorem Memory.rising_mono {lo hi : Nat} {m : List Host.Cell} (h : lo ≤ hi) (hm : Memory.rising hi m = true) :
    Memory.rising lo m = true := by
  cases m with
  | nil => rfl
  | cons c r =>
    obtain ⟨a, b⟩ := c
    rw [Memory.rising_cons] at hm ⊢
    exact ⟨by omega, hm.2⟩

/-- Below its first address a canonical memory reads as 0. -/
theorem Memory.read_below {m : List Host.Cell} : ∀ {lo a : Nat}, Memory.rising lo m = true → a < lo → Memory.read m a = 0 := by
  induction m with
  | nil => intro _ _ _ _; rfl
  | cons c r ih =>
    obtain ⟨k, b⟩ := c
    intro lo a hm ha
    rw [Memory.rising_cons] at hm
    rw [Memory.read, if_neg (by omega)]
    exact ih hm.2.2 (by omega)

/-- A write at or above the bound keeps the form. -/
theorem Memory.rising_write {m : List Host.Cell} (v : Byte) :
    ∀ {lo a : Nat}, Memory.rising lo m = true → lo ≤ a → Memory.rising lo (Memory.write m a v) = true := by
  induction m with
  | nil =>
    intro lo a _ ha
    unfold Memory.write
    split
    · rfl
    · rw [Memory.rising_cons]
      exact ⟨ha, ‹_›, rfl⟩
  | cons c r ih =>
    obtain ⟨k, b⟩ := c
    intro lo a hm ha
    have hc := Memory.rising_cons.mp hm
    unfold Memory.write
    split
    · split
      · exact hm
      · rw [Memory.rising_cons, Memory.rising_cons]
        exact ⟨ha, ‹_›, by omega, hc.2⟩
    · split
      · split
        · exact Memory.rising_mono (by omega) hc.2.2
        · rw [Memory.rising_cons]; subst a
          exact ⟨ha, ‹_›, hc.2.2⟩
      · rw [Memory.rising_cons]
        exact ⟨hc.1, hc.2.1, ih hc.2.2 (by omega)⟩

@[simp] theorem Memory.wf_nil : Memory.wf [] = true := rfl

theorem Memory.wf_write {m : List Host.Cell} (a : Nat) (v : Byte) (h : Memory.wf m = true) :
    Memory.wf (Memory.write m a v) = true := Memory.rising_write v h (Nat.zero_le a)

theorem Memory.wf_writeN {m : List Host.Cell} (a : Nat) (bs : Bytes) (h : Memory.wf m = true) :
    Memory.wf (Memory.writeN m a bs) = true := by
  induction bs generalizing m a with
  | nil => exact h
  | cons b r ih => exact ih (a + 1) (Memory.wf_write a b h)

/-- A fold of byte writes keeps the form. -/
theorem Memory.wf_foldl {α : Type} (l : List α) (f : α → Nat) (g : α → Byte) {m : List Host.Cell} (h : Memory.wf m = true) :
    Memory.wf (l.foldl (fun (m : List Host.Cell) (x : α) => Memory.write m (f x) (g x)) m) = true := by
  induction l generalizing m with
  | nil => exact h
  | cons x r ih => exact ih (Memory.wf_write (f x) (g x) h)

theorem Memory.wf_writeRing {m : List Host.Cell} (port base slots size slot : Nat) (b : Bytes) (h : Memory.wf m = true) :
    Memory.wf (Memory.writeRing m port base slots size slot b) = true :=
  Memory.wf_foldl b.zipIdx (fun (x : Byte × Nat) => areaAddr port (base + (slot * size + x.2) % (slots * size)))
    (fun (x : Byte × Nat) => x.1) h

/-- The byte written is the byte read. -/
theorem Memory.read_write_same {m : List Host.Cell} (a : Nat) (v : Byte) :
    ∀ {lo : Nat}, Memory.rising lo m = true → Memory.read (Memory.write m a v) a = v := by
  induction m with
  | nil =>
    intro lo _
    unfold Memory.write
    split
    · subst v; rfl
    · simp [Memory.read]
  | cons c r ih =>
    obtain ⟨k, b⟩ := c
    intro lo hm
    have hc := Memory.rising_cons.mp hm
    unfold Memory.write
    split
    · split
      · subst v
        exact Memory.read_below (lo := k) (Memory.rising_cons.mpr ⟨Nat.le_refl k, hc.2⟩) ‹_›
      · simp [Memory.read]
    · split
      · split
        · subst v; subst a
          exact Memory.read_below hc.2.2 (by omega)
        · simp [Memory.read]
      · rw [Memory.read, if_neg ‹_›]
        exact ih hc.2.2

/-- Every other byte reads as before. -/
theorem Memory.read_write_other {m : List Host.Cell} {a x : Nat} (v : Byte) (hx : x ≠ a) :
    ∀ {lo : Nat}, Memory.rising lo m = true → Memory.read (Memory.write m a v) x = Memory.read m x := by
  induction m with
  | nil =>
    intro lo _
    unfold Memory.write
    split
    · rfl
    · simp only [Memory.read, if_neg hx]
  | cons c r ih =>
    obtain ⟨k, b⟩ := c
    intro lo hm
    have hc := Memory.rising_cons.mp hm
    unfold Memory.write
    split
    · split
      · rfl
      · rw [Memory.read, if_neg hx]
    · split
      · split
        · subst a
          rw [Memory.read, if_neg hx]
        · subst a
          simp [Memory.read, hx]
      · rw [Memory.read, Memory.read, ih hc.2.2]

end Sys2Proof.Machine
end

