-- ==== Sys2Proof/Laws/State.lean ====
section
/-! SUPPORT. What each update of the state leaves and what it writes, one lemma for each field, so that no proof
unfolds a record update. -/

namespace Sys2Proof.Machine

/-! ### The state -/

@[simp] theorem State.fresh_dev_stk (s : State) : s.fresh.dev.stk = s.dev.stk := rfl
@[simp] theorem State.fresh_dev_nov (s : State) : s.fresh.dev.nov = s.dev.nov := rfl
@[simp] theorem State.fresh_dev_cps (s : State) : s.fresh.dev.cps = s.dev.cps := rfl
@[simp] theorem State.fresh_dev_fw (s : State) : s.fresh.dev.fw = s.dev.fw := rfl
@[simp] theorem State.fresh_dev_axes (s : State) : s.fresh.dev.axes = s.dev.axes := rfl
@[simp] theorem State.fresh_dev_fbs (s : State) : s.fresh.dev.fbs = s.dev.fbs := rfl
@[simp] theorem State.fresh_dev_scs (s : State) : s.fresh.dev.scs = s.dev.scs := rfl
@[simp] theorem State.fresh_dev_eos (s : State) : s.fresh.dev.eos = s.dev.eos := rfl
@[simp] theorem State.fresh_dev_pfs (s : State) : s.fresh.dev.pfs = s.dev.pfs := rfl
@[simp] theorem State.fresh_dev_vms (s : State) : s.fresh.dev.vms = s.dev.vms := rfl
@[simp] theorem State.fresh_dev_cams (s : State) : s.fresh.dev.cams = s.dev.cams := rfl
@[simp] theorem State.fresh_dev_stgs (s : State) : s.fresh.dev.stgs = s.dev.stgs := rfl
@[simp] theorem State.fresh_dev_permitA (s : State) : s.fresh.dev.permitA = s.dev.permitA := rfl
@[simp] theorem State.fresh_dev_permitB (s : State) : s.fresh.dev.permitB = s.dev.permitB := rfl
@[simp] theorem State.fresh_dev_gtrip (s : State) : s.fresh.dev.gtrip = s.dev.gtrip := rfl
@[simp] theorem State.fresh_dev_vgate (s : State) : s.fresh.dev.vgate = s.dev.vgate := rfl
@[simp] theorem State.fresh_dev_segs (s : State) : s.fresh.dev.segs = s.dev.segs := rfl
@[simp] theorem State.fresh_dev_idents (s : State) : s.fresh.dev.idents = s.dev.idents := rfl
@[simp] theorem State.fresh_dev_arms (s : State) : s.fresh.dev.arms = s.dev.arms := rfl
@[simp] theorem State.fresh_dev_zones (s : State) : s.fresh.dev.zones = s.dev.zones := rfl
@[simp] theorem State.fresh_dev_claims (s : State) : s.fresh.dev.claims = s.dev.claims := rfl
@[simp] theorem State.fresh_dev_saf (s : State) : s.fresh.dev.saf = s.dev.saf := rfl
@[simp] theorem State.fresh_dev_cap (s : State) : s.fresh.dev.cap = s.dev.cap := rfl
@[simp] theorem State.fresh_dev_io (s : State) : s.fresh.dev.io = s.dev.io := rfl
@[simp] theorem State.fresh_dev_cans (s : State) : s.fresh.dev.cans = s.dev.cans := rfl
@[simp] theorem State.fresh_dev_tm (s : State) : s.fresh.dev.tm = s.dev.tm := rfl
@[simp] theorem State.fresh_dev_hp (s : State) : s.fresh.dev.hp = s.dev.hp := rfl
@[simp] theorem State.fresh_dev_pwr (s : State) : s.fresh.dev.pwr = s.dev.pwr := rfl
@[simp] theorem State.fresh_dev_free (s : State) : s.fresh.dev.free = s.dev.free := rfl
@[simp] theorem State.fresh_dev_sent (s : State) : s.fresh.dev.sent = [] := rfl
@[simp] theorem State.fresh_shown (s : State) : (s.fresh).shown = s.shown := rfl
@[simp] theorem State.fresh_mem (s : State) : (s.fresh).mem = s.mem := rfl
@[simp] theorem State.fresh_pending (s : State) : (s.fresh).pending = s.pending := rfl
@[simp] theorem State.withDev_dev (s : State) (d : Dev) : (s.withDev d).dev = d := rfl
@[simp] theorem State.withDev_shown (s : State) (d : Dev) : (s.withDev d).shown = s.shown := rfl
@[simp] theorem State.withDev_mem (s : State) (d : Dev) : (s.withDev d).mem = s.mem := rfl
@[simp] theorem State.withDev_pending (s : State) (d : Dev) : (s.withDev d).pending = s.pending := rfl
@[simp] theorem State.fresh_fresh (s : State) : s.fresh.fresh = s.fresh := rfl
@[simp] theorem Dev.reset_free : Dev.reset.free = 0 := rfl
@[simp] theorem Dev.reset_sent : Dev.reset.sent = [] := rfl

/-! ### `Dev.onAx` -/

@[simp] theorem Dev.onAx_stk (d : Dev) (i : Nat) (f : Axis → Axis) : (d.onAx i f).stk = d.stk := rfl
@[simp] theorem Dev.onAx_nov (d : Dev) (i : Nat) (f : Axis → Axis) : (d.onAx i f).nov = d.nov := rfl
@[simp] theorem Dev.onAx_cps (d : Dev) (i : Nat) (f : Axis → Axis) : (d.onAx i f).cps = d.cps := rfl
@[simp] theorem Dev.onAx_fw (d : Dev) (i : Nat) (f : Axis → Axis) : (d.onAx i f).fw = d.fw := rfl
@[simp] theorem Dev.onAx_axes (d : Dev) (i : Nat) (f : Axis → Axis) : (d.onAx i f).axes = upd d.axes i f := rfl
@[simp] theorem Dev.onAx_fbs (d : Dev) (i : Nat) (f : Axis → Axis) : (d.onAx i f).fbs = d.fbs := rfl
@[simp] theorem Dev.onAx_scs (d : Dev) (i : Nat) (f : Axis → Axis) : (d.onAx i f).scs = d.scs := rfl
@[simp] theorem Dev.onAx_eos (d : Dev) (i : Nat) (f : Axis → Axis) : (d.onAx i f).eos = d.eos := rfl
@[simp] theorem Dev.onAx_pfs (d : Dev) (i : Nat) (f : Axis → Axis) : (d.onAx i f).pfs = d.pfs := rfl
@[simp] theorem Dev.onAx_vms (d : Dev) (i : Nat) (f : Axis → Axis) : (d.onAx i f).vms = d.vms := rfl
@[simp] theorem Dev.onAx_cams (d : Dev) (i : Nat) (f : Axis → Axis) : (d.onAx i f).cams = d.cams := rfl
@[simp] theorem Dev.onAx_stgs (d : Dev) (i : Nat) (f : Axis → Axis) : (d.onAx i f).stgs = d.stgs := rfl
@[simp] theorem Dev.onAx_permitA (d : Dev) (i : Nat) (f : Axis → Axis) : (d.onAx i f).permitA = d.permitA := rfl
@[simp] theorem Dev.onAx_permitB (d : Dev) (i : Nat) (f : Axis → Axis) : (d.onAx i f).permitB = d.permitB := rfl
@[simp] theorem Dev.onAx_gtrip (d : Dev) (i : Nat) (f : Axis → Axis) : (d.onAx i f).gtrip = d.gtrip := rfl
@[simp] theorem Dev.onAx_vgate (d : Dev) (i : Nat) (f : Axis → Axis) : (d.onAx i f).vgate = d.vgate := rfl
@[simp] theorem Dev.onAx_segs (d : Dev) (i : Nat) (f : Axis → Axis) : (d.onAx i f).segs = d.segs := rfl
@[simp] theorem Dev.onAx_idents (d : Dev) (i : Nat) (f : Axis → Axis) : (d.onAx i f).idents = d.idents := rfl
@[simp] theorem Dev.onAx_arms (d : Dev) (i : Nat) (f : Axis → Axis) : (d.onAx i f).arms = d.arms := rfl
@[simp] theorem Dev.onAx_zones (d : Dev) (i : Nat) (f : Axis → Axis) : (d.onAx i f).zones = d.zones := rfl
@[simp] theorem Dev.onAx_claims (d : Dev) (i : Nat) (f : Axis → Axis) : (d.onAx i f).claims = d.claims := rfl
@[simp] theorem Dev.onAx_saf (d : Dev) (i : Nat) (f : Axis → Axis) : (d.onAx i f).saf = d.saf := rfl
@[simp] theorem Dev.onAx_cap (d : Dev) (i : Nat) (f : Axis → Axis) : (d.onAx i f).cap = d.cap := rfl
@[simp] theorem Dev.onAx_io (d : Dev) (i : Nat) (f : Axis → Axis) : (d.onAx i f).io = d.io := rfl
@[simp] theorem Dev.onAx_cans (d : Dev) (i : Nat) (f : Axis → Axis) : (d.onAx i f).cans = d.cans := rfl
@[simp] theorem Dev.onAx_tm (d : Dev) (i : Nat) (f : Axis → Axis) : (d.onAx i f).tm = d.tm := rfl
@[simp] theorem Dev.onAx_hp (d : Dev) (i : Nat) (f : Axis → Axis) : (d.onAx i f).hp = d.hp := rfl
@[simp] theorem Dev.onAx_pwr (d : Dev) (i : Nat) (f : Axis → Axis) : (d.onAx i f).pwr = d.pwr := rfl
@[simp] theorem Dev.onAx_free (d : Dev) (i : Nat) (f : Axis → Axis) : (d.onAx i f).free = d.free := rfl
@[simp] theorem Dev.onAx_sent (d : Dev) (i : Nat) (f : Axis → Axis) : (d.onAx i f).sent = d.sent := rfl

/-! ### `Dev.onFb` -/

@[simp] theorem Dev.onFb_stk (d : Dev) (i : Nat) (f : Fb → Fb) : (d.onFb i f).stk = d.stk := rfl
@[simp] theorem Dev.onFb_nov (d : Dev) (i : Nat) (f : Fb → Fb) : (d.onFb i f).nov = d.nov := rfl
@[simp] theorem Dev.onFb_cps (d : Dev) (i : Nat) (f : Fb → Fb) : (d.onFb i f).cps = d.cps := rfl
@[simp] theorem Dev.onFb_fw (d : Dev) (i : Nat) (f : Fb → Fb) : (d.onFb i f).fw = d.fw := rfl
@[simp] theorem Dev.onFb_axes (d : Dev) (i : Nat) (f : Fb → Fb) : (d.onFb i f).axes = d.axes := rfl
@[simp] theorem Dev.onFb_fbs (d : Dev) (i : Nat) (f : Fb → Fb) : (d.onFb i f).fbs = upd d.fbs i f := rfl
@[simp] theorem Dev.onFb_scs (d : Dev) (i : Nat) (f : Fb → Fb) : (d.onFb i f).scs = d.scs := rfl
@[simp] theorem Dev.onFb_eos (d : Dev) (i : Nat) (f : Fb → Fb) : (d.onFb i f).eos = d.eos := rfl
@[simp] theorem Dev.onFb_pfs (d : Dev) (i : Nat) (f : Fb → Fb) : (d.onFb i f).pfs = d.pfs := rfl
@[simp] theorem Dev.onFb_vms (d : Dev) (i : Nat) (f : Fb → Fb) : (d.onFb i f).vms = d.vms := rfl
@[simp] theorem Dev.onFb_cams (d : Dev) (i : Nat) (f : Fb → Fb) : (d.onFb i f).cams = d.cams := rfl
@[simp] theorem Dev.onFb_stgs (d : Dev) (i : Nat) (f : Fb → Fb) : (d.onFb i f).stgs = d.stgs := rfl
@[simp] theorem Dev.onFb_permitA (d : Dev) (i : Nat) (f : Fb → Fb) : (d.onFb i f).permitA = d.permitA := rfl
@[simp] theorem Dev.onFb_permitB (d : Dev) (i : Nat) (f : Fb → Fb) : (d.onFb i f).permitB = d.permitB := rfl
@[simp] theorem Dev.onFb_gtrip (d : Dev) (i : Nat) (f : Fb → Fb) : (d.onFb i f).gtrip = d.gtrip := rfl
@[simp] theorem Dev.onFb_vgate (d : Dev) (i : Nat) (f : Fb → Fb) : (d.onFb i f).vgate = d.vgate := rfl
@[simp] theorem Dev.onFb_segs (d : Dev) (i : Nat) (f : Fb → Fb) : (d.onFb i f).segs = d.segs := rfl
@[simp] theorem Dev.onFb_idents (d : Dev) (i : Nat) (f : Fb → Fb) : (d.onFb i f).idents = d.idents := rfl
@[simp] theorem Dev.onFb_arms (d : Dev) (i : Nat) (f : Fb → Fb) : (d.onFb i f).arms = d.arms := rfl
@[simp] theorem Dev.onFb_zones (d : Dev) (i : Nat) (f : Fb → Fb) : (d.onFb i f).zones = d.zones := rfl
@[simp] theorem Dev.onFb_claims (d : Dev) (i : Nat) (f : Fb → Fb) : (d.onFb i f).claims = d.claims := rfl
@[simp] theorem Dev.onFb_saf (d : Dev) (i : Nat) (f : Fb → Fb) : (d.onFb i f).saf = d.saf := rfl
@[simp] theorem Dev.onFb_cap (d : Dev) (i : Nat) (f : Fb → Fb) : (d.onFb i f).cap = d.cap := rfl
@[simp] theorem Dev.onFb_io (d : Dev) (i : Nat) (f : Fb → Fb) : (d.onFb i f).io = d.io := rfl
@[simp] theorem Dev.onFb_cans (d : Dev) (i : Nat) (f : Fb → Fb) : (d.onFb i f).cans = d.cans := rfl
@[simp] theorem Dev.onFb_tm (d : Dev) (i : Nat) (f : Fb → Fb) : (d.onFb i f).tm = d.tm := rfl
@[simp] theorem Dev.onFb_hp (d : Dev) (i : Nat) (f : Fb → Fb) : (d.onFb i f).hp = d.hp := rfl
@[simp] theorem Dev.onFb_pwr (d : Dev) (i : Nat) (f : Fb → Fb) : (d.onFb i f).pwr = d.pwr := rfl
@[simp] theorem Dev.onFb_free (d : Dev) (i : Nat) (f : Fb → Fb) : (d.onFb i f).free = d.free := rfl
@[simp] theorem Dev.onFb_sent (d : Dev) (i : Nat) (f : Fb → Fb) : (d.onFb i f).sent = d.sent := rfl

/-! ### `Dev.onPf` -/

@[simp] theorem Dev.onPf_stk (d : Dev) (i : Nat) (f : Pf → Pf) : (d.onPf i f).stk = d.stk := rfl
@[simp] theorem Dev.onPf_nov (d : Dev) (i : Nat) (f : Pf → Pf) : (d.onPf i f).nov = d.nov := rfl
@[simp] theorem Dev.onPf_cps (d : Dev) (i : Nat) (f : Pf → Pf) : (d.onPf i f).cps = d.cps := rfl
@[simp] theorem Dev.onPf_fw (d : Dev) (i : Nat) (f : Pf → Pf) : (d.onPf i f).fw = d.fw := rfl
@[simp] theorem Dev.onPf_axes (d : Dev) (i : Nat) (f : Pf → Pf) : (d.onPf i f).axes = d.axes := rfl
@[simp] theorem Dev.onPf_fbs (d : Dev) (i : Nat) (f : Pf → Pf) : (d.onPf i f).fbs = d.fbs := rfl
@[simp] theorem Dev.onPf_scs (d : Dev) (i : Nat) (f : Pf → Pf) : (d.onPf i f).scs = d.scs := rfl
@[simp] theorem Dev.onPf_eos (d : Dev) (i : Nat) (f : Pf → Pf) : (d.onPf i f).eos = d.eos := rfl
@[simp] theorem Dev.onPf_pfs (d : Dev) (i : Nat) (f : Pf → Pf) : (d.onPf i f).pfs = upd d.pfs i f := rfl
@[simp] theorem Dev.onPf_vms (d : Dev) (i : Nat) (f : Pf → Pf) : (d.onPf i f).vms = d.vms := rfl
@[simp] theorem Dev.onPf_cams (d : Dev) (i : Nat) (f : Pf → Pf) : (d.onPf i f).cams = d.cams := rfl
@[simp] theorem Dev.onPf_stgs (d : Dev) (i : Nat) (f : Pf → Pf) : (d.onPf i f).stgs = d.stgs := rfl
@[simp] theorem Dev.onPf_permitA (d : Dev) (i : Nat) (f : Pf → Pf) : (d.onPf i f).permitA = d.permitA := rfl
@[simp] theorem Dev.onPf_permitB (d : Dev) (i : Nat) (f : Pf → Pf) : (d.onPf i f).permitB = d.permitB := rfl
@[simp] theorem Dev.onPf_gtrip (d : Dev) (i : Nat) (f : Pf → Pf) : (d.onPf i f).gtrip = d.gtrip := rfl
@[simp] theorem Dev.onPf_vgate (d : Dev) (i : Nat) (f : Pf → Pf) : (d.onPf i f).vgate = d.vgate := rfl
@[simp] theorem Dev.onPf_segs (d : Dev) (i : Nat) (f : Pf → Pf) : (d.onPf i f).segs = d.segs := rfl
@[simp] theorem Dev.onPf_idents (d : Dev) (i : Nat) (f : Pf → Pf) : (d.onPf i f).idents = d.idents := rfl
@[simp] theorem Dev.onPf_arms (d : Dev) (i : Nat) (f : Pf → Pf) : (d.onPf i f).arms = d.arms := rfl
@[simp] theorem Dev.onPf_zones (d : Dev) (i : Nat) (f : Pf → Pf) : (d.onPf i f).zones = d.zones := rfl
@[simp] theorem Dev.onPf_claims (d : Dev) (i : Nat) (f : Pf → Pf) : (d.onPf i f).claims = d.claims := rfl
@[simp] theorem Dev.onPf_saf (d : Dev) (i : Nat) (f : Pf → Pf) : (d.onPf i f).saf = d.saf := rfl
@[simp] theorem Dev.onPf_cap (d : Dev) (i : Nat) (f : Pf → Pf) : (d.onPf i f).cap = d.cap := rfl
@[simp] theorem Dev.onPf_io (d : Dev) (i : Nat) (f : Pf → Pf) : (d.onPf i f).io = d.io := rfl
@[simp] theorem Dev.onPf_cans (d : Dev) (i : Nat) (f : Pf → Pf) : (d.onPf i f).cans = d.cans := rfl
@[simp] theorem Dev.onPf_tm (d : Dev) (i : Nat) (f : Pf → Pf) : (d.onPf i f).tm = d.tm := rfl
@[simp] theorem Dev.onPf_hp (d : Dev) (i : Nat) (f : Pf → Pf) : (d.onPf i f).hp = d.hp := rfl
@[simp] theorem Dev.onPf_pwr (d : Dev) (i : Nat) (f : Pf → Pf) : (d.onPf i f).pwr = d.pwr := rfl
@[simp] theorem Dev.onPf_free (d : Dev) (i : Nat) (f : Pf → Pf) : (d.onPf i f).free = d.free := rfl
@[simp] theorem Dev.onPf_sent (d : Dev) (i : Nat) (f : Pf → Pf) : (d.onPf i f).sent = d.sent := rfl

/-! ### `Dev.onVm` -/

@[simp] theorem Dev.onVm_stk (d : Dev) (i : Nat) (f : Vm → Vm) : (d.onVm i f).stk = d.stk := rfl
@[simp] theorem Dev.onVm_nov (d : Dev) (i : Nat) (f : Vm → Vm) : (d.onVm i f).nov = d.nov := rfl
@[simp] theorem Dev.onVm_cps (d : Dev) (i : Nat) (f : Vm → Vm) : (d.onVm i f).cps = d.cps := rfl
@[simp] theorem Dev.onVm_fw (d : Dev) (i : Nat) (f : Vm → Vm) : (d.onVm i f).fw = d.fw := rfl
@[simp] theorem Dev.onVm_axes (d : Dev) (i : Nat) (f : Vm → Vm) : (d.onVm i f).axes = d.axes := rfl
@[simp] theorem Dev.onVm_fbs (d : Dev) (i : Nat) (f : Vm → Vm) : (d.onVm i f).fbs = d.fbs := rfl
@[simp] theorem Dev.onVm_scs (d : Dev) (i : Nat) (f : Vm → Vm) : (d.onVm i f).scs = d.scs := rfl
@[simp] theorem Dev.onVm_eos (d : Dev) (i : Nat) (f : Vm → Vm) : (d.onVm i f).eos = d.eos := rfl
@[simp] theorem Dev.onVm_pfs (d : Dev) (i : Nat) (f : Vm → Vm) : (d.onVm i f).pfs = d.pfs := rfl
@[simp] theorem Dev.onVm_vms (d : Dev) (i : Nat) (f : Vm → Vm) : (d.onVm i f).vms = upd d.vms i f := rfl
@[simp] theorem Dev.onVm_cams (d : Dev) (i : Nat) (f : Vm → Vm) : (d.onVm i f).cams = d.cams := rfl
@[simp] theorem Dev.onVm_stgs (d : Dev) (i : Nat) (f : Vm → Vm) : (d.onVm i f).stgs = d.stgs := rfl
@[simp] theorem Dev.onVm_permitA (d : Dev) (i : Nat) (f : Vm → Vm) : (d.onVm i f).permitA = d.permitA := rfl
@[simp] theorem Dev.onVm_permitB (d : Dev) (i : Nat) (f : Vm → Vm) : (d.onVm i f).permitB = d.permitB := rfl
@[simp] theorem Dev.onVm_gtrip (d : Dev) (i : Nat) (f : Vm → Vm) : (d.onVm i f).gtrip = d.gtrip := rfl
@[simp] theorem Dev.onVm_vgate (d : Dev) (i : Nat) (f : Vm → Vm) : (d.onVm i f).vgate = d.vgate := rfl
@[simp] theorem Dev.onVm_segs (d : Dev) (i : Nat) (f : Vm → Vm) : (d.onVm i f).segs = d.segs := rfl
@[simp] theorem Dev.onVm_idents (d : Dev) (i : Nat) (f : Vm → Vm) : (d.onVm i f).idents = d.idents := rfl
@[simp] theorem Dev.onVm_arms (d : Dev) (i : Nat) (f : Vm → Vm) : (d.onVm i f).arms = d.arms := rfl
@[simp] theorem Dev.onVm_zones (d : Dev) (i : Nat) (f : Vm → Vm) : (d.onVm i f).zones = d.zones := rfl
@[simp] theorem Dev.onVm_claims (d : Dev) (i : Nat) (f : Vm → Vm) : (d.onVm i f).claims = d.claims := rfl
@[simp] theorem Dev.onVm_saf (d : Dev) (i : Nat) (f : Vm → Vm) : (d.onVm i f).saf = d.saf := rfl
@[simp] theorem Dev.onVm_cap (d : Dev) (i : Nat) (f : Vm → Vm) : (d.onVm i f).cap = d.cap := rfl
@[simp] theorem Dev.onVm_io (d : Dev) (i : Nat) (f : Vm → Vm) : (d.onVm i f).io = d.io := rfl
@[simp] theorem Dev.onVm_cans (d : Dev) (i : Nat) (f : Vm → Vm) : (d.onVm i f).cans = d.cans := rfl
@[simp] theorem Dev.onVm_tm (d : Dev) (i : Nat) (f : Vm → Vm) : (d.onVm i f).tm = d.tm := rfl
@[simp] theorem Dev.onVm_hp (d : Dev) (i : Nat) (f : Vm → Vm) : (d.onVm i f).hp = d.hp := rfl
@[simp] theorem Dev.onVm_pwr (d : Dev) (i : Nat) (f : Vm → Vm) : (d.onVm i f).pwr = d.pwr := rfl
@[simp] theorem Dev.onVm_free (d : Dev) (i : Nat) (f : Vm → Vm) : (d.onVm i f).free = d.free := rfl
@[simp] theorem Dev.onVm_sent (d : Dev) (i : Nat) (f : Vm → Vm) : (d.onVm i f).sent = d.sent := rfl

/-! ### `Dev.onStg` -/

@[simp] theorem Dev.onStg_stk (d : Dev) (i : Nat) (f : Stg → Stg) : (d.onStg i f).stk = d.stk := rfl
@[simp] theorem Dev.onStg_nov (d : Dev) (i : Nat) (f : Stg → Stg) : (d.onStg i f).nov = d.nov := rfl
@[simp] theorem Dev.onStg_cps (d : Dev) (i : Nat) (f : Stg → Stg) : (d.onStg i f).cps = d.cps := rfl
@[simp] theorem Dev.onStg_fw (d : Dev) (i : Nat) (f : Stg → Stg) : (d.onStg i f).fw = d.fw := rfl
@[simp] theorem Dev.onStg_axes (d : Dev) (i : Nat) (f : Stg → Stg) : (d.onStg i f).axes = d.axes := rfl
@[simp] theorem Dev.onStg_fbs (d : Dev) (i : Nat) (f : Stg → Stg) : (d.onStg i f).fbs = d.fbs := rfl
@[simp] theorem Dev.onStg_scs (d : Dev) (i : Nat) (f : Stg → Stg) : (d.onStg i f).scs = d.scs := rfl
@[simp] theorem Dev.onStg_eos (d : Dev) (i : Nat) (f : Stg → Stg) : (d.onStg i f).eos = d.eos := rfl
@[simp] theorem Dev.onStg_pfs (d : Dev) (i : Nat) (f : Stg → Stg) : (d.onStg i f).pfs = d.pfs := rfl
@[simp] theorem Dev.onStg_vms (d : Dev) (i : Nat) (f : Stg → Stg) : (d.onStg i f).vms = d.vms := rfl
@[simp] theorem Dev.onStg_cams (d : Dev) (i : Nat) (f : Stg → Stg) : (d.onStg i f).cams = d.cams := rfl
@[simp] theorem Dev.onStg_stgs (d : Dev) (i : Nat) (f : Stg → Stg) : (d.onStg i f).stgs = upd d.stgs i f := rfl
@[simp] theorem Dev.onStg_permitA (d : Dev) (i : Nat) (f : Stg → Stg) : (d.onStg i f).permitA = d.permitA := rfl
@[simp] theorem Dev.onStg_permitB (d : Dev) (i : Nat) (f : Stg → Stg) : (d.onStg i f).permitB = d.permitB := rfl
@[simp] theorem Dev.onStg_gtrip (d : Dev) (i : Nat) (f : Stg → Stg) : (d.onStg i f).gtrip = d.gtrip := rfl
@[simp] theorem Dev.onStg_vgate (d : Dev) (i : Nat) (f : Stg → Stg) : (d.onStg i f).vgate = d.vgate := rfl
@[simp] theorem Dev.onStg_segs (d : Dev) (i : Nat) (f : Stg → Stg) : (d.onStg i f).segs = d.segs := rfl
@[simp] theorem Dev.onStg_idents (d : Dev) (i : Nat) (f : Stg → Stg) : (d.onStg i f).idents = d.idents := rfl
@[simp] theorem Dev.onStg_arms (d : Dev) (i : Nat) (f : Stg → Stg) : (d.onStg i f).arms = d.arms := rfl
@[simp] theorem Dev.onStg_zones (d : Dev) (i : Nat) (f : Stg → Stg) : (d.onStg i f).zones = d.zones := rfl
@[simp] theorem Dev.onStg_claims (d : Dev) (i : Nat) (f : Stg → Stg) : (d.onStg i f).claims = d.claims := rfl
@[simp] theorem Dev.onStg_saf (d : Dev) (i : Nat) (f : Stg → Stg) : (d.onStg i f).saf = d.saf := rfl
@[simp] theorem Dev.onStg_cap (d : Dev) (i : Nat) (f : Stg → Stg) : (d.onStg i f).cap = d.cap := rfl
@[simp] theorem Dev.onStg_io (d : Dev) (i : Nat) (f : Stg → Stg) : (d.onStg i f).io = d.io := rfl
@[simp] theorem Dev.onStg_cans (d : Dev) (i : Nat) (f : Stg → Stg) : (d.onStg i f).cans = d.cans := rfl
@[simp] theorem Dev.onStg_tm (d : Dev) (i : Nat) (f : Stg → Stg) : (d.onStg i f).tm = d.tm := rfl
@[simp] theorem Dev.onStg_hp (d : Dev) (i : Nat) (f : Stg → Stg) : (d.onStg i f).hp = d.hp := rfl
@[simp] theorem Dev.onStg_pwr (d : Dev) (i : Nat) (f : Stg → Stg) : (d.onStg i f).pwr = d.pwr := rfl
@[simp] theorem Dev.onStg_free (d : Dev) (i : Nat) (f : Stg → Stg) : (d.onStg i f).free = d.free := rfl
@[simp] theorem Dev.onStg_sent (d : Dev) (i : Nat) (f : Stg → Stg) : (d.onStg i f).sent = d.sent := rfl

/-! ### `Dev.onSeg` -/

@[simp] theorem Dev.onSeg_stk (d : Dev) (i : Nat) (f : Seg → Seg) : (d.onSeg i f).stk = d.stk := rfl
@[simp] theorem Dev.onSeg_nov (d : Dev) (i : Nat) (f : Seg → Seg) : (d.onSeg i f).nov = d.nov := rfl
@[simp] theorem Dev.onSeg_cps (d : Dev) (i : Nat) (f : Seg → Seg) : (d.onSeg i f).cps = d.cps := rfl
@[simp] theorem Dev.onSeg_fw (d : Dev) (i : Nat) (f : Seg → Seg) : (d.onSeg i f).fw = d.fw := rfl
@[simp] theorem Dev.onSeg_axes (d : Dev) (i : Nat) (f : Seg → Seg) : (d.onSeg i f).axes = d.axes := rfl
@[simp] theorem Dev.onSeg_fbs (d : Dev) (i : Nat) (f : Seg → Seg) : (d.onSeg i f).fbs = d.fbs := rfl
@[simp] theorem Dev.onSeg_scs (d : Dev) (i : Nat) (f : Seg → Seg) : (d.onSeg i f).scs = d.scs := rfl
@[simp] theorem Dev.onSeg_eos (d : Dev) (i : Nat) (f : Seg → Seg) : (d.onSeg i f).eos = d.eos := rfl
@[simp] theorem Dev.onSeg_pfs (d : Dev) (i : Nat) (f : Seg → Seg) : (d.onSeg i f).pfs = d.pfs := rfl
@[simp] theorem Dev.onSeg_vms (d : Dev) (i : Nat) (f : Seg → Seg) : (d.onSeg i f).vms = d.vms := rfl
@[simp] theorem Dev.onSeg_cams (d : Dev) (i : Nat) (f : Seg → Seg) : (d.onSeg i f).cams = d.cams := rfl
@[simp] theorem Dev.onSeg_stgs (d : Dev) (i : Nat) (f : Seg → Seg) : (d.onSeg i f).stgs = d.stgs := rfl
@[simp] theorem Dev.onSeg_permitA (d : Dev) (i : Nat) (f : Seg → Seg) : (d.onSeg i f).permitA = d.permitA := rfl
@[simp] theorem Dev.onSeg_permitB (d : Dev) (i : Nat) (f : Seg → Seg) : (d.onSeg i f).permitB = d.permitB := rfl
@[simp] theorem Dev.onSeg_gtrip (d : Dev) (i : Nat) (f : Seg → Seg) : (d.onSeg i f).gtrip = d.gtrip := rfl
@[simp] theorem Dev.onSeg_vgate (d : Dev) (i : Nat) (f : Seg → Seg) : (d.onSeg i f).vgate = d.vgate := rfl
@[simp] theorem Dev.onSeg_segs (d : Dev) (i : Nat) (f : Seg → Seg) : (d.onSeg i f).segs = upd d.segs i f := rfl
@[simp] theorem Dev.onSeg_idents (d : Dev) (i : Nat) (f : Seg → Seg) : (d.onSeg i f).idents = d.idents := rfl
@[simp] theorem Dev.onSeg_arms (d : Dev) (i : Nat) (f : Seg → Seg) : (d.onSeg i f).arms = d.arms := rfl
@[simp] theorem Dev.onSeg_zones (d : Dev) (i : Nat) (f : Seg → Seg) : (d.onSeg i f).zones = d.zones := rfl
@[simp] theorem Dev.onSeg_claims (d : Dev) (i : Nat) (f : Seg → Seg) : (d.onSeg i f).claims = d.claims := rfl
@[simp] theorem Dev.onSeg_saf (d : Dev) (i : Nat) (f : Seg → Seg) : (d.onSeg i f).saf = d.saf := rfl
@[simp] theorem Dev.onSeg_cap (d : Dev) (i : Nat) (f : Seg → Seg) : (d.onSeg i f).cap = d.cap := rfl
@[simp] theorem Dev.onSeg_io (d : Dev) (i : Nat) (f : Seg → Seg) : (d.onSeg i f).io = d.io := rfl
@[simp] theorem Dev.onSeg_cans (d : Dev) (i : Nat) (f : Seg → Seg) : (d.onSeg i f).cans = d.cans := rfl
@[simp] theorem Dev.onSeg_tm (d : Dev) (i : Nat) (f : Seg → Seg) : (d.onSeg i f).tm = d.tm := rfl
@[simp] theorem Dev.onSeg_hp (d : Dev) (i : Nat) (f : Seg → Seg) : (d.onSeg i f).hp = d.hp := rfl
@[simp] theorem Dev.onSeg_pwr (d : Dev) (i : Nat) (f : Seg → Seg) : (d.onSeg i f).pwr = d.pwr := rfl
@[simp] theorem Dev.onSeg_free (d : Dev) (i : Nat) (f : Seg → Seg) : (d.onSeg i f).free = d.free := rfl
@[simp] theorem Dev.onSeg_sent (d : Dev) (i : Nat) (f : Seg → Seg) : (d.onSeg i f).sent = d.sent := rfl

/-! ### `Dev.onArm` -/

@[simp] theorem Dev.onArm_stk (d : Dev) (i : Nat) (f : Arm → Arm) : (d.onArm i f).stk = d.stk := rfl
@[simp] theorem Dev.onArm_nov (d : Dev) (i : Nat) (f : Arm → Arm) : (d.onArm i f).nov = d.nov := rfl
@[simp] theorem Dev.onArm_cps (d : Dev) (i : Nat) (f : Arm → Arm) : (d.onArm i f).cps = d.cps := rfl
@[simp] theorem Dev.onArm_fw (d : Dev) (i : Nat) (f : Arm → Arm) : (d.onArm i f).fw = d.fw := rfl
@[simp] theorem Dev.onArm_axes (d : Dev) (i : Nat) (f : Arm → Arm) : (d.onArm i f).axes = d.axes := rfl
@[simp] theorem Dev.onArm_fbs (d : Dev) (i : Nat) (f : Arm → Arm) : (d.onArm i f).fbs = d.fbs := rfl
@[simp] theorem Dev.onArm_scs (d : Dev) (i : Nat) (f : Arm → Arm) : (d.onArm i f).scs = d.scs := rfl
@[simp] theorem Dev.onArm_eos (d : Dev) (i : Nat) (f : Arm → Arm) : (d.onArm i f).eos = d.eos := rfl
@[simp] theorem Dev.onArm_pfs (d : Dev) (i : Nat) (f : Arm → Arm) : (d.onArm i f).pfs = d.pfs := rfl
@[simp] theorem Dev.onArm_vms (d : Dev) (i : Nat) (f : Arm → Arm) : (d.onArm i f).vms = d.vms := rfl
@[simp] theorem Dev.onArm_cams (d : Dev) (i : Nat) (f : Arm → Arm) : (d.onArm i f).cams = d.cams := rfl
@[simp] theorem Dev.onArm_stgs (d : Dev) (i : Nat) (f : Arm → Arm) : (d.onArm i f).stgs = d.stgs := rfl
@[simp] theorem Dev.onArm_permitA (d : Dev) (i : Nat) (f : Arm → Arm) : (d.onArm i f).permitA = d.permitA := rfl
@[simp] theorem Dev.onArm_permitB (d : Dev) (i : Nat) (f : Arm → Arm) : (d.onArm i f).permitB = d.permitB := rfl
@[simp] theorem Dev.onArm_gtrip (d : Dev) (i : Nat) (f : Arm → Arm) : (d.onArm i f).gtrip = d.gtrip := rfl
@[simp] theorem Dev.onArm_vgate (d : Dev) (i : Nat) (f : Arm → Arm) : (d.onArm i f).vgate = d.vgate := rfl
@[simp] theorem Dev.onArm_segs (d : Dev) (i : Nat) (f : Arm → Arm) : (d.onArm i f).segs = d.segs := rfl
@[simp] theorem Dev.onArm_idents (d : Dev) (i : Nat) (f : Arm → Arm) : (d.onArm i f).idents = d.idents := rfl
@[simp] theorem Dev.onArm_arms (d : Dev) (i : Nat) (f : Arm → Arm) : (d.onArm i f).arms = upd d.arms i f := rfl
@[simp] theorem Dev.onArm_zones (d : Dev) (i : Nat) (f : Arm → Arm) : (d.onArm i f).zones = d.zones := rfl
@[simp] theorem Dev.onArm_claims (d : Dev) (i : Nat) (f : Arm → Arm) : (d.onArm i f).claims = d.claims := rfl
@[simp] theorem Dev.onArm_saf (d : Dev) (i : Nat) (f : Arm → Arm) : (d.onArm i f).saf = d.saf := rfl
@[simp] theorem Dev.onArm_cap (d : Dev) (i : Nat) (f : Arm → Arm) : (d.onArm i f).cap = d.cap := rfl
@[simp] theorem Dev.onArm_io (d : Dev) (i : Nat) (f : Arm → Arm) : (d.onArm i f).io = d.io := rfl
@[simp] theorem Dev.onArm_cans (d : Dev) (i : Nat) (f : Arm → Arm) : (d.onArm i f).cans = d.cans := rfl
@[simp] theorem Dev.onArm_tm (d : Dev) (i : Nat) (f : Arm → Arm) : (d.onArm i f).tm = d.tm := rfl
@[simp] theorem Dev.onArm_hp (d : Dev) (i : Nat) (f : Arm → Arm) : (d.onArm i f).hp = d.hp := rfl
@[simp] theorem Dev.onArm_pwr (d : Dev) (i : Nat) (f : Arm → Arm) : (d.onArm i f).pwr = d.pwr := rfl
@[simp] theorem Dev.onArm_free (d : Dev) (i : Nat) (f : Arm → Arm) : (d.onArm i f).free = d.free := rfl
@[simp] theorem Dev.onArm_sent (d : Dev) (i : Nat) (f : Arm → Arm) : (d.onArm i f).sent = d.sent := rfl

/-! ### `Dev.onCan` -/

@[simp] theorem Dev.onCan_stk (d : Dev) (i : Nat) (f : Can → Can) : (d.onCan i f).stk = d.stk := rfl
@[simp] theorem Dev.onCan_nov (d : Dev) (i : Nat) (f : Can → Can) : (d.onCan i f).nov = d.nov := rfl
@[simp] theorem Dev.onCan_cps (d : Dev) (i : Nat) (f : Can → Can) : (d.onCan i f).cps = d.cps := rfl
@[simp] theorem Dev.onCan_fw (d : Dev) (i : Nat) (f : Can → Can) : (d.onCan i f).fw = d.fw := rfl
@[simp] theorem Dev.onCan_axes (d : Dev) (i : Nat) (f : Can → Can) : (d.onCan i f).axes = d.axes := rfl
@[simp] theorem Dev.onCan_fbs (d : Dev) (i : Nat) (f : Can → Can) : (d.onCan i f).fbs = d.fbs := rfl
@[simp] theorem Dev.onCan_scs (d : Dev) (i : Nat) (f : Can → Can) : (d.onCan i f).scs = d.scs := rfl
@[simp] theorem Dev.onCan_eos (d : Dev) (i : Nat) (f : Can → Can) : (d.onCan i f).eos = d.eos := rfl
@[simp] theorem Dev.onCan_pfs (d : Dev) (i : Nat) (f : Can → Can) : (d.onCan i f).pfs = d.pfs := rfl
@[simp] theorem Dev.onCan_vms (d : Dev) (i : Nat) (f : Can → Can) : (d.onCan i f).vms = d.vms := rfl
@[simp] theorem Dev.onCan_cams (d : Dev) (i : Nat) (f : Can → Can) : (d.onCan i f).cams = d.cams := rfl
@[simp] theorem Dev.onCan_stgs (d : Dev) (i : Nat) (f : Can → Can) : (d.onCan i f).stgs = d.stgs := rfl
@[simp] theorem Dev.onCan_permitA (d : Dev) (i : Nat) (f : Can → Can) : (d.onCan i f).permitA = d.permitA := rfl
@[simp] theorem Dev.onCan_permitB (d : Dev) (i : Nat) (f : Can → Can) : (d.onCan i f).permitB = d.permitB := rfl
@[simp] theorem Dev.onCan_gtrip (d : Dev) (i : Nat) (f : Can → Can) : (d.onCan i f).gtrip = d.gtrip := rfl
@[simp] theorem Dev.onCan_vgate (d : Dev) (i : Nat) (f : Can → Can) : (d.onCan i f).vgate = d.vgate := rfl
@[simp] theorem Dev.onCan_segs (d : Dev) (i : Nat) (f : Can → Can) : (d.onCan i f).segs = d.segs := rfl
@[simp] theorem Dev.onCan_idents (d : Dev) (i : Nat) (f : Can → Can) : (d.onCan i f).idents = d.idents := rfl
@[simp] theorem Dev.onCan_arms (d : Dev) (i : Nat) (f : Can → Can) : (d.onCan i f).arms = d.arms := rfl
@[simp] theorem Dev.onCan_zones (d : Dev) (i : Nat) (f : Can → Can) : (d.onCan i f).zones = d.zones := rfl
@[simp] theorem Dev.onCan_claims (d : Dev) (i : Nat) (f : Can → Can) : (d.onCan i f).claims = d.claims := rfl
@[simp] theorem Dev.onCan_saf (d : Dev) (i : Nat) (f : Can → Can) : (d.onCan i f).saf = d.saf := rfl
@[simp] theorem Dev.onCan_cap (d : Dev) (i : Nat) (f : Can → Can) : (d.onCan i f).cap = d.cap := rfl
@[simp] theorem Dev.onCan_io (d : Dev) (i : Nat) (f : Can → Can) : (d.onCan i f).io = d.io := rfl
@[simp] theorem Dev.onCan_cans (d : Dev) (i : Nat) (f : Can → Can) : (d.onCan i f).cans = upd d.cans i f := rfl
@[simp] theorem Dev.onCan_tm (d : Dev) (i : Nat) (f : Can → Can) : (d.onCan i f).tm = d.tm := rfl
@[simp] theorem Dev.onCan_hp (d : Dev) (i : Nat) (f : Can → Can) : (d.onCan i f).hp = d.hp := rfl
@[simp] theorem Dev.onCan_pwr (d : Dev) (i : Nat) (f : Can → Can) : (d.onCan i f).pwr = d.pwr := rfl
@[simp] theorem Dev.onCan_free (d : Dev) (i : Nat) (f : Can → Can) : (d.onCan i f).free = d.free := rfl
@[simp] theorem Dev.onCan_sent (d : Dev) (i : Nat) (f : Can → Can) : (d.onCan i f).sent = d.sent := rfl

/-! ### `Dev.onComp` -/

@[simp] theorem Dev.onComp_stk (d : Dev) (i : Nat) (f : Comp → Comp) : (d.onComp i f).stk = d.stk := rfl
@[simp] theorem Dev.onComp_nov (d : Dev) (i : Nat) (f : Comp → Comp) : (d.onComp i f).nov = d.nov := rfl
@[simp] theorem Dev.onComp_cps (d : Dev) (i : Nat) (f : Comp → Comp) : (d.onComp i f).cps = { d.cps with comps := upd d.cps.comps i f } := rfl
@[simp] theorem Dev.onComp_fw (d : Dev) (i : Nat) (f : Comp → Comp) : (d.onComp i f).fw = d.fw := rfl
@[simp] theorem Dev.onComp_axes (d : Dev) (i : Nat) (f : Comp → Comp) : (d.onComp i f).axes = d.axes := rfl
@[simp] theorem Dev.onComp_fbs (d : Dev) (i : Nat) (f : Comp → Comp) : (d.onComp i f).fbs = d.fbs := rfl
@[simp] theorem Dev.onComp_scs (d : Dev) (i : Nat) (f : Comp → Comp) : (d.onComp i f).scs = d.scs := rfl
@[simp] theorem Dev.onComp_eos (d : Dev) (i : Nat) (f : Comp → Comp) : (d.onComp i f).eos = d.eos := rfl
@[simp] theorem Dev.onComp_pfs (d : Dev) (i : Nat) (f : Comp → Comp) : (d.onComp i f).pfs = d.pfs := rfl
@[simp] theorem Dev.onComp_vms (d : Dev) (i : Nat) (f : Comp → Comp) : (d.onComp i f).vms = d.vms := rfl
@[simp] theorem Dev.onComp_cams (d : Dev) (i : Nat) (f : Comp → Comp) : (d.onComp i f).cams = d.cams := rfl
@[simp] theorem Dev.onComp_stgs (d : Dev) (i : Nat) (f : Comp → Comp) : (d.onComp i f).stgs = d.stgs := rfl
@[simp] theorem Dev.onComp_permitA (d : Dev) (i : Nat) (f : Comp → Comp) : (d.onComp i f).permitA = d.permitA := rfl
@[simp] theorem Dev.onComp_permitB (d : Dev) (i : Nat) (f : Comp → Comp) : (d.onComp i f).permitB = d.permitB := rfl
@[simp] theorem Dev.onComp_gtrip (d : Dev) (i : Nat) (f : Comp → Comp) : (d.onComp i f).gtrip = d.gtrip := rfl
@[simp] theorem Dev.onComp_vgate (d : Dev) (i : Nat) (f : Comp → Comp) : (d.onComp i f).vgate = d.vgate := rfl
@[simp] theorem Dev.onComp_segs (d : Dev) (i : Nat) (f : Comp → Comp) : (d.onComp i f).segs = d.segs := rfl
@[simp] theorem Dev.onComp_idents (d : Dev) (i : Nat) (f : Comp → Comp) : (d.onComp i f).idents = d.idents := rfl
@[simp] theorem Dev.onComp_arms (d : Dev) (i : Nat) (f : Comp → Comp) : (d.onComp i f).arms = d.arms := rfl
@[simp] theorem Dev.onComp_zones (d : Dev) (i : Nat) (f : Comp → Comp) : (d.onComp i f).zones = d.zones := rfl
@[simp] theorem Dev.onComp_claims (d : Dev) (i : Nat) (f : Comp → Comp) : (d.onComp i f).claims = d.claims := rfl
@[simp] theorem Dev.onComp_saf (d : Dev) (i : Nat) (f : Comp → Comp) : (d.onComp i f).saf = d.saf := rfl
@[simp] theorem Dev.onComp_cap (d : Dev) (i : Nat) (f : Comp → Comp) : (d.onComp i f).cap = d.cap := rfl
@[simp] theorem Dev.onComp_io (d : Dev) (i : Nat) (f : Comp → Comp) : (d.onComp i f).io = d.io := rfl
@[simp] theorem Dev.onComp_cans (d : Dev) (i : Nat) (f : Comp → Comp) : (d.onComp i f).cans = d.cans := rfl
@[simp] theorem Dev.onComp_tm (d : Dev) (i : Nat) (f : Comp → Comp) : (d.onComp i f).tm = d.tm := rfl
@[simp] theorem Dev.onComp_hp (d : Dev) (i : Nat) (f : Comp → Comp) : (d.onComp i f).hp = d.hp := rfl
@[simp] theorem Dev.onComp_pwr (d : Dev) (i : Nat) (f : Comp → Comp) : (d.onComp i f).pwr = d.pwr := rfl
@[simp] theorem Dev.onComp_free (d : Dev) (i : Nat) (f : Comp → Comp) : (d.onComp i f).free = d.free := rfl
@[simp] theorem Dev.onComp_sent (d : Dev) (i : Nat) (f : Comp → Comp) : (d.onComp i f).sent = d.sent := rfl

/-! ### `Dev.onRing` -/

@[simp] theorem Dev.onRing_stk (d : Dev) (i : Nat) (f : Ring → Ring) : (d.onRing i f).stk = d.stk := rfl
@[simp] theorem Dev.onRing_nov (d : Dev) (i : Nat) (f : Ring → Ring) : (d.onRing i f).nov = { d.nov with rings := upd d.nov.rings i f } := rfl
@[simp] theorem Dev.onRing_cps (d : Dev) (i : Nat) (f : Ring → Ring) : (d.onRing i f).cps = d.cps := rfl
@[simp] theorem Dev.onRing_fw (d : Dev) (i : Nat) (f : Ring → Ring) : (d.onRing i f).fw = d.fw := rfl
@[simp] theorem Dev.onRing_axes (d : Dev) (i : Nat) (f : Ring → Ring) : (d.onRing i f).axes = d.axes := rfl
@[simp] theorem Dev.onRing_fbs (d : Dev) (i : Nat) (f : Ring → Ring) : (d.onRing i f).fbs = d.fbs := rfl
@[simp] theorem Dev.onRing_scs (d : Dev) (i : Nat) (f : Ring → Ring) : (d.onRing i f).scs = d.scs := rfl
@[simp] theorem Dev.onRing_eos (d : Dev) (i : Nat) (f : Ring → Ring) : (d.onRing i f).eos = d.eos := rfl
@[simp] theorem Dev.onRing_pfs (d : Dev) (i : Nat) (f : Ring → Ring) : (d.onRing i f).pfs = d.pfs := rfl
@[simp] theorem Dev.onRing_vms (d : Dev) (i : Nat) (f : Ring → Ring) : (d.onRing i f).vms = d.vms := rfl
@[simp] theorem Dev.onRing_cams (d : Dev) (i : Nat) (f : Ring → Ring) : (d.onRing i f).cams = d.cams := rfl
@[simp] theorem Dev.onRing_stgs (d : Dev) (i : Nat) (f : Ring → Ring) : (d.onRing i f).stgs = d.stgs := rfl
@[simp] theorem Dev.onRing_permitA (d : Dev) (i : Nat) (f : Ring → Ring) : (d.onRing i f).permitA = d.permitA := rfl
@[simp] theorem Dev.onRing_permitB (d : Dev) (i : Nat) (f : Ring → Ring) : (d.onRing i f).permitB = d.permitB := rfl
@[simp] theorem Dev.onRing_gtrip (d : Dev) (i : Nat) (f : Ring → Ring) : (d.onRing i f).gtrip = d.gtrip := rfl
@[simp] theorem Dev.onRing_vgate (d : Dev) (i : Nat) (f : Ring → Ring) : (d.onRing i f).vgate = d.vgate := rfl
@[simp] theorem Dev.onRing_segs (d : Dev) (i : Nat) (f : Ring → Ring) : (d.onRing i f).segs = d.segs := rfl
@[simp] theorem Dev.onRing_idents (d : Dev) (i : Nat) (f : Ring → Ring) : (d.onRing i f).idents = d.idents := rfl
@[simp] theorem Dev.onRing_arms (d : Dev) (i : Nat) (f : Ring → Ring) : (d.onRing i f).arms = d.arms := rfl
@[simp] theorem Dev.onRing_zones (d : Dev) (i : Nat) (f : Ring → Ring) : (d.onRing i f).zones = d.zones := rfl
@[simp] theorem Dev.onRing_claims (d : Dev) (i : Nat) (f : Ring → Ring) : (d.onRing i f).claims = d.claims := rfl
@[simp] theorem Dev.onRing_saf (d : Dev) (i : Nat) (f : Ring → Ring) : (d.onRing i f).saf = d.saf := rfl
@[simp] theorem Dev.onRing_cap (d : Dev) (i : Nat) (f : Ring → Ring) : (d.onRing i f).cap = d.cap := rfl
@[simp] theorem Dev.onRing_io (d : Dev) (i : Nat) (f : Ring → Ring) : (d.onRing i f).io = d.io := rfl
@[simp] theorem Dev.onRing_cans (d : Dev) (i : Nat) (f : Ring → Ring) : (d.onRing i f).cans = d.cans := rfl
@[simp] theorem Dev.onRing_tm (d : Dev) (i : Nat) (f : Ring → Ring) : (d.onRing i f).tm = d.tm := rfl
@[simp] theorem Dev.onRing_hp (d : Dev) (i : Nat) (f : Ring → Ring) : (d.onRing i f).hp = d.hp := rfl
@[simp] theorem Dev.onRing_pwr (d : Dev) (i : Nat) (f : Ring → Ring) : (d.onRing i f).pwr = d.pwr := rfl
@[simp] theorem Dev.onRing_free (d : Dev) (i : Nat) (f : Ring → Ring) : (d.onRing i f).free = d.free := rfl
@[simp] theorem Dev.onRing_sent (d : Dev) (i : Nat) (f : Ring → Ring) : (d.onRing i f).sent = d.sent := rfl

/-! ### `Dev.onPort` -/

@[simp] theorem Dev.onPort_stk (d : Dev) (i : Nat) (f : Port → Port) : (d.onPort i f).stk = d.stk := rfl
@[simp] theorem Dev.onPort_nov (d : Dev) (i : Nat) (f : Port → Port) : (d.onPort i f).nov = d.nov := rfl
@[simp] theorem Dev.onPort_cps (d : Dev) (i : Nat) (f : Port → Port) : (d.onPort i f).cps = d.cps := rfl
@[simp] theorem Dev.onPort_fw (d : Dev) (i : Nat) (f : Port → Port) : (d.onPort i f).fw = d.fw := rfl
@[simp] theorem Dev.onPort_axes (d : Dev) (i : Nat) (f : Port → Port) : (d.onPort i f).axes = d.axes := rfl
@[simp] theorem Dev.onPort_fbs (d : Dev) (i : Nat) (f : Port → Port) : (d.onPort i f).fbs = d.fbs := rfl
@[simp] theorem Dev.onPort_scs (d : Dev) (i : Nat) (f : Port → Port) : (d.onPort i f).scs = d.scs := rfl
@[simp] theorem Dev.onPort_eos (d : Dev) (i : Nat) (f : Port → Port) : (d.onPort i f).eos = d.eos := rfl
@[simp] theorem Dev.onPort_pfs (d : Dev) (i : Nat) (f : Port → Port) : (d.onPort i f).pfs = d.pfs := rfl
@[simp] theorem Dev.onPort_vms (d : Dev) (i : Nat) (f : Port → Port) : (d.onPort i f).vms = d.vms := rfl
@[simp] theorem Dev.onPort_cams (d : Dev) (i : Nat) (f : Port → Port) : (d.onPort i f).cams = d.cams := rfl
@[simp] theorem Dev.onPort_stgs (d : Dev) (i : Nat) (f : Port → Port) : (d.onPort i f).stgs = d.stgs := rfl
@[simp] theorem Dev.onPort_permitA (d : Dev) (i : Nat) (f : Port → Port) : (d.onPort i f).permitA = d.permitA := rfl
@[simp] theorem Dev.onPort_permitB (d : Dev) (i : Nat) (f : Port → Port) : (d.onPort i f).permitB = d.permitB := rfl
@[simp] theorem Dev.onPort_gtrip (d : Dev) (i : Nat) (f : Port → Port) : (d.onPort i f).gtrip = d.gtrip := rfl
@[simp] theorem Dev.onPort_vgate (d : Dev) (i : Nat) (f : Port → Port) : (d.onPort i f).vgate = d.vgate := rfl
@[simp] theorem Dev.onPort_segs (d : Dev) (i : Nat) (f : Port → Port) : (d.onPort i f).segs = d.segs := rfl
@[simp] theorem Dev.onPort_idents (d : Dev) (i : Nat) (f : Port → Port) : (d.onPort i f).idents = d.idents := rfl
@[simp] theorem Dev.onPort_arms (d : Dev) (i : Nat) (f : Port → Port) : (d.onPort i f).arms = d.arms := rfl
@[simp] theorem Dev.onPort_zones (d : Dev) (i : Nat) (f : Port → Port) : (d.onPort i f).zones = d.zones := rfl
@[simp] theorem Dev.onPort_claims (d : Dev) (i : Nat) (f : Port → Port) : (d.onPort i f).claims = d.claims := rfl
@[simp] theorem Dev.onPort_saf (d : Dev) (i : Nat) (f : Port → Port) : (d.onPort i f).saf = d.saf := rfl
@[simp] theorem Dev.onPort_cap (d : Dev) (i : Nat) (f : Port → Port) : (d.onPort i f).cap = d.cap := rfl
@[simp] theorem Dev.onPort_io (d : Dev) (i : Nat) (f : Port → Port) : (d.onPort i f).io = d.io := rfl
@[simp] theorem Dev.onPort_cans (d : Dev) (i : Nat) (f : Port → Port) : (d.onPort i f).cans = d.cans := rfl
@[simp] theorem Dev.onPort_tm (d : Dev) (i : Nat) (f : Port → Port) : (d.onPort i f).tm = d.tm := rfl
@[simp] theorem Dev.onPort_hp (d : Dev) (i : Nat) (f : Port → Port) : (d.onPort i f).hp = d.hp.port i f := rfl
@[simp] theorem Dev.onPort_pwr (d : Dev) (i : Nat) (f : Port → Port) : (d.onPort i f).pwr = d.pwr := rfl
@[simp] theorem Dev.onPort_free (d : Dev) (i : Nat) (f : Port → Port) : (d.onPort i f).free = d.free := rfl
@[simp] theorem Dev.onPort_sent (d : Dev) (i : Nat) (f : Port → Port) : (d.onPort i f).sent = d.sent := rfl

/-! ### `Dev.onPwr` -/

@[simp] theorem Dev.onPwr_stk (d : Dev) (f : Pwr → Pwr) : (d.onPwr f).stk = d.stk := rfl
@[simp] theorem Dev.onPwr_nov (d : Dev) (f : Pwr → Pwr) : (d.onPwr f).nov = d.nov := rfl
@[simp] theorem Dev.onPwr_cps (d : Dev) (f : Pwr → Pwr) : (d.onPwr f).cps = d.cps := rfl
@[simp] theorem Dev.onPwr_fw (d : Dev) (f : Pwr → Pwr) : (d.onPwr f).fw = d.fw := rfl
@[simp] theorem Dev.onPwr_axes (d : Dev) (f : Pwr → Pwr) : (d.onPwr f).axes = d.axes := rfl
@[simp] theorem Dev.onPwr_fbs (d : Dev) (f : Pwr → Pwr) : (d.onPwr f).fbs = d.fbs := rfl
@[simp] theorem Dev.onPwr_scs (d : Dev) (f : Pwr → Pwr) : (d.onPwr f).scs = d.scs := rfl
@[simp] theorem Dev.onPwr_eos (d : Dev) (f : Pwr → Pwr) : (d.onPwr f).eos = d.eos := rfl
@[simp] theorem Dev.onPwr_pfs (d : Dev) (f : Pwr → Pwr) : (d.onPwr f).pfs = d.pfs := rfl
@[simp] theorem Dev.onPwr_vms (d : Dev) (f : Pwr → Pwr) : (d.onPwr f).vms = d.vms := rfl
@[simp] theorem Dev.onPwr_cams (d : Dev) (f : Pwr → Pwr) : (d.onPwr f).cams = d.cams := rfl
@[simp] theorem Dev.onPwr_stgs (d : Dev) (f : Pwr → Pwr) : (d.onPwr f).stgs = d.stgs := rfl
@[simp] theorem Dev.onPwr_permitA (d : Dev) (f : Pwr → Pwr) : (d.onPwr f).permitA = d.permitA := rfl
@[simp] theorem Dev.onPwr_permitB (d : Dev) (f : Pwr → Pwr) : (d.onPwr f).permitB = d.permitB := rfl
@[simp] theorem Dev.onPwr_gtrip (d : Dev) (f : Pwr → Pwr) : (d.onPwr f).gtrip = d.gtrip := rfl
@[simp] theorem Dev.onPwr_vgate (d : Dev) (f : Pwr → Pwr) : (d.onPwr f).vgate = d.vgate := rfl
@[simp] theorem Dev.onPwr_segs (d : Dev) (f : Pwr → Pwr) : (d.onPwr f).segs = d.segs := rfl
@[simp] theorem Dev.onPwr_idents (d : Dev) (f : Pwr → Pwr) : (d.onPwr f).idents = d.idents := rfl
@[simp] theorem Dev.onPwr_arms (d : Dev) (f : Pwr → Pwr) : (d.onPwr f).arms = d.arms := rfl
@[simp] theorem Dev.onPwr_zones (d : Dev) (f : Pwr → Pwr) : (d.onPwr f).zones = d.zones := rfl
@[simp] theorem Dev.onPwr_claims (d : Dev) (f : Pwr → Pwr) : (d.onPwr f).claims = d.claims := rfl
@[simp] theorem Dev.onPwr_saf (d : Dev) (f : Pwr → Pwr) : (d.onPwr f).saf = d.saf := rfl
@[simp] theorem Dev.onPwr_cap (d : Dev) (f : Pwr → Pwr) : (d.onPwr f).cap = d.cap := rfl
@[simp] theorem Dev.onPwr_io (d : Dev) (f : Pwr → Pwr) : (d.onPwr f).io = d.io := rfl
@[simp] theorem Dev.onPwr_cans (d : Dev) (f : Pwr → Pwr) : (d.onPwr f).cans = d.cans := rfl
@[simp] theorem Dev.onPwr_tm (d : Dev) (f : Pwr → Pwr) : (d.onPwr f).tm = d.tm := rfl
@[simp] theorem Dev.onPwr_hp (d : Dev) (f : Pwr → Pwr) : (d.onPwr f).hp = d.hp := rfl
@[simp] theorem Dev.onPwr_pwr (d : Dev) (f : Pwr → Pwr) : (d.onPwr f).pwr = f d.pwr := rfl
@[simp] theorem Dev.onPwr_free (d : Dev) (f : Pwr → Pwr) : (d.onPwr f).free = d.free := rfl
@[simp] theorem Dev.onPwr_sent (d : Dev) (f : Pwr → Pwr) : (d.onPwr f).sent = d.sent := rfl

/-! ### `Dev.skip` -/

@[simp] theorem Dev.skip_stk (d : Dev) (n : Nat) : (d.skip n).stk = d.stk := rfl
@[simp] theorem Dev.skip_nov (d : Dev) (n : Nat) : (d.skip n).nov = d.nov := rfl
@[simp] theorem Dev.skip_cps (d : Dev) (n : Nat) : (d.skip n).cps = d.cps := rfl
@[simp] theorem Dev.skip_fw (d : Dev) (n : Nat) : (d.skip n).fw = d.fw := rfl
@[simp] theorem Dev.skip_axes (d : Dev) (n : Nat) : (d.skip n).axes = d.axes := rfl
@[simp] theorem Dev.skip_fbs (d : Dev) (n : Nat) : (d.skip n).fbs = d.fbs := rfl
@[simp] theorem Dev.skip_scs (d : Dev) (n : Nat) : (d.skip n).scs = d.scs := rfl
@[simp] theorem Dev.skip_eos (d : Dev) (n : Nat) : (d.skip n).eos = d.eos := rfl
@[simp] theorem Dev.skip_pfs (d : Dev) (n : Nat) : (d.skip n).pfs = d.pfs := rfl
@[simp] theorem Dev.skip_vms (d : Dev) (n : Nat) : (d.skip n).vms = d.vms := rfl
@[simp] theorem Dev.skip_cams (d : Dev) (n : Nat) : (d.skip n).cams = d.cams := rfl
@[simp] theorem Dev.skip_stgs (d : Dev) (n : Nat) : (d.skip n).stgs = d.stgs := rfl
@[simp] theorem Dev.skip_permitA (d : Dev) (n : Nat) : (d.skip n).permitA = d.permitA := rfl
@[simp] theorem Dev.skip_permitB (d : Dev) (n : Nat) : (d.skip n).permitB = d.permitB := rfl
@[simp] theorem Dev.skip_gtrip (d : Dev) (n : Nat) : (d.skip n).gtrip = d.gtrip := rfl
@[simp] theorem Dev.skip_vgate (d : Dev) (n : Nat) : (d.skip n).vgate = d.vgate := rfl
@[simp] theorem Dev.skip_segs (d : Dev) (n : Nat) : (d.skip n).segs = d.segs := rfl
@[simp] theorem Dev.skip_idents (d : Dev) (n : Nat) : (d.skip n).idents = d.idents := rfl
@[simp] theorem Dev.skip_arms (d : Dev) (n : Nat) : (d.skip n).arms = d.arms := rfl
@[simp] theorem Dev.skip_zones (d : Dev) (n : Nat) : (d.skip n).zones = d.zones := rfl
@[simp] theorem Dev.skip_claims (d : Dev) (n : Nat) : (d.skip n).claims = d.claims := rfl
@[simp] theorem Dev.skip_saf (d : Dev) (n : Nat) : (d.skip n).saf = d.saf := rfl
@[simp] theorem Dev.skip_cap (d : Dev) (n : Nat) : (d.skip n).cap = d.cap := rfl
@[simp] theorem Dev.skip_io (d : Dev) (n : Nat) : (d.skip n).io = d.io := rfl
@[simp] theorem Dev.skip_cans (d : Dev) (n : Nat) : (d.skip n).cans = d.cans := rfl
@[simp] theorem Dev.skip_tm (d : Dev) (n : Nat) : (d.skip n).tm = d.tm := rfl
@[simp] theorem Dev.skip_hp (d : Dev) (n : Nat) : (d.skip n).hp = d.hp := rfl
@[simp] theorem Dev.skip_pwr (d : Dev) (n : Nat) : (d.skip n).pwr = d.pwr := rfl
@[simp] theorem Dev.skip_free (d : Dev) (n : Nat) : (d.skip n).free = d.free + n := rfl
@[simp] theorem Dev.skip_sent (d : Dev) (n : Nat) : (d.skip n).sent = d.sent := rfl

/-! ### `Dev.send` -/

@[simp] theorem Dev.send_stk (d : Dev) (o : Out) : (d.send o).stk = d.stk := rfl
@[simp] theorem Dev.send_nov (d : Dev) (o : Out) : (d.send o).nov = d.nov := rfl
@[simp] theorem Dev.send_cps (d : Dev) (o : Out) : (d.send o).cps = d.cps := rfl
@[simp] theorem Dev.send_fw (d : Dev) (o : Out) : (d.send o).fw = d.fw := rfl
@[simp] theorem Dev.send_axes (d : Dev) (o : Out) : (d.send o).axes = d.axes := rfl
@[simp] theorem Dev.send_fbs (d : Dev) (o : Out) : (d.send o).fbs = d.fbs := rfl
@[simp] theorem Dev.send_scs (d : Dev) (o : Out) : (d.send o).scs = d.scs := rfl
@[simp] theorem Dev.send_eos (d : Dev) (o : Out) : (d.send o).eos = d.eos := rfl
@[simp] theorem Dev.send_pfs (d : Dev) (o : Out) : (d.send o).pfs = d.pfs := rfl
@[simp] theorem Dev.send_vms (d : Dev) (o : Out) : (d.send o).vms = d.vms := rfl
@[simp] theorem Dev.send_cams (d : Dev) (o : Out) : (d.send o).cams = d.cams := rfl
@[simp] theorem Dev.send_stgs (d : Dev) (o : Out) : (d.send o).stgs = d.stgs := rfl
@[simp] theorem Dev.send_permitA (d : Dev) (o : Out) : (d.send o).permitA = d.permitA := rfl
@[simp] theorem Dev.send_permitB (d : Dev) (o : Out) : (d.send o).permitB = d.permitB := rfl
@[simp] theorem Dev.send_gtrip (d : Dev) (o : Out) : (d.send o).gtrip = d.gtrip := rfl
@[simp] theorem Dev.send_vgate (d : Dev) (o : Out) : (d.send o).vgate = d.vgate := rfl
@[simp] theorem Dev.send_segs (d : Dev) (o : Out) : (d.send o).segs = d.segs := rfl
@[simp] theorem Dev.send_idents (d : Dev) (o : Out) : (d.send o).idents = d.idents := rfl
@[simp] theorem Dev.send_arms (d : Dev) (o : Out) : (d.send o).arms = d.arms := rfl
@[simp] theorem Dev.send_zones (d : Dev) (o : Out) : (d.send o).zones = d.zones := rfl
@[simp] theorem Dev.send_claims (d : Dev) (o : Out) : (d.send o).claims = d.claims := rfl
@[simp] theorem Dev.send_saf (d : Dev) (o : Out) : (d.send o).saf = d.saf := rfl
@[simp] theorem Dev.send_cap (d : Dev) (o : Out) : (d.send o).cap = d.cap := rfl
@[simp] theorem Dev.send_io (d : Dev) (o : Out) : (d.send o).io = d.io := rfl
@[simp] theorem Dev.send_cans (d : Dev) (o : Out) : (d.send o).cans = d.cans := rfl
@[simp] theorem Dev.send_tm (d : Dev) (o : Out) : (d.send o).tm = d.tm := rfl
@[simp] theorem Dev.send_hp (d : Dev) (o : Out) : (d.send o).hp = d.hp := rfl
@[simp] theorem Dev.send_pwr (d : Dev) (o : Out) : (d.send o).pwr = d.pwr := rfl
@[simp] theorem Dev.send_free (d : Dev) (o : Out) : (d.send o).free = d.free := rfl
@[simp] theorem Dev.send_sent (d : Dev) (o : Out) : (d.send o).sent = d.sent ++ [o] := rfl

end Sys2Proof.Machine
end

