-- ==== Sys2Proof/Laws/Run.lean ====
section
/-! SUPPORT. What the step of a command packet and a step of the device can do, said once. -/

namespace Sys2Proof.Machine

@[simp] theorem State.does_mem (s : State) (f : Dev → Dev) : (s.does f).mem = s.mem := rfl
@[simp] theorem State.does_shown (s : State) (f : Dev → Dev) : (s.does f).shown = s.shown := rfl
@[simp] theorem State.does_pending (s : State) (f : Dev → Dev) : (s.does f).pending = s.pending := rfl
@[simp] theorem State.after_mem (s : State) (sp : Spec) (c : Cmd) (e : Eff) : (s.after sp c e).mem = s.mem := rfl
@[simp] theorem State.after_shown (s : State) (sp : Spec) (c : Cmd) (e : Eff) : (s.after sp c e).shown = s.shown := rfl
@[simp] theorem State.after_pending (s : State) (sp : Spec) (c : Cmd) (e : Eff) : (s.after sp c e).pending = s.pending := rfl
@[simp] theorem State.refused_mem (s : State) (sp : Spec) (c : Cmd) (x y : Nat) : (s.refused sp c x y).mem = s.mem := rfl
@[simp] theorem State.refused_shown (s : State) (sp : Spec) (c : Cmd) (x y : Nat) : (s.refused sp c x y).shown = s.shown := rfl
@[simp] theorem State.refused_pending (s : State) (sp : Spec) (c : Cmd) (x y : Nat) :
    (s.refused sp c x y).pending = s.pending := rfl

/-- The step of a command packet: nothing where its ring is not fetched from; its completion alone where a check fails;
else its effect. -/
theorem State.run_cases (s : State) (sp : Spec) (c : Cmd) :
    (s.fresh.dev.carries c = false ∧ s.run sp c = s.fresh) ∨
    (∃ x y, s.fresh.dev.carries c = true ∧ s.fresh.dev.judge sp c = some (x, y) ∧ s.run sp c = s.refused sp c x y) ∨
    (s.accepts sp c = true ∧ s.run sp c = s.after sp c (sp.carry c s.fresh.dev)) := by
  have hs : s.run sp c =
      if s.fresh.dev.carries c then s.fresh.withDev (((s.fresh.dev.submit sp c .none).expect c).consume) else s.fresh := rfl
  cases hc : s.fresh.dev.carries c with
  | false => exact .inl ⟨rfl, by rw [hs, hc]; rfl⟩
  | true =>
    rw [hs, hc, if_pos rfl, Dev.submit]
    cases hj : s.fresh.dev.judge sp c with
    | none => exact .inr (.inr ⟨by simp only [State.accepts, hc, hj]; rfl, rfl⟩)
    | some v => exact .inr (.inl ⟨v.1, v.2, rfl, rfl, rfl⟩)

theorem State.run_accepted {s : State} {sp : Spec} {c : Cmd} (h : s.accepts sp c = true) :
    s.run sp c = s.after sp c (sp.carry c s.fresh.dev) := by
  rcases State.run_cases s sp c with ⟨hc, _⟩ | ⟨x, y, _, hj, _⟩ | ⟨_, hr⟩
  · simp [State.accepts, hc] at h
  · simp [State.accepts, hj] at h
  · exact hr

@[simp] theorem State.run_mem (s : State) (sp : Spec) (c : Cmd) : (s.run sp c).mem = s.mem := by
  rcases State.run_cases s sp c with ⟨_, h⟩ | ⟨_, _, _, _, h⟩ | ⟨_, h⟩ <;> simp [h]
@[simp] theorem State.run_shown (s : State) (sp : Spec) (c : Cmd) : (s.run sp c).shown = s.shown := by
  rcases State.run_cases s sp c with ⟨_, h⟩ | ⟨_, _, _, _, h⟩ | ⟨_, h⟩ <;> simp [h]
@[simp] theorem State.run_pending (s : State) (sp : Spec) (c : Cmd) : (s.run sp c).pending = s.pending := by
  rcases State.run_cases s sp c with ⟨_, h⟩ | ⟨_, _, _, _, h⟩ | ⟨_, h⟩ <;> simp [h]

/-- A step of the device: `f` while the device runs, nothing else. -/
theorem State.live_cases (s : State) (f : Dev → Dev) :
    (s.dev.running = true ∧ s.live f = s.does f) ∨ (s.dev.running = false ∧ s.live f = s.fresh) := by
  have hr : s.fresh.dev.running = s.dev.running := rfl
  have hs : s.live f = if s.fresh.dev.running then s.does f else s.fresh := rfl
  cases h : s.dev.running with
  | false => exact .inr ⟨rfl, by rw [hs, hr, h]; rfl⟩
  | true => exact .inl ⟨rfl, by rw [hs, hr, h]; rfl⟩

theorem State.live_running {s : State} (h : s.dev.running = true) (f : Dev → Dev) : s.live f = s.does f := by
  rcases State.live_cases s f with ⟨_, e⟩ | ⟨n, _⟩
  · exact e
  · simp [h] at n

@[simp] theorem State.live_mem (s : State) (f : Dev → Dev) : (s.live f).mem = s.mem := by
  rcases State.live_cases s f with ⟨_, h⟩ | ⟨_, h⟩ <;> simp [h]
@[simp] theorem State.live_shown (s : State) (f : Dev → Dev) : (s.live f).shown = s.shown := by
  rcases State.live_cases s f with ⟨_, h⟩ | ⟨_, h⟩ <;> simp [h]
@[simp] theorem State.live_pending (s : State) (f : Dev → Dev) : (s.live f).pending = s.pending := by
  rcases State.live_cases s f with ⟨_, h⟩ | ⟨_, h⟩ <;> simp [h]

/-- A step of the control space: `f` on a port that is up and is not H2, nothing else. -/
theorem State.ctl_cases (s : State) (p : Nat) (f : State → State) :
    (s.dev.portUp p = true ∧ p ≠ 2 ∧ s.ctl p f = f s.fresh) ∨ ((s.dev.portUp p = false ∨ p = 2) ∧ s.ctl p f = s.fresh) := by
  have hr : s.fresh.dev.portUp p = s.dev.portUp p := rfl
  have hs : s.ctl p f = if s.fresh.dev.portUp p && p != 2 then f s.fresh else s.fresh := rfl
  by_cases hp : p = 2
  · exact .inr ⟨.inr hp, by rw [hs, hp, bne_self_eq_false, Bool.and_false]; rfl⟩
  · have hb : (p != 2) = true := by simpa using hp
    cases h : s.dev.portUp p with
    | false => exact .inr ⟨.inl rfl, by rw [hs, hr, h]; rfl⟩
    | true => exact .inl ⟨rfl, hp, by rw [hs, hr, h, hb]; rfl⟩

/-- What a step of the control space keeps: all that `f` keeps. -/
theorem State.ctl_keeps {α : Type} (g : State → α) (s : State) (p : Nat) (f : State → State)
    (h0 : g s.fresh = g s) (h : ∀ t, g (f t) = g t) : g (s.ctl p f) = g s := by
  rcases State.ctl_cases s p f with ⟨_, _, e⟩ | ⟨_, e⟩
  · rw [e, h, h0]
  · rw [e, h0]

/-! ### What a packet may change -/

theorem upd_other {α : Type} (l : List α) {i k : Nat} (f : α → α) (h : k ≠ i) : (upd l i f)[k]? = l[k]? := by
  rw [upd, List.getElem?_modify]
  simp [h.symm]

/-- The mark of R472 touches the save areas alone. -/
theorem Dev.consume_eq (d : Dev) : ∃ a b, d.consume = { d with pwr := { d.pwr with areas := a, source := b } } := by
  unfold Dev.consume
  split
  · exact ⟨_, _, rfl⟩
  · extract_lets
    split <;> exact ⟨_, _, rfl⟩

@[simp] theorem Dev.consume_nov (d : Dev) : d.consume.nov = d.nov := by
  obtain ⟨a, b, e⟩ := d.consume_eq
  rw [e]

/-- A command that took effect adds one flight. -/
theorem Eff.finish_eq (e : Eff) (c : Cmd) (op : Nat) (pool : Pool) (base : Nat) :
    ∃ f, e.finish c op pool base = { e.dev with nov := { e.dev.nov with flights := e.dev.nov.flights ++ [f] } } := by
  unfold Eff.finish
  extract_lets
  split <;> exact ⟨_, rfl⟩

/-- Each check of a list that passes passes. -/
theorem firstFail_none {l : List Verdict} (h : firstFail l = none) {v : Verdict} (hv : v ∈ l) : v = none := by
  induction l with
  | nil => simp at hv
  | cons a r ih =>
    cases a with
    | some x => simp [firstFail] at h
    | none =>
      rcases List.mem_cons.mp hv with e | m
      · exact e
      · exact ih (by simpa [firstFail] using h) m

/-- R39 step 4: the target class of a packet that is accepted is one its row takes. -/
theorem State.accepts_class {s : State} {sp : Spec} {c : Cmd} (h : s.accepts sp c = true) : c.cls ∈ sp.classes := by
  simp only [State.accepts, Bool.and_eq_true, Option.isNone_iff_eq_none, Dev.judge] at h
  have t := firstFail_none h.2 (v := s.fresh.dev.checkTarget sp c) (by simp)
  unfold Dev.checkTarget at t
  split at t
  · simp at t
  · split at t
    · simp at t
    · rename_i n
      simp only [not_or] at n
      simpa using n.2.1

/-- An accepted packet leaves what its effect leaves, but for its ring, its flight, the count of packets and the save areas. -/
theorem State.run_accepted_dev {s : State} {sp : Spec} {c : Cmd} (h : s.accepts sp c = true) :
    ∃ fl r t a b, (s.run sp c).dev =
      { (sp.carry c s.fresh.dev).dev with
        nov := { (sp.carry c s.fresh.dev).dev.nov with flights := fl, rings := r, taken := t }
        pwr := { (sp.carry c s.fresh.dev).dev.pwr with areas := a, source := b } } := by
  obtain ⟨a, b, e⟩ := (((sp.carry c s.fresh.dev).finish c sp.op .none (s.fresh.dev.effStroke sp c)).expect c).consume_eq
  obtain ⟨f, g⟩ := (sp.carry c s.fresh.dev).finish_eq c sp.op .none (s.fresh.dev.effStroke sp c)
  rw [State.run_accepted h]
  unfold State.after State.withDev
  dsimp only []
  rw [e, g]
  exact ⟨_, _, _, a, b, rfl⟩

/-- All that the step of a packet can do to the device: the bookkeeping of its ring, or with it the packet's effect. -/
theorem State.run_dev (s : State) (sp : Spec) (c : Cmd) :
    (∃ fl r t a b, (s.run sp c).dev =
      { s.dev with
        sent := [], nov := { s.dev.nov with flights := fl, rings := r, taken := t }
        pwr := { s.dev.pwr with areas := a, source := b } }) ∨
    (c.cls ∈ sp.classes ∧ ∃ fl r t a b, (s.run sp c).dev =
      { (sp.carry c s.fresh.dev).dev with
        nov := { (sp.carry c s.fresh.dev).dev.nov with flights := fl, rings := r, taken := t }
        pwr := { (sp.carry c s.fresh.dev).dev.pwr with areas := a, source := b } }) := by
  rcases State.run_cases s sp c with ⟨_, h⟩ | ⟨x, y, _, _, h⟩ | ⟨ha, _⟩
  · exact .inl ⟨_, _, _, s.dev.pwr.areas, s.dev.pwr.source, by rw [h]; rfl⟩
  · obtain ⟨a, b, e⟩ := ((s.fresh.dev.post c sp.op Pool.none x y [] s.dev.stk.number none).expect c).consume_eq
    exact .inl ⟨_, _, _, a, b, by rw [h]; exact e⟩
  · exact .inr ⟨State.accepts_class ha, State.run_accepted_dev ha⟩

/-- A command that is not planned is carried out on the device as it stands. -/
theorem Spec.carry_unplanned {sp : Spec} (h : (sp.timing == .plan) = false) (c : Cmd) (d : Dev) : sp.carry c d = sp.apply c d := by
  rw [Spec.carry, h]
  rfl

/-- A planned command is carried out on the device as it stands or after the note of what it finds in force. -/
theorem Spec.carry_cases (sp : Spec) (c : Cmd) (d : Dev) :
    sp.carry c d = sp.apply c d ∨ sp.carry c d = sp.apply c (d.notePlan c) := by
  unfold Spec.carry
  split
  · exact .inr rfl
  · exact .inl rfl

end Sys2Proof.Machine
end

