-- ==== Sys2Proof/WellFormed.lean ====
section
/-! DEFINITION. Which commands and events are well formed: the operands that carry a field of a fixed width
keep to it (R33, R35, R40), and a payload to the largest a packet can name. Opcode-specific rules are no
part of this: the block itself answers them with a status (R38, R39). -/

namespace Sys2Proof

/-- R33, R35: every field of a packet within its width; a `by_ref` length is a u32 of at most 16 MB. -/
def Cmd.wf (c : Cmd) : Bool :=
  decide (c.tag < 2 ^ 16) && decide (c.seq < 2 ^ 32) && decide (c.comp < 2 ^ 8) && decide (c.flags < 2 ^ 8) &&
  decide (c.atStroke < 2 ^ 64) && decide (c.cls < 2 ^ 8) && decide (c.idx < 2 ^ 24) &&
  decide (c.payload.length ≤ 2 ^ 24)

end Sys2Proof
end

