-- ==== Sys2Proof/Tests/Slice0.lean ====
section
/-! SUPPORT. Tests on fixed values: ill-formed packets, check values and worked cases that the spec gives, and for every
statement with hypotheses a state and operands that meet them. -/

namespace Sys2Proof.Tests

open Sys2Proof.Machine

set_option Elab.async false

/-! ### Small devices to test on -/

/-- A ring pair of port `p` in device SRAM. -/
def demoRing (p cls : Nat) : Ring :=
  { Ring.reset with state := 1, cls := cls, port := p, loc := 1, sqSlots := 128, cqSlots := 128, cqBase := 0x2000 }

/-- A device after start: compartment 0 of port 0 holds every resource; rings 0 to 3 of port 0 have the classes 0 to 3, ring 4
of port 3 class 1. -/
def demoDev : Dev :=
  { Dev.reset with
    nov := { Nov.reset with
      rings := [demoRing 0 0, demoRing 0 1, demoRing 0 2, demoRing 0 3, demoRing 3 1, demoRing 2 2] ++ List.replicate 122 Ring.reset
      sessions := List.replicate 4 ⟨true, 0, []⟩ }
    cps := { Cps.reset with
      comps := { Comp.reset with state := 1 } :: List.replicate 7 Comp.reset
      owners := resourceCounts.map (fun (n : Nat) => List.replicate n (some 0)) } }

def demo (d : Dev) : State := { dev := d, shown := Dev.reset, mem := [], pending := [] }

/-- A packet of port 0. -/
def packet (ring : Fin 128) (comp cls idx : Nat) (payload : Bytes) : Cmd :=
  { port := 0, ring := ring, tag := 7, seq := 0, comp := comp, flags := 0, atStroke := 0, cls := cls, idx := idx, refAddr := 0, payload := payload }

/-- A payload of `n` bytes: zero but for the fields written at the offsets. -/
def pay (n : Nat) (l : List (Nat × Bytes)) : Bytes :=
  l.foldl (fun (p : Bytes) (x : Nat × Bytes) => p.take x.1 ++ x.2 ++ p.drop (x.1 + x.2.length)) (zeros n)

/-- Before the session of port 0 opens, its control ring pair stands. -/
def freshDev : Dev :=
  (demoDev.onRing 2 (fun (r : Ring) => { r with control := true })).onSession 0 (fun (s : Session) => { s with isOpen := false })

/-- Axis 0, bound to local stage 0, runs in `AUTO` at rest. -/
def autoDev : Dev :=
  (demoDev.onAx 0 (fun (a : Axis) =>
    { a with
      state := 4, cfg := { a.cfg with configured := true, source := 1, posLoop := 1, powerObject := 0x05000000, curSpan := 20000, voltSpan := 48000 }
      lim := { a.lim with qsDecel := 10, haltDecel := 10, feTime := 4, ssTime := 4 } })).onStg 0
    (fun (s : Stg) => { s with mode := 1, ready := true })

/-- A gear relation to virtual master 3, engaged. -/
def demoRel : Rel := ⟨false, 0x12, 3, 0, 1, 1, 1, 1, 0, 0, 0, 0, 0, none, ⟨0, 0, 0, 0, 0, 0, 0, 0⟩, 0, true, none, none, none, none⟩

def camDev (st : Nat) : Dev :=
  { demoDev with cams := demoDev.cams.set 6 { Cam.reset with state := st, n := 2 } }

/-- An ident record with a serial, a converter and a motor tag (R259, R260). -/
def demoIdent : Bytes :=
  let body := e16 1 ++ e16 52 ++ zeros 4 ++ e16 0x0001 ++ e16 16 ++ zeros 16 ++ e16 0x0010 ++ e16 4 ++ zeros 4 ++ e16 0x0011 ++ e16 8 ++ zeros 8
  body ++ e32 (crc32 body)

/-- Segment 2 in state `st`, with a schedule of one slack window; its node 1 is present. -/
def segDev (st : Nat) : Dev :=
  demoDev.onSeg 2 (fun (s : Seg) =>
    { s with
      state := st, table := some ⟨false, [0, 1, 0, 0, 0, 0, 0, 0], [⟨25, 36, 2, 1, 1, 1⟩, ⟨500, 35, 3, 0xFF, 0, 0⟩, ⟨700, 60, 4, 0xFF, 2, 0⟩]⟩
      pos := s.pos.set 1 { NodePos.reset with state := 4 } })

/-- CAN channel 1 configured, in state `st`. -/
def canDev (st : Nat) : Dev := demoDev.onCan 1 (fun (x : Can) => { x with state := st, cfg := { x.cfg with nBrp := 1 } })

/-- Capture channel 18 configured: circular, 256 records. -/
def capDev : Dev :=
  demoDev.onChan 18 (fun (k : Chan) =>
    { k with cfg := some ⟨0, 0, false, 0, 2, 0, 0xFF, 0, 1, 256, 0, 0, 0, 3, 0, 0, 0, 0, 0, 0⟩ })

/-- Arm 1 held at rest, with an append yard. -/
def armDev : Dev := demoDev.onArm 1 (fun (m : Arm) => { m with state := 1, yard := { m.yard with loc := 1 } })

def msgPayload : Bytes := let b := pay 12 [(0, e16 1)]; b ++ e32 (crc32c b)
def fpOneWord : Nat := 0x3FF0000000000000
def armPayload : Bytes :=
  pay 288 [(0, e8 1), (40, e64 fpOneWord), (75, e8 1), (72 + 32, e64 fpOneWord), (72 + 72, e64 fpOneWord), (72 + 80, e64 fpOneWord),
    (72 + 88, e64 fpOneWord), (72 + 96, e64 fpOneWord), (72 + 104, e64 fpOneWord), (72 + 112, e64 fpOneWord), (72 + 120, e64 fpOneWord)]
/-- The unit cube about the origin: six planes at distance 1. -/
def zonePayload : Bytes :=
  let m : Nat := 0xBFF0000000000000
  let plane (k v : Nat) : List (Nat × Bytes) := [(16 + 32 * k + 8 * (k % 3), e64 v), (16 + 32 * k + 24, e64 fpOneWord)]
  pay 208 ([(0, e8 6)] ++ plane 0 fpOneWord ++ plane 1 fpOneWord ++ plane 2 fpOneWord ++ plane 3 m ++ plane 4 m ++ plane 5 m)
def capPayload : Bytes := pay 48 [(4, e16 2), (7, e8 0xFF), (12, e32 1), (16, e32 256)]
def canPayload : Bytes :=
  pay 24 [(4, e8 1), (5, e8 1), (6, e16 63), (8, e8 16), (10, e8 1), (11, e8 15), (12, e8 4), (13, e8 1), (16, e8 1), (17, e8 1)]

/-- The packet of a row with a payload of zeros, of the first length and in the first ring class that the row allows. -/
def plain (sp : Spec) : Cmd :=
  packet (Fin.ofNat 128 (sp.rings.headD 2)) (if sp.classes.headD 0 = 0 then 0xFF else 0) (sp.classes.headD 0) 0
    (zeros (((List.range 4097).find? sp.len).getD 0))

/-- The device accepts the packet. -/
def reached (d : Dev) (sp : Spec) (c : Cmd) : Bool := (demo d).accepts sp c

/-- The device accepts the packet, and its effect takes place with `ST_OK`. -/
def done (d : Dev) (sp : Spec) (c : Cmd) : Bool := reached d sp c && (sp.carry c d).status == ST.ok


/-! ### Well-formedness: an ill-formed packet for each check of `Cmd.wf` -/

def goodCmd : Cmd := packet 2 0 1 5 (zeros 24)

theorem test_wf_accepts : goodCmd.wf = true := by decide +kernel
theorem test_wf_tag : ({ goodCmd with tag := 2 ^ 16 } : Cmd).wf = false := by decide +kernel
theorem test_wf_sequence : ({ goodCmd with seq := 2 ^ 32 } : Cmd).wf = false := by decide +kernel
theorem test_wf_compartment : ({ goodCmd with comp := 2 ^ 8 } : Cmd).wf = false := by decide +kernel
theorem test_wf_flags : ({ goodCmd with flags := 2 ^ 8 } : Cmd).wf = false := by decide +kernel
theorem test_wf_stroke : ({ goodCmd with atStroke := 2 ^ 64 } : Cmd).wf = false := by decide +kernel
theorem test_wf_class : ({ goodCmd with cls := 2 ^ 8 } : Cmd).wf = false := by decide +kernel
theorem test_wf_index : ({ goodCmd with idx := 2 ^ 24 } : Cmd).wf = false := by decide +kernel
/-- R35: at most 16 MB. -/
theorem test_wf_payload (p : Bytes) (h : 2 ^ 24 < p.length) : ({ goodCmd with payload := p } : Cmd).wf = false := by
  have n : ¬ p.length ≤ 2 ^ 24 := Nat.not_le.mpr h
  simp only [Cmd.wf, n, decide_false, Bool.and_false]
theorem test_no_row_has_a_word : decodeTableWord 16 0x0301 = none := rfl

/-! ### Check values and worked cases that the spec states -/

def digits : Bytes := [0x31, 0x32, 0x33, 0x34, 0x35, 0x36, 0x37, 0x38, 0x39]

/-- R219, R259, R455: the check values of ASCII "123456789". -/
theorem test_check_values :
    crc16 digits = 0x29B1 ∧ crc32c digits = 0xE3069283 ∧ crc32 digits = 0xCBF43926 ∧
      (List.range 4).map (fun (k : Nat) => crcOf k digits) = [0xDF, 0x29B1, 0xCBF43926, 0xE3069283] := by
  decide +kernel

/-- R74: MUL, ADD and SHIFT. -/
theorem test_hook_arithmetic :
    extF (0x4000 * 1) true = (1, false) ∧ extF (-0x4000 * 1) true = (0, false) ∧ extF (3 * 0x6000) true = (2, false) ∧
      extF (-32768 * -32768) true = (32767, true) ∧ extF (-32768 * -32768) false = (-32768, false) ∧
      q15 (30000 + 10000) true = (32767, true) ∧ q15 (30000 + 10000) false = (-25536, false) ∧ q15 (shiftBy (-24) (-4)) true = (-1, false) ∧
      acc40 (shiftBy (2 ^ 30) 9) true = (2 ^ 39 - 1, true) ∧ acc40 (shiftBy (2 ^ 30) 9) false = (-2 ^ 39, false) := by
  decide +kernel

/-- R74: DIVS. -/
theorem test_divs :
    divs 1 3 = ⟨10922, 2, false, false⟩ ∧ divs (-1) 3 = ⟨-10922, -2, false, false⟩ ∧ divs 2 32767 = ⟨2, 2, false, false⟩ ∧
      divs 10000 1 = ⟨32767, 0, false, true⟩ ∧ divs (-32768) (-32768) = ⟨32767, 0, false, true⟩ ∧
      divs (-5) 0 = ⟨-32768, -5, true, false⟩ ∧ divs 0 0 = ⟨32767, 0, true, false⟩ := by
  decide +kernel

/-- R74: the reduction of a position difference. -/
theorem test_reduce : [1000, 16, -16, 2000000].map (fun (e : Int) => reduce e 20) = [31, 1, 0, 32767] := by decide +kernel

/-- The worked example of R230: eight two-axis nodes at 62.5 us. -/
theorem test_automatic_table :
    autoTable StkCfg.factory (List.replicate 8 2) =
      (List.range 8).map (fun (k : Nat) => ⟨25 + 48 * k, 48, 2, k, 1, 2⟩) ++ [⟨575, 140, 3, 0xFF, 0, 0⟩, ⟨725, 56, 4, 0xFF, 2, 0⟩] := by
  decide +kernel

/-- The worked example of R240: a round trip of 1,258 ns. -/
theorem test_echo_delay : echoDelay 1258 = 109 := by decide +kernel

/-- The worked example of R180. -/
theorem test_latched_value : latchRemote 4001562 4000000 21300 62500 = 4002094 := by decide +kernel

/-- R282, the example "two arms at one conveyor": the planned velocity of joint 2 and its two rate steps. -/
theorem test_rate_steps :
    let j : Joint := ⟨66, 0, 0, zeros 96 ++ e64 0x4014000000000000 ++ e64 0x4034000000000000 ++ zeros 8 ++ e64 0x412E848000000000 ++ zeros 88⟩
    let k : Knots := ⟨0, 750, 750, 750⟩
    let u := k.topSpeed 8
    u * 4 = 375 * gOne ∧ j.rateStep (j.word 104) u 16000 0 0 = 54 ∧ j.rateStep (j.word 96) u 16000 0 0 = 13 ∧
      cdivN 65536 54 = 1214 := by
  decide +kernel

/-- R322-R324, the example "the largest admissible scale": S_p of k = 64, 46, 45 and 0 in hundredths of a mm, and the
scale found at 400 mm. -/
theorem test_protective_distance :
    let m : Arm := { Arm.reset with
      tools := some []
      model := some ⟨[0, 0x4089000000000000, 0x4099000000000000], [0],
        [(0, 0), (0x3FA999999999999A, 0x403E000000000000), (0x3FB47AE147AE147B, 0x4056800000000000)]⟩ }
    let g : SepRun := ⟨Int.fdiv (41 * gOne) 1000, 656, 8, 16000, 65536, 64, 1600 * gOne⟩
    let s (k : Nat) : Int := let r := m.reach g k 0; sepDistance r.1 r.2.1 r.2.2 g.tr (1200 * gOne) (150 * gOne) (20 * gOne)
    [64, 46, 45, 0].map (fun (k : Nat) => Int.fdiv (2 * 100 * s k + gOne) (2 * gOne)) = [47080, 40261, 39906, 33036] ∧
      (List.range 65).reverse.find? (fun (k : Nat) => decide (s k ≤ 400 * gOne)) = some 45 := by
  decide +kernel

/-- R411: a message on vector 63 of H3 drives the line once its mask bit is clear. -/
theorem test_irq_line :
    (let q := (Dev.reset.issue 3 63).prt 3
     bit q.irqVec 63 && !q.irq && ({ q with irqMask := q.irqMask - 2 ^ 63 } : Port).irq) = true := by
  decide +kernel

/-! ### Witnesses of the other statements -/

/-- Some step with each premise about the queue or the memory. -/
theorem witness_queue :
    ({ State.reset with pending := [.saveAbandon] } : State).pending = .saveAbandon :: [] ∧ State.reset.pending = [] ∧ State.reset.memOk ∧
      exec .saveAbandon State.reset = .next State.reset.fresh ∧ step State.reset = .next State.reset := by
  refine ⟨rfl, rfl, rfl, rfl, rfl⟩

theorem witness_RingWritesReadBack : Memory.wf [(3, 1), (900, 255)] = true ∧ (zeros 64).length ≤ 1 * 64 := by decide +kernel

/-- A packet for axis 5 from a ring that is fetched from, and the same where no compartment holds the axis. -/
theorem witness_RefusedPacketOnlyReports :
    rowPacket (.bankSwap goodCmd) = some (specBankSwap, goodCmd) ∧ Dev.reset.carries goodCmd = false ∧ demoDev.carries goodCmd = true ∧
      demoDev.judge specBankSwap goodCmd = some (ST.badLength, 0) := by
  refine ⟨rfl, ?_, ?_, ?_⟩ <;> decide +kernel

theorem witness_WrongSequenceRefused :
    (let c := { packet 1 0 1 5 (zeros 4) with seq := 1 }
     demoDev.carries c = true ∧ demoDev.checkForm specBankSwap c = none ∧ c.seq ≠ (demoDev.ring c.ring.val).expSeq) := by
  decide +kernel

/-- Axis 5 held by no compartment, and held by a compartment of port 0 with a packet from port 3. -/
theorem witness_NoOwnershipNoChange :
    (specBankSwap.right = .owner ∧ demoDev.holder 0x01 5 = some 0 ∧ demoDev.owns 3 0 = false ∧ Dev.reset.holder 0x01 5 = none) := by
  decide +kernel

theorem witness_DivisionIsExact :
    (([(-32768, 0), (32767, 0), (-32768, -32768), (1, 1), (-32767, -32768), (0, 1)] : List (Int × Int)).map (fun (n, d) =>
      if d = 0 then 0 else if d.natAbs ≤ n.natAbs then 1 else 2)) = [0, 0, 1, 1, 2, 2] := by
  decide +kernel

theorem witness_BankSwapKeepsLoopState : reached demoDev specBankSwap (packet 1 0 1 127 (pay 4 [(0, e8 1)])) = true ∧ 127 < demoDev.axes.length := by
  decide +kernel

/-- Block 8 in reset: a second reset of it is accepted, and a command waits for it. -/
theorem witness_BlockResetTimeout :
    (let d := demoDev.setBlock 0x08 1
     let f : Flight := ⟨goodCmd, 0x0208, .none, .hold, .block 0x08, 0, 0, [], 0, none, 0⟩
     let e := { d with nov := { d.nov with flights := [f] } }
     reached d specBlockReset (packet 2 0xFF 0 0 (pay 4 [(0, e8 8)])) = true ∧ e.running = true ∧ e.cps.blocks.length = 56 ∧ e.block 8 ≠ 0 ∧
       f ∈ e.nov.flights ∧ f.stage = .hold ∧ f.hold = .block 8) := by
  decide +kernel

theorem witness_IrqLineOfH3 : Dev.reset.hp.ports.length = 4 ∧ 63 < 64 := by decide +kernel

/-- Lengths and lists behind the clauses that name an entry: CAN_START of a stopped and CAN_RECOVER of a bus-off channel, the others
are the packets of `witness_AxisAndFeedbackCommandsComplete` and of the field commands. -/
theorem witness_TakeEffect :
    reached (canDev 0) specCanStart (packet 2 0 8 1 []) = true ∧ ((canDev 0).can 1).state = 0 ∧
      reached (canDev 3) specCanRecover (packet 1 0 8 1 []) = true ∧ ((canDev 3).can 1).state = 3 ∧
      1 < demoDev.cans.length ∧ 0 < demoDev.fbs.length ∧ 5 < demoDev.io.dis.length ∧ 0 < demoDev.saf.comps.length := by
  decide +kernel

/-- A COEF_WRITE payload whose bytes other than the reserved ones are 0xFF. -/
theorem witness_coefficients :
    (let p : Bytes := (List.range 104).map (fun (k : Nat) => if (1 ≤ k ∧ k ≤ 3) ∨ (7 ≤ k ∧ k ≤ 59 ∧ k % 4 = 3) then 0 else 0xFF)
     p.length = 104 ∧ u8 p 0 < 256 ∧ allZero p 1 3 = true ∧ (∀ k < 14, u8 p (7 + 4 * k) = 0) ∧ (coefsOf p).bytes (u8 p 0) = p) := by
  decide +kernel

/-- Axis 0 under a feed hold: each of the commands of `StopRefusesMotion` can be sent. -/
theorem witness_StopRefusesMotion :
    (let s := demo (autoDev.onAx 0 (fun (a : Axis) => { a with stop := 1 }))
     let c := packet 1 0 1 0 (pay 20 [(0, e8 2)])
     (s.dev.ax c.idx).stop ≠ 0 ∧ c.cls = 1 ∧ u8 c.payload 0 ≠ 1 ∧ u8 (packet 2 0 1 0 (pay 16 [(0, e8 1)])).payload 0 = 1 ∧
       s.fresh.dev.judge specAxisMode c = some (ST.stopLatched, 0)) := by
  decide +kernel

theorem witness_arithmetic :
    (0 < 1 ∧ (4 = 4 ∨ 4 = 8) ∧ 0 < (⟨-5, -70, 3⟩ : Ramp).d ∧ 70 ≤ 24 * 3 ∧ 2 ^ 256 - 1 < 2 ^ 256 ∧ 47 ≤ 47) ∧ suctionLen 2 = 33 := by
  decide +kernel

/-! ### Packets that every row accepts -/

/-- Every row of `UrgentAndSessionCommandsComplete` has a packet that the device accepts. -/
theorem witness_UrgentAndSessionCommandsComplete : [
    done autoDev specStopCat0 (packet 0 0 1 0 (pay 0 [])),
    done autoDev specStopCat1 (packet 0 0 1 0 (pay 0 [])),
    done autoDev specStopCat2 (packet 0 0 1 0 (pay 0 [])),
    done autoDev specFeedHold (packet 0 0 1 0 (pay 0 [])),
    done demoDev specHalt (plain specHalt),
    done freshDev specSessionOpen (packet 2 255 0 0 (pay 8 [(0, e16 512), (4, e32 7)])),
    done demoDev specSessionClose (plain specSessionClose),
    done demoDev specRingCreate (packet 2 255 13 9 (pay 32 [(0, e8 2), (1, e8 1), (4, e32 128), (8, e32 128), (16, e64 0x10000), (24, e64 0x14000)])),
    done demoDev specRingDelete (plain specRingDelete),
    done demoDev specRingStatsClear (plain specRingStatsClear),
    done demoDev specDeviceIdentify (plain specDeviceIdentify),
    done demoDev specNop (plain specNop),
    done { demoDev with nov := { demoDev.nov with flights := [⟨{ packet 1 0xFF 0 0 [] with tag := 9 }, 0x0107, .none, .pending, .none, 0, 0, [], 0, none, 0⟩] } } specCmdAbort (packet 1 255 0 0 (pay 8 [(0, e16 1), (2, e16 9)])),
    done demoDev specTagLimits (plain specTagLimits),
    done (autoDev.onAx 0 (fun (a : Axis) => { a with stop := 3 })) specStopRelease (packet 1 0 1 0 (pay 0 [])),
    done (autoDev.onAx 0 (fun (a : Axis) => { a with stop := 2 })) specFeedResume (packet 1 0 1 0 (pay 0 []))].all id = true := by
  decide +kernel

/-- Every row of `CompartmentAndStrokeCommandsComplete` has a packet that the device accepts. -/
theorem witness_CompartmentAndStrokeCommandsComplete : [
    done demoDev specCellOwnerSet (plain specCellOwnerSet),
    done demoDev specCompartmentCreate (packet 2 255 12 1 (pay 4 [(0, e8 0), (2, e8 1)])),
    done (demoDev.onComp 1 (fun (x : Comp) => { x with state := 1 })) specCompartmentDelete (packet 2 255 12 1 (pay 0 [])),
    done { demoDev with cps := { demoDev.cps with owners := resourceCounts.map (fun (n : Nat) => List.replicate n none) } } specResourceAssign (packet 2 255 12 0 (pay 12 [(0, e8 1), (4, e32 3), (8, e32 2)])),
    done demoDev specResourceRelease (packet 2 255 12 0 (pay 12 [(0, e8 1), (4, e32 3), (8, e32 2)])),
    done demoDev specRightsSet (plain specRightsSet),
    done demoDev specCompartmentQuery (plain specCompartmentQuery),
    done demoDev specBlockReset (plain specBlockReset),
    done demoDev specBlockQuery (plain specBlockQuery),
    done demoDev specCompartmentEventAck (plain specCompartmentEventAck),
    done demoDev specFwStageOpen (packet 2 255 0 0 (pay 4 [(0, e32 512)])),
    done (demoDev.onStaged (fun (s : FwSlot) => { s with state := 1, length := 512 })) specFwStageWrite (packet 3 255 0 0 (pay 12 [(0, e32 508), (8, e32 77)])),
    reached (demoDev.onStaged (fun (s : FwSlot) => { s with state := 1, length := 512 })) specFwStageClose (packet 2 255 0 0 (pay 0 [])),
    done (demoDev.onStaged (fun (s : FwSlot) => { s with state := 2, length := 512 })) specFwMigrate (packet 2 0 12 0 (pay 4 [(2, e16 100)])),
    done ((demoDev.onStaged (fun (s : FwSlot) => { s with state := 2, length := 512 })).onComp 0 (fun (x : Comp) => { x with slot := 1 })) specFwActivate (packet 2 255 0 0 (pay 0 [])),
    done (demoDev.onStaged (fun (s : FwSlot) => { s with state := 2, length := 512 })) specFwDiscard (packet 2 255 0 0 (pay 0 [])),
    done demoDev specFwStatus (plain specFwStatus),
    done demoDev specStrokeConfigure (packet 2 255 0 0 (pay 20 [(0, e8 2), (1, e8 4), (2, e8 1)])),
    done demoDev specStrokeQuery (plain specStrokeQuery),
    done demoDev specStrokeLock (plain specStrokeLock),
    done demoDev specBudgetQuery (plain specBudgetQuery),
    done demoDev specStrokeCountersClear (plain specStrokeCountersClear),
    done demoDev specBudgetTrial (packet 2 255 0 0 (pay 16 [(0, e16 263), (4, e8 255)]))].all id = true := by
  decide +kernel

/-- Every row of `AxisAndFeedbackCommandsComplete` has a packet that the device accepts. -/
theorem witness_AxisAndFeedbackCommandsComplete : [
    done demoDev specHookLoad (packet 2 0 1 5 (pay 24 [(0, e8 0), (1, e8 1), (20, e32 0x10000000)])),
    done (demoDev.onAx 5 (fun (a : Axis) => a.setHook 0 (some ⟨[0, 0, 0, 0, 0, 0, 0, 0], [0x10000000]⟩))) specHookRemove (packet 2 0 1 5 (pay 4 [])),
    done demoDev specHookQuery (plain specHookQuery),
    done demoDev specHookUserSet (plain specHookUserSet),
    done demoDev specAxisConfigure (packet 2 0 1 5 (pay 24 [(1, e8 1), (5, e8 1), (8, e32 0x05000001), (16, e32 20000), (20, e32 48000)])),
    done ((autoDev.onAx 0 (fun (a : Axis) => { a with state := 0 })).onFb 0 (fun (f : Fb) => { f with cfg := { f.cfg with source := 2 } })) specAxisEnable (packet 2 0 1 0 (pay 4 [(0, e8 1)])),
    done demoDev specAxisLimits (packet 1 0 1 5 (pay 72 [(8, e64 1000), (16, e64 10), (24, e64 10), (40, e16 8), (42, e16 4)])),
    done demoDev specCoefWrite (packet 2 0 1 5 (pay 104 [(0, e8 1), (4, e16 300)])),
    done demoDev specCoefRead (plain specCoefRead),
    done demoDev specBankSwap (packet 1 0 1 5 (pay 4 [(0, e8 1)])),
    done autoDev specAxisMode (packet 1 0 1 0 (pay 20 [(0, e8 1)])),
    done (autoDev.onAx 0 (fun (a : Axis) => { a with state := 2 })) specAxisManualSet (packet 1 0 1 0 (pay 16 [(0, e32 500)])),
    done (demoDev.onAx 5 (fun (a : Axis) => { a with state := 5, faultCode := 4 })) specFaultClear (packet 1 0 1 5 (pay 0 [])),
    done autoDev specInjectStart (packet 2 0 1 0 (pay 28 [(0, e8 2), (4, e16 100), (8, e32 64), (12, e32 1000), (16, e32 2000), (20, e8 255), (21, e8 255), (22, e8 255), (23, e8 255)])),
    done (autoDev.onAx 0 (fun (a : Axis) => { a with inj := some (autoDev.injOf (zeros 28)) })) specInjectStop (packet 1 0 1 0 (pay 0 [])),
    done demoDev specAxisFlagsClear (plain specAxisFlagsClear),
    done demoDev specAxisEventAck (plain specAxisEventAck),
    done demoDev specFbConfigure (packet 2 0 1 5 (pay 24 [(0, e8 3), (1, e8 2), (3, e8 4), (4, e32 4096), (8, e32 1), (12, e32 1), (18, e16 100)])),
    done demoDev specFbLimits (plain specFbLimits),
    done demoDev specFbPositionSet (plain specFbPositionSet),
    done demoDev specScConfigure (packet 2 0 16 1 (pay 16 [(1, e8 4), (2, e16 16000), (4, e16 100), (6, e16 4000)])),
    done demoDev specScCalWrite (packet 1 0 16 1 (pay 8 [(0, e16 5), (4, e16 16384)])),
    done demoDev specEoConfigure (packet 2 0 15 1 (pay 24 [(4, e32 0x01000003), (8, e32 1), (12, e32 4)])),
    done demoDev specEoEnable (packet 1 0 15 1 (pay 4 [(0, e8 1)])),
    done demoDev specFbEventAck (plain specFbEventAck),
    done demoDev specFbFlagsClear (plain specFbFlagsClear)].all id = true := by
  decide +kernel

/-- Every row of `ProfileCommandsComplete` has a packet that the device accepts. -/
theorem witness_ProfileCommandsComplete : [
    done autoDev specMove (packet 1 0 1 0 (pay 44 [(4, e64 100000), (12, e64 4000), (20, e64 400), (28, e64 400), (36, e64 0)])),
    done (autoDev.onPf 0 (fun (p : Pf) => { p with source := 1, gen := { p.gen with run := some ((moveOf (pay 44 [(4, e64 100000), (12, e64 4000), (20, e64 400), (28, e64 400)])).start 0 0 0) } })) specMoveModify (packet 1 0 1 0 (pay 36 [(0, e8 1), (4, e64 9)])),
    done demoDev specVmConfigure (packet 2 0 18 3 (pay 24 [(1, e8 1), (8, e64 50), (16, e64 7)])),
    done autoDev specGearEngage (packet 1 0 1 0 (pay 40 [(0, e32 0x12000003), (8, e32 2), (12, e32 1)])),
    done (autoDev.onPf 0 (fun (p : Pf) => { p with source := 2, rel := some demoRel })) specGearRatio (packet 1 0 1 0 (pay 16 [(0, e32 3), (4, e32 2)])),
    done (autoDev.onPf 0 (fun (p : Pf) => { p with source := 2, rel := some demoRel })) specRelationPhase (packet 1 0 1 0 (pay 24 [(0, e64 90), (8, e64 10), (16, e64 5)])),
    done (autoDev.onPf 0 (fun (p : Pf) => { p with source := 2, rel := some demoRel })) specDisengage (packet 1 0 1 0 (pay 8 [(0, e64 10)])),
    done demoDev specCamCreate (packet 2 0 19 6 (pay 8 [(0, e32 2)])),
    done (camDev 1) specCamWrite (packet 3 0 19 6 (pay 24 [(8, e64 0), (16, e64 500)])),
    done { demoDev with cams := demoDev.cams.set 6 { Cam.reset with state := 1, n := 2, pts := [(1, ⟨500, 9, 0⟩), (0, ⟨0, 0, 0⟩)] } } specCamCommit (packet 2 0 19 6 (pay 0 [])),
    done (camDev 2) specCamDelete (packet 2 0 19 6 (pay 0 [])),
    done { autoDev with cams := (camDev 2).cams } specCamEngage (packet 1 0 1 0 (pay 32 [(0, e32 0x12000003), (6, e16 6)])),
    done (({ autoDev with cams := (camDev 3).cams.map (fun (c : Cam) => { c with periodic := true }) } : Dev).onPf 0 (fun (p : Pf) => { p with source := 3, rel := some { demoRel with isCam := true, table := 6 } })) specCamNext (packet 1 0 1 0 (pay 4 [(0, e16 6)])),
    done demoDev specLatchArm (packet 1 0 1 5 (pay 24 [(4, e32 0x09000002)])),
    done (demoDev.onPf 5 (fun (p : Pf) => { p with latches := p.latches.set 0 { Latch.reset with armed := true } })) specLatchDisarm (packet 1 0 1 5 (pay 4 [])),
    done demoDev specStepConfigure (packet 2 0 1 5 (pay 24 [(16, e32 200)])),
    done autoDev specStepdirConfigure (packet 2 0 1 0 (pay 16 [(0, e8 1), (1, e8 4), (8, e32 1), (12, e16 4), (14, e16 10)])),
    done { autoDev with idents := autoDev.idents.set 128 (some demoIdent) } specHomeStall (packet 1 0 1 0 (pay 48 [(0, e64 100), (8, e64 10), (22, e8 3), (40, e64 100000)])),
    done demoDev specPfEventAck (plain specPfEventAck),
    done demoDev specPfFlagsClear (plain specPfFlagsClear)].all id = true := by
  decide +kernel

/-- Every row of `StageAndFinavalCommandsComplete` has a packet that the device accepts. -/
theorem witness_StageAndFinavalCommandsComplete : [
    done demoDev specStageConfigure (packet 2 0 5 1 (pay 48 [(0, e8 1), (2, e8 4), (8, e32 1000), (22, e8 1), (30, e8 1), (38, e8 1), (46, e8 1)])),
    done (autoDev.onStg 0 (fun (s : Stg) => { s with mode := 0 })) specStageEnable (packet 2 0 5 0 (pay 8 [(0, e8 1)])),
    done (demoDev.onStg 1 (fun (s : Stg) => { s with mode := 2, period := 4000 })) specPwmSet (packet 1 0 5 1 (pay 24 [(0, e32 4000), (4, e32 1000), (20, e8 1)])),
    done (demoDev.onStg 1 (fun (s : Stg) => { s with mode := 2, period := 4000 })) specPwmCompareSet (packet 1 0 5 1 (pay 20 [(0, e8 1), (4, e32 1500)])),
    done (demoDev.onStg 1 (fun (s : Stg) => { s with mode := 2, period := 4000 })) specPwmPeriodSet (packet 1 0 5 1 (pay 4 [(0, e32 5000)])),
    done (demoDev.onStg 1 (fun (s : Stg) => { s with mode := 2, period := 4000 })) specPwmLock (packet 1 0 5 1 (pay 4 [(0, e8 1)])),
    done demoDev specPwmEventConfigure (plain specPwmEventConfigure),
    done (demoDev.onStg 1 (fun (s : Stg) => { s with tripped := true })) specStageFaultClear (packet 1 0 5 1 (pay 0 [])),
    done demoDev specStageEventAck (plain specStageEventAck),
    done demoDev specStageFlagsClear (plain specStageFlagsClear),
    done demoDev specSegmentConfigure (packet 2 0 3 2 (pay 4 [(0, e8 1), (1, e8 16)])),
    done (segDev 0) specSegmentStart (packet 2 0 3 2 (pay 0 [])),
    done (segDev 4) specSegmentStop (packet 1 0 3 2 (pay 0 [])),
    done (segDev 4) specNodeRead (packet 1 0 4 17 (pay 8 [(4, e16 16)])),
    done (segDev 4) specNodeWrite (packet 2 0 4 17 (pay 8 [(0, e8 2), (4, e32 9)])),
    done (segDev 4) specNodeAction (packet 1 0 4 17 (pay 4 [(0, e8 1)])),
    done ((segDev 4).onSeg 2 (fun (s : Seg) => { s with pos := s.pos.set 1 { NodePos.reset with state := 5, record := some demoIdent } })) specNodeAccept (packet 2 0 4 17 (pay 0 [])),
    done demoDev specSegmentEventAck (plain specSegmentEventAck),
    done demoDev specScheduleWrite (packet 2 0 3 2 (pay 12 [(1, e8 1), (5, e8 1)])),
    done demoDev specScheduleRead (plain specScheduleRead),
    done demoDev specBusCountersRead (plain specBusCountersRead),
    done demoDev specBusCountersClear (plain specBusCountersClear)].all id = true := by
  decide +kernel

/-- Every row of `RobotAndSafetyCommandsComplete` has a packet that the device accepts. -/
theorem witness_RobotAndSafetyCommandsComplete : [
    done demoDev specArmConfigure (packet 2 0 2 1 armPayload),
    done demoDev specArmCapsules (plain specArmCapsules),
    done demoDev specArmTools (packet 2 0 2 1 (pay 104 [(0, e8 1), (40, e64 0x3FF0000000000000)])),
    done demoDev specArmStopModel (packet 2 0 2 1 (pay 64 [(0, e8 2), (1, e8 1), (16, e64 0x3FF0000000000000)])),
    done (armDev.onArm 1 (fun (m : Arm) => { m with standstill := true })) specArmEnable (packet 2 0 2 1 (pay 4 [])),
    done demoDev specYardConfigure (packet 2 0 2 1 (pay 24 [(0, e8 1), (2, e16 64)])),
    done armDev specYardAppend (packet 1 0 2 1 (pay 168 [(0, e8 1)])),
    done armDev specArmPathReset (packet 1 0 2 1 (pay 4 [])),
    done demoDev specArmOverride (plain specArmOverride),
    done demoDev specArmPayload (plain specArmPayload),
    done demoDev specZoneDefine (packet 2 0 20 4 zonePayload),
    done demoDev specZoneClaim (packet 1 0 20 0 (pay 8 [(0, e64 16)])),
    done (demoDev.onZone 4 (fun (z : Zone) => { z with holder := some 8 })) specZoneRelease (packet 1 0 20 0 (pay 8 [(0, e64 16)])),
    done (demoDev.onZone 4 (fun (z : Zone) => { z with holder := some 8 })) specZoneForceRelease (packet 2 0 20 4 (pay 0 [])),
    done (armDev.onArm 1 (fun (m : Arm) => { m with state := 5, faultCode := 2, standstill := true })) specArmFaultClear (packet 1 0 2 1 (pay 0 [])),
    done demoDev specArmEventAck (plain specArmEventAck),
    done demoDev specArmFlagsClear (plain specArmFlagsClear),
    done demoDev specArmQuery (plain specArmQuery),
    done demoDev specSafetyAxisConfigure (packet 2 0 1 5 (pay 80 [(0, e8 255), (2, e8 255), (4, e32 1), (8, e32 1), (12, e8 1), (13, e8 1), (14, e8 1), (15, e8 1), (16, e8 1), (20, e32 1000), (24, e64 5), (32, e64 5), (40, e32 4), (48, e64 5), (64, e64 9)])),
    done demoDev specSafetyArmConfigure (packet 2 0 2 1 (pay 48 [(0, e8 1), (1, e8 1), (2, e8 1), (3, e8 1), (8, e64 0x3FF0000000000000), (40, e32 100)])),
    done demoDev specSafetyInputConfigure (packet 2 0 11 3 (pay 8 [(6, e16 10)])),
    done demoDev specSafetyOutputConfigure (packet 2 0 12 0 (pay 4 [(1, e8 1)])),
    done demoDev specSafetyCompartmentConfigure (packet 2 0 12 0 (pay 8 [(0, e32 1000), (4, e16 100), (6, e8 2)])),
    reached demoDev specSafetyCommit (plain specSafetyCommit),
    done demoDev specSafetyQuery (plain specSafetyQuery),
    done (demoDev.onComp 0 (fun (x : Comp) => { x with stoppers := 8 })) specSafetyMessage { packet 4 0 12 0 msgPayload with port := 3 },
    done demoDev specSafetyEventAck (plain specSafetyEventAck)].all id = true := by
  decide +kernel

/-- Every row of `CaptureAndFieldCommandsComplete` has a packet that the device accepts. -/
theorem witness_CaptureAndFieldCommandsComplete : [
    done demoDev specTrigConfigure (plain specTrigConfigure),
    done (demoDev.onTrig 3 (fun (t : Trig) => { t with cfg := some (trigOf (zeros 48)) })) specTrigEnable (packet 1 0 7 3 (pay 4 [(0, e8 1)])),
    done demoDev specTrigQuery (plain specTrigQuery),
    done demoDev specTrigioConfigure (packet 2 0 12 0 (pay 8 [(1, e8 1), (2, e8 1), (4, e16 5), (6, e16 20)])),
    done demoDev specCapConfigure (packet 2 0 6 18 capPayload),
    done capDev specCapArm (packet 1 0 6 18 (pay 0 [])),
    done (capDev.onChan 18 (fun (k : Chan) => { k with state := 1 })) specCapStop (packet 1 0 6 18 (pay 4 [])),
    done demoDev specCapRead (plain specCapRead),
    done demoDev specLandingConfigure (packet 2 255 22 1 (pay 16 [(0, e32 4), (4, e32 4), (8, e32 1)])),
    done demoDev specFlumeRingConfigure (packet 2 0 22 1 (pay 16 [(1, e8 1), (4, e32 4096), (8, e64 0x10000)])),
    done demoDev specRegConfigure (packet 2 0 1 5 (pay 56 [(0, e32 0x01000000), (6, e16 3), (16, e64 5), (24, e64 5), (40, e32 1), (44, e32 1)])),
    done ((demoDev.onReg 5 (fun (r : Reg) => { r with cfg := some ⟨3, 0, 0, 0, 5, 0, 0, 1, 1, 0⟩ })).onPf 5 (fun (p : Pf) => { p with source := 2, rel := some { demoRel with mCls := 1, mIdx := 3 } })) specRegEnable (packet 1 0 1 5 (pay 4 [(0, e8 1)])),
    done demoDev specCapEventAck (plain specCapEventAck),
    done demoDev specRegEventAck (plain specRegEventAck),
    done demoDev specCapCountersClear (plain specCapCountersClear),
    done demoDev specDiConfigure (packet 2 0 9 5 (pay 8 [(0, e8 3), (2, e16 10), (4, e32 2000)])),
    done demoDev specDiTest (packet 1 0 9 5 (pay 4 [(0, e8 1)])),
    done demoDev specFieldSupplyConfigure (packet 2 255 0 0 (pay 4 [(0, e16 20)])),
    done demoDev specDoConfigure (plain specDoConfigure),
    done demoDev specDoSet (packet 1 0 12 0 (pay 4 [(0, e16 3), (2, e16 1)])),
    done (demoDev.onDo 3 (fun (o : Do) => { o with overload := true, held := true })) specDoFaultClear (packet 1 0 10 3 (pay 0 [])),
    done demoDev specIoEventAck (plain specIoEventAck),
    done demoDev specIoFlagsClear (plain specIoFlagsClear),
    done demoDev specCanConfigure (packet 2 0 8 1 canPayload),
    done demoDev specCanFilterSet (packet 2 0 8 1 (pay 16 [(0, e8 3), (1, e8 1)])),
    done (canDev 0) specCanStart (packet 2 0 8 1 (pay 0 [])),
    reached (canDev 1) specCanStop (packet 1 0 8 1 (pay 0 [])),
    done (canDev 1) specCanTx (packet 1 0 8 1 (pay 9 [(2, e8 1), (4, e32 291), (8, e8 170)])),
    done ((canDev 1).onCan 1 (fun (x : Can) => { x with tx := x.tx.set 0 { CanTx.reset with state := 1 } })) specCanTxAbort (packet 1 0 8 1 (pay 4 [(0, e32 1)])),
    done (canDev 1) specCanFifoRead (packet 1 0 8 1 (pay 4 [(1, e8 4)])),
    done (canDev 3) specCanRecover (packet 1 0 8 1 (pay 0 [])),
    done demoDev specCanEventAck (plain specCanEventAck),
    done demoDev specCanCountersClear (plain specCanCountersClear)].all id = true := by
  decide +kernel

/-- Every row of `TimePowerAndEventCommandsComplete` has a packet that the device accepts. -/
theorem witness_TimePowerAndEventCommandsComplete : [
    done demoDev specClockSet (plain specClockSet),
    done demoDev specClockStep (plain specClockStep),
    done demoDev specClockRateSet (plain specClockRateSet),
    done demoDev specClockRead (plain specClockRead),
    done demoDev specPtpConfigure (packet 2 255 0 0 (pay 24 [(5, e8 6), (9, e8 2), (16, e32 100)])),
    done demoDev specPtpPhyLatency (plain specPtpPhyLatency),
    done demoDev specCmpArm (plain specCmpArm),
    done { demoDev with tm := { demoDev.tm with tcus := demoDev.tm.tcus.set 1 { Tcu.reset with state := 1, target := 10 ^ 12 } } } specCmpDisarm (packet 1 0 21 1 (pay 0 [])),
    done demoDev specCrcConfigure (packet 2 0 14 1 (pay 24 [(1, e8 1), (16, e8 1)])),
    done (demoDev.onCrcu 1 (fun (u : Crcu) => { u with cfg := some (crcCfgOf (zeros 24)) })) specCrcEnable (packet 1 0 14 1 (pay 4 [(0, e8 1)])),
    done demoDev specCrcRead (plain specCrcRead),
    done demoDev specCrcCountersClear (plain specCrcCountersClear),
    done demoDev specTimeEventAck (plain specTimeEventAck),
    done demoDev specSaveConfigure (plain specSaveConfigure),
    done demoDev specBackupRead (packet 1 255 0 0 (pay 4 [(2, e16 8)])),
    done demoDev specBackupWrite (packet 1 255 0 0 (pay 6 [(0, e8 3), (2, e16 2), (4, e16 4660)])),
    done demoDev specOptionsWrite (packet 2 255 0 0 (pay 8 [(0, e16 1), (2, e16 4), (4, e8 1), (5, e8 8)])),
    done demoDev specOptionsRead (packet 1 255 0 0 (pay 4 [(0, e16 1)])),
    done demoDev specJournalRead (packet 1 255 0 0 (pay 8 [(4, e16 10)])),
    done demoDev specPwrEventAck (plain specPwrEventAck),
    done demoDev specResetCountersClear (plain specResetCountersClear),
    done demoDev specEvRouteSet (packet 2 255 0 0 (pay 8 [(0, e16 130), (2, e16 4), (7, e8 1)])),
    done demoDev specEvCoalesceSet (packet 1 255 0 0 (pay 4 [(0, e8 3), (1, e8 8)])),
    done demoDev specEvVectorPark (packet 1 255 0 0 (pay 16 [(0, e64 6), (8, e8 1)])),
    done demoDev specEvQuery (plain specEvQuery),
    done demoDev specEvAck (plain specEvAck),
    done demoDev specPortConfigure (packet 2 255 0 0 (pay 16 [(0, e8 3), (4, e32 500)])),
    done demoDev specH2Configure (packet 2 255 0 0 (pay 64 [(2, e16 5000)])),
    done demoDev specOutlookStreamSet { packet 5 255 0 0 (pay 12 [(2, e8 1), (4, e32 64), (8, e32 128)]) with port := 2 }].all id = true := by
  decide +kernel

/-! ### States in which the rows of events have their effect -/

/-- A datagram to H2 under a key: type, body, session and sequence. -/
def dgram (key : Bytes) (kind session seq : Nat) (body : Bytes) : Bytes :=
  let h := e8 kind ++ e8 0 ++ e16 body.length ++ e32 session ++ e64 seq ++ body
  h ++ dgTag key h

def demoKey : Bytes := zeros 31 ++ e8 9
/-- H2 with a pre-shared key 0 and a session, sequences up to 4 accepted. -/
def netDev : Dev :=
  let d : Dev := { demoDev with pwr := { demoDev.pwr with opt := { demoDev.pwr.opt with psk := demoDev.pwr.opt.psk.set 0 (some demoKey) } } }
  { d with hp := { d.hp with h2 := { d.hp.h2 with session := some ⟨21, demoKey, 5, 4, 1, 0⟩ } } }

def setupDgram : Bytes := dgram demoKey 1 0 1 (zeros 23 ++ e8 3)
def commandDgram : Bytes := dgram demoKey 0x10 21 5 (zeros 4)
def ackDgram : Bytes := dgram demoKey 0x11 21 3 (zeros 8)
def aliveDgram : Bytes := dgram demoKey 0x12 21 6 []

/-- Source 128 (axis 0) is routed to vector 3 of H2 and pending. -/
def routedDev : Dev :=
  ((Dev.reset.onAx 0 (fun (a : Axis) => { a with events := 1 })).onSrc 128 (fun (x : Src) => { x with route := ⟨true, 2, 3, 1⟩ })).onVec 2 3
    (fun (v : Vec) => { v with again := true })

/-- A frame with its CRC-16 of R218. -/
def crcFrame (h : Bytes) : Bytes := h ++ e16 (crc16 h)

theorem witness_ControlSpaceRowsComplete :
    Dev.reset.running = true ∧ Dev.reset.portUp 0 = true ∧ Dev.reset.portUp 1 = true ∧ Dev.reset.portUp 3 = true := by
  decide +kernel

theorem witness_h2Setup :
    netDev.running = true ∧ netDev.portUp 2 = true ∧ dgWhole setupDgram = true ∧ u8 setupDgram 0 = 1 ∧ (dgBody setupDgram).length = 24 ∧
      netDev.psk (u8 (dgBody setupDgram) 0) = some demoKey ∧ dgTagOk demoKey setupDgram = true ∧
      netDev.hp.h2.nonces.contains (slice (dgBody setupDgram) 4 16) = false ∧ u32 setupDgram 4 = 0 := by
  decide +kernel

theorem witness_h2Session :
    netDev.portUp 2 = true ∧ [(commandDgram, 0x10), (ackDgram, 0x11), (aliveDgram, 0x12)].all (fun (g, k) =>
      match netDev.hp.h2.session with
      | some x => dgWhole g && x.source == 5 && u32 g 4 == x.id && dgTagOk x.key g && (x.accept (u64 g 8)).isSome && u8 g 0 == k
      | none => false) = true ∧ u16 commandDgram 2 = 4 ∧ u16 ackDgram 2 = 8 ∧ u16 aliveDgram 2 = 0 := by
  decide +kernel

theorem witness_TransportRowsComplete :
    (demoDev.running = true ∧ (demoDev.ring 5).state ≠ 0 ∧ (demoDev.ring 5).port = 2) ∧
    (routedDev.running = true ∧ routedDev.vecSources 2 3 ≠ [] ∧ (routedDev.vec 2 3).again = true ∧ (routedDev.vec 2 3).parked = false) ∧
    (let b := crcFrame (e8 0x81 ++ e32 0x30 ++ e16 4 ++ zeros 4)
     Dev.reset.portUp 3 = true ∧ u8 b 0 % 16 = 1 ∧ spiWidthOk (u8 b 0) = true ∧ b.length = 9 + u16 b 5 ∧ u16 b 5 % 4 = 0 ∧ 4 ≤ u16 b 5 ∧
       u16 b 5 ≤ 4096 ∧ u16 b (7 + u16 b 5) = crc16 (b.take (7 + u16 b 5))) ∧
    (let b := crcFrame (e8 0x42 ++ e32 0x100 ++ e16 4)
     u8 b 0 % 16 = 2 ∧ spiWidthOk (u8 b 0) = true ∧ 9 ≤ b.length ∧ u16 b 7 = crc16 (b.take 7)) ∧
    (let b := crcFrame (e8 0x03)
     u8 b 0 % 16 = 3 ∧ spiWidthOk (u8 b 0) = true ∧ 3 ≤ b.length ∧ u16 b 1 = crc16 (b.take 1)) ∧
    demoDev.isOpen 3 = true := by
  decide +kernel

theorem witness_LinkRowsComplete :
    (Dev.reset.running = true ∧ Dev.reset.portUp 0 = true ∧ Dev.reset.portUp 1 = true ∧ Dev.reset.portUp 2 = true) ∧
    (let d := Dev.reset.onPort 1 (fun (q : Port) => { q with linkUp := true })
     d.running = true ∧ (d.prt 1).linkUp = true) ∧
    (let d := Dev.reset.onPort 1 (fun (q : Port) => { q with waiting := true })
     d.running = true ∧ (d.prt 1).waiting = true) := by
  decide +kernel

theorem witness_RingAndStrokeRowsComplete :
    [Phase.beacon, Phase.suction, Phase.lift, Phase.discharge].all (fun (x : Phase) =>
      let d : Dev := { Dev.reset.onSeg 15 (fun (g : Seg) => { g with ran := true }) with stk := { Dev.reset.stk with phase := x } }
      d.running && d.stk.phase == x && (d.seg 15).ran) = true := by
  decide +kernel

/-- Segment 2 of `segDev`, its stroke in the phase of the slots. -/
def slotDev : Dev := { segDev 4 with stk := { demoDev.stk with phase := .suction } }

theorem witness_suctionFrame :
    slotDev.running = true ∧ (slotDev.seg 2).slotNow = some ⟨25, 36, 2, 1, 1, 1⟩ ∧ slotDev.sucks = true ∧ (slotDev.seg 2).cyclic = true ∧
      (slotDev.seg 2).suctionOf 1 = some ⟨25, 36, 2, 1, 1, 1⟩ ∧ ((slotDev.seg 2).node 1).closed = false := by
  decide +kernel

theorem witness_SegmentRowsComplete :
    (let d := Dev.reset.onAx 127 (fun (a : Axis) => { a with age := 3 }); d.running = true ∧ 3 ≤ (d.ax 127).age) ∧
    (let d := (segDev 4).onSeg 2 (fun (g : Seg) => { g with echo := some 1 })
     let f := mkFrame 7 2 (d.stk.number % 256) []
     d.running = true ∧ (d.seg 2).echo = some 1 ∧ ((d.seg 2).node 1).echoWindow 1040 = none ∧ ((d.seg 2).node 1).echoWindow 1920 = none ∧
       frameFault true f 7 2 (d.stk.number % 256) (fun (k : Nat) => k == 0) = none) ∧
    (let v : Svc := ⟨1, .summary, 0, 0, 0, 4, [], [], 0, 4, 0, true⟩
     let d := (segDev 4).onSeg 2 (fun (g : Seg) => { g with svc := some v })
     let f := mkFrame 5 2 (d.seg 2).txNo (e8 0 ++ e8 0 ++ e16 4 ++ zeros 4)
     d.running = true ∧ (d.seg 2).svc = some v ∧ v.asked = true ∧ frameFault true f 5 (v.pos + 1) (d.seg 2).txNo (replyLen f v.limit) = none) ∧
    (let d := Dev.reset.onSeg 15 (fun (g : Seg) => { g with state := 1, strokes := Dev.reset.listenStrokes })
     d.running = true ∧ (d.seg 15).state = 1 ∧ d.listenStrokes ≤ (d.seg 15).strokes) ∧
    ((segDev 2).running = true ∧ ((segDev 2).seg 2).state = 2) ∧
    (let d := (segDev 3).onSeg 2 (fun (g : Seg) => { g with strokes := 512 }); d.running = true ∧ (d.seg 2).started = true) ∧
    ([3, 4, 5].all (fun (k : Nat) =>
      let d := (segDev 4).onSeg 2 (fun (g : Seg) => g.onNode 7 (fun (x : NodePos) => { x with state := k, missRun := 16 }))
      d.running && decide (3 ≤ ((d.seg 2).node 7).state) && decide (((d.seg 2).node 7).state ≤ 5) && decide (16 ≤ ((d.seg 2).node 7).missRun)) = true) ∧
    (let d := (segDev 4).onSeg 2 (fun (g : Seg) => g.onNode 7 (fun (x : NodePos) => { x with cruising := true, read := true }))
     d.running = true ∧ ((d.seg 2).node 7).cruising = true ∧ ((d.seg 2).node 7).read = true) ∧
    (let d := (segDev 4).onSeg 2 (fun (g : Seg) => g.onNode 7 (fun (x : NodePos) => { x with state := 2 }))
     d.running = true ∧ ((d.seg 2).node 7).state < 3) ∧
    (let d := (segDev 4).onSeg 2 (fun (g : Seg) => { g with busThr := 16, delayJump := 16 })
     d.running = true ∧ (d.seg 2).busThr ≤ (d.seg 2).errorSum - (d.seg 2).spanBase) := by
  decide +kernel

theorem witness_AxisRowsComplete :
    (let d := Dev.reset.onAx 127 (fun (a : Axis) => { a with lim := { a.lim with feLimit := 5, feTime := 4 }, feCount := 4 })
     d.running = true ∧ (d.ax 127).lim.feLimit ≠ 0 ∧ 0 < (d.ax 127).feCount ∧ (d.ax 127).lim.feTime ≤ (d.ax 127).feCount) ∧
    (let d := autoDev.onAx 0 (fun (a : Axis) => { a with ssCount := 4, standstill := false })
     d.running = true ∧ (d.ax 0).computed = true ∧ (d.ax 0).standstill = false ∧ 0 < (d.ax 0).ssCount ∧ (d.ax 0).lim.ssTime ≤ (d.ax 0).ssCount) ∧
    (let d := autoDev.onAx 0 (fun (a : Axis) => { a with stop := 4, standstill := false, lim := { a.lim with qsTimeout := 9 }, qsCount := 10 })
     d.running = true ∧ (d.ax 0).computed = true ∧ (d.ax 0).stop = 4 ∧ (d.ax 0).standstill = false ∧ (d.ax 0).lim.qsTimeout ≠ 0 ∧
       (d.ax 0).lim.qsTimeout < (d.ax 0).qsCount) ∧
    ([2, 3].all (fun (k : Nat) =>
      let d := Dev.reset.onAx 127 (fun (a : Axis) => { a with state := k, lim := { a.lim with manTimeout := 9 }, manCount := 10 })
      d.running && (d.ax 127).state == k && (d.ax 127).lim.manTimeout != 0 && decide ((d.ax 127).lim.manTimeout < (d.ax 127).manCount)) = true) ∧
    (let j := { autoDev.injOf (zeros 28) with duration := 8, k := 8 }
     let d := autoDev.onAx 0 (fun (a : Axis) => { a with inj := some j })
     d.running = true ∧ (d.ax 0).inj = some j ∧ j.duration ≤ j.k) ∧
    Dev.reset.block (0x28 + 7) = 0 ∧
    (let d := Dev.reset.onSafAx 127 (fun (x : SafAx) => { x with cfg := { x.cfg with bSource := 2 } })
     d.running = true ∧ (d.safAx 127).cfg.bSource = 2) ∧
    (let d := Dev.reset.onFb 127 (fun (f : Fb) => { f with configured := true, cfg := { f.cfg with source := 2, flags := 1 } })
     d.running = true ∧ d.reads 127 2 = true ∧ (d.fb 127).flag 0 = true) ∧
    (let d := Dev.reset.onFb 127 (fun (f : Fb) => { f with configured := true, cfg := { f.cfg with source := 3 } })
     d.running = true ∧ d.reads 127 3 = true) := by
  decide +kernel

theorem witness_StageRowsComplete :
    Dev.reset.running = true ∧
    (let d := Dev.reset.onStg 7 (fun (x : Stg) => { x with hbs := x.hbs.map (fun (h : Hb) => { h with drive := .pwm }) })
     d.running = true ∧ ((d.stg 7).hb 3).mayConduct true = true ∧ ((d.stg 7).hb 3).mayConduct false = true ∧ ((d.stg 7).hb 3).uv = false) ∧
    (let d := Dev.reset.onStg 7 (fun (x : Stg) => { x with measuring := true })
     d.running = true ∧ (d.stg 7).measuring = true ∧ [1, -2, 3, 4].length = 4) ∧
    identValid demoIdent = true := by
  decide +kernel

theorem witness_CaptureAndFieldRowsComplete :
    (let g := trigOf (zeros 48)
     let d := Dev.reset.onTrig 127 (fun (t : Trig) => { t with cfg := some g })
     d.running = true ∧ (d.trig 127).cfg = some g ∧ g.kind ≠ 3 ∧ g.kind ≠ 4 ∧ g.kind ≠ 5) ∧
    (let d := Dev.reset.onDo 15 (fun (x : Do) => { x with on := true }); d.running = true ∧ (d.dout 15).on = true) ∧
    ((Dev.reset.cap.pins.getD 3 Pin.reset).dir = 0 ∧ (Dev.reset.cap.pins.getD 3 Pin.reset).level ≠ true) ∧
    (17999 < 18000 ∧ 4095 ≤ 4095) := by
  decide +kernel

theorem witness_CanTimeAndCheckRowsComplete :
    ((canDev 1).running = true ∧ ((canDev 1).can 1).takesPart = true ∧ ((canDev 1).can 1).cfg.mode ≠ 3 ∧ ¬ (bit 0 2 = true)) ∧
    (let d := (canDev 2).onCan 1 (fun (x : Can) => { x with tec := 256 }); d.running = true ∧ (d.can 1).takesPart = true ∧ 256 ≤ (d.can 1).tec) ∧
    (let d := (Dev.reset.onPtp (fun (p : Ptp) => { p with cfg := { p.cfg with mode := 1 } })).onPort 2 (fun (q : Port) => { q with linkUp := true })
     d.running = true ∧ d.tm.ptp.cfg.mode ≠ 0 ∧ (d.prt 2).linkUp = true ∧ ptpUsed 0 = true ∧ ptpUsed 0xC = false) := by
  decide +kernel

theorem witness_SafetyAndCompartmentRowsComplete :
    (let d := demoDev.onSafIn 15 (fun (x : SafIn) => { x with mode := 0, kind := 0, c1 := true, c2 := false, disc := 10 })
     d.running = true ∧ (d.safIn 15).disagree = true ∧ (d.safIn 15).fault = false) ∧
    (let d := demoDev.onSafIn 15 (fun (x : SafIn) => { x with kind := 1, pulse := true, stuck := false })
     d.running = true ∧ (d.safIn 15).kind = 1 ∧ (d.safIn 15).pulse = true ∧ (d.safIn 15).stuck = false ∧ d.owner 0x0B 15 = some 0 ∧
       pulseAccepted (1000000 * 50) = true ∧ pulseAccepted (1000000 * 2000) = true) ∧
    (let d := demoDev.onSafAx 127 (fun (x : SafAx) => { x with cfg := { x.cfg with disc := 4 }, discCount := 4 })
     d.running = true ∧ 1 ≤ (d.safAx 127).cfg.disc ∧ (d.safAx 127).cfg.disc ≤ (d.safAx 127).discCount) ∧
    (demoDev.owner 0x22 3 = some 0 ∧ autoDev.running = true ∧ autoDev.stageAxis 0 = some 0 ∧ autoDev.owner 0x05 0 = some 0) ∧
    (let d := demoDev.onSafAx 127 (fun (x : SafAx) => { x with violNow := true }); d.running = true ∧ d.demanded 127 = true ∧ d.jointArm 127 = none) ∧
    (let d := demoDev.onSafArm 7 (fun (x : SafArm) => { x with ss1 := true }); d.running = true ∧ (d.safArm 7).ss1 = true) ∧
    (let d := demoDev.onSafAx 127 (fun (x : SafAx) => { x with ss1 := true }); d.running = true ∧ (d.safAx 127).ss1 = true) ∧
    (let d := demoDev.onSafCmp 7 (fun (x : SafCmp) => { x with msgOk := true }); d.running = true ∧ (d.safCmp 7).msgOk = true) ∧
    (let d := (demoDev.onSafArm 7 (fun (x : SafArm) => { x with clear := 5 })).onArm 7 (fun (m : Arm) => { m with protective := true })
     d.running = true ∧ d.owner 0x02 7 = some 0 ∧ max 1 (d.safCmp 0).release ≤ (d.safArm 7).clear ∧ (d.arm 7).protective = true ∧
       (d.safArm 7).demandB = false) ∧
    (let d := Dev.reset.onVec 3 63 (fun (v : Vec) => { v with timer := true, evTime := 1 })
     d.running = true ∧ (d.vec 3 63).timer = true ∧ (d.vec 3 63).evTime ≠ 0 ∧ (d.vec 3 63).held = false) ∧
    (let d := Dev.reset.setBlock 55 1; d.running = true ∧ d.cps.blocks.length = 56 ∧ d.block 55 ≠ 0) ∧
    (let m : Migration := ⟨0, 1, true, 100, .quiesce, 0, false, 1⟩
     let d : Dev := { demoDev with cps := { demoDev.cps with migration := some m } }
     d.running = true ∧ d.cps.migration = some m ∧ m.phase = .quiesce) := by
  decide +kernel

theorem witness_PowerRowsComplete :
    (10199 < 10200 ∧ 10999 < 11000 ∧ 6700 ≤ 6700) ∧
    (let d := Dev.reset.onPwr (fun (p : Pwr) => { p with supply := .saving 1 }); d.pwr.supply = .saving 1 ∧ d.running = false) ∧
    (let d := Dev.reset.onPwr (fun (p : Pwr) => { p with supply := .park }); d.pwr.supply = .park ∧ ∀ a < 4, d.pwr.supply ≠ .saving a) := by
  decide +kernel
end Sys2Proof.Tests
end

section
/-! SUPPORT. The row of a command packet as the step of its packet, and the frame that such a row keeps. -/

namespace Sys2Proof.Machine

/-- Every row that carries a packet takes the step of that packet. -/
theorem exec_of_rowPacket {i : Instr} {sp : Spec} {c : Cmd} (h : rowPacket i = some (sp, c)) (s : State) :
    exec i s = .next (s.run sp c) := by
  cases i <;> cases h <;> rfl

/-- The bookkeeping of a packet (R44, R46, R472): commands in flight, rings, packets taken, and the save areas. -/
def Dev.rebook (d : Dev) (fl : List Flight) (r : List Ring) (t : Nat) (a : List (Option SaveArea)) (b : Option Nat) : Dev :=
  { d with
    nov := { d.nov with flights := fl, rings := r, taken := t }
    pwr := { d.pwr with areas := a, source := b } }

/-- What a packet books is what `Dev.booked` takes over from the next state. -/
theorem Dev.booked_rebook (s : State) (e : Dev) (fl : List Flight) (r : List Ring) (t : Nat) (a : List (Option SaveArea))
    (b : Option Nat) : s.dev.booked (e.rebook fl r t a b) = s.fresh.dev.rebook fl r t a b := rfl

/-- `Frame` takes a part of a device: nothing is new where the two devices agree, and bookkeeping done on both is done on
the result. -/
structure TakesPart (part : Dev → Dev → Dev) : Prop where
  self : ∀ d, part d d = d
  rebook : ∀ d e fl r t a b, part (d.rebook fl r t a b) (e.rebook fl r t a b) = (part d e).rebook fl r t a b

/-- A row keeps the frame that the effect of its command keeps: the bookkeeping around the effect is the frame's own. -/
theorem frame_of_carry {part : Dev → Dev → Dev} {i : Instr} {sp : Spec} {c : Cmd} (hp : TakesPart part)
    (hi : rowPacket i = some (sp, c))
    (he : ∀ d : Dev, d.sent = [] → c.cls ∈ sp.classes → (sp.carry c d).dev = part d (sp.carry c d).dev) : Frame part i := by
  intro s t h
  rw [exec_of_rowPacket hi] at h
  cases h
  refine ⟨State.run_mem s sp c, State.run_shown s sp c, State.run_pending s sp c, ?_⟩
  rcases State.run_dev s sp c with ⟨fl, r, k, a, b, hd⟩ | ⟨hc, fl, r, k, a, b, hd⟩
  · have hb : (s.run sp c).dev = s.fresh.dev.rebook fl r k a b := hd
    rw [hb, Dev.booked_rebook, hp.self]
  · have hb : (s.run sp c).dev = (sp.carry c s.fresh.dev).dev.rebook fl r k a b := hd
    rw [hb, Dev.booked_rebook, hp.rebook, ← he s.fresh.dev rfl hc]

/-- A row that acts at its decode keeps the frame that its effect keeps on every device. -/
theorem frame_of_apply {part : Dev → Dev → Dev} {i : Instr} {sp : Spec} {c : Cmd} (hp : TakesPart part)
    (hi : rowPacket i = some (sp, c)) (hn : sp.timing = .now)
    (he : ∀ d : Dev, (sp.apply c d).dev = part d (sp.apply c d).dev) : Frame part i :=
  frame_of_carry hp hi fun d _ _ => by
    rw [Spec.carry_unplanned (by rw [hn]; rfl)]
    exact he d

end Sys2Proof.Machine
end

section
/-! SUPPORT. Queries: they act at their decode, and leave the device as it stands but for the free values they reply. -/

namespace Sys2Proof.Machine

/-- A query leaves the device as it is. -/
theorem frame_of_query {i : Instr} {sp : Spec} {c : Cmd} (hi : rowPacket i = some (sp, c)) (hn : sp.timing = .now)
    (hq : ∀ d : Dev, (sp.apply c d).dev = d) : Frame (fun b _ => b) i :=
  frame_of_apply ⟨fun _ => rfl, fun _ _ _ _ _ _ _ => rfl⟩ hi hn hq

/-- A query that replies a free value advances the counter of free values, and leaves the device as it is besides. -/
theorem frame_of_freeQuery {i : Instr} {sp : Spec} {c : Cmd} (hi : rowPacket i = some (sp, c)) (hn : sp.timing = .now)
    (hq : ∀ d : Dev, (sp.apply c d).dev = d.skip 1) : Frame (fun b e => { b with free := e.free }) i :=
  frame_of_apply ⟨fun _ => rfl, fun _ _ _ _ _ _ _ => rfl⟩ hi hn fun d => by rw [hq d]; rfl

@[simp] theorem Dev.reply_dev (d : Dev) (b : Bytes) : (d.reply b).dev = d := rfl
@[simp] theorem Dev.done_dev (d : Dev) : d.done.dev = d := rfl

/-- R32: a trial answers with a status, and configures nothing. -/
theorem specBudgetTrial_dev (c : Cmd) (d : Dev) : (specBudgetTrial.apply c d).dev = d := by
  unfold specBudgetTrial
  dsimp only
  cases d.trial c with
  | none => rfl
  | some v => rfl

/-- R357: records go to the host's buffer or into the reply; the channel keeps them. -/
theorem specCapRead_dev (c : Cmd) (d : Dev) : (specCapRead.apply c d).dev = d := by
  unfold specCapRead
  dsimp only
  cases cmdByRef c with
  | false => rfl
  | true => rfl

end Sys2Proof.Machine

open Sys2Proof Sys2Proof.Machine

/-- Settles O30: a query's effect is a reply on the device as it stands, so all that is left of its step is the
bookkeeping of its packet. -/
theorem queriesFrame : Obligations.QueriesFrame := by
  unfold Obligations.QueriesFrame
  refine ⟨fun c => ?_, fun c => ?_⟩
  · simp only [List.forall_mem_cons, List.not_mem_nil, IsEmpty.forall_iff, implies_true, and_true]
    refine ⟨?nop, ?strokeQuery, ?budgetQuery, ?budgetTrial, ?coefRead, ?compartmentQuery, ?blockQuery, ?fwStatus,
      ?scheduleRead, ?busCountersRead, ?armQuery, ?safetyQuery, ?trigQuery, ?capRead, ?crcRead, ?backupRead, ?optionsRead,
      ?evQuery⟩
    case nop => exact frame_of_query rfl rfl fun d => Dev.done_dev d
    case budgetTrial => exact frame_of_query rfl rfl (specBudgetTrial_dev c)
    case capRead => exact frame_of_query rfl rfl (specCapRead_dev c)
    all_goals exact frame_of_query rfl rfl fun d => Dev.reply_dev d _
  · simp only [List.forall_mem_cons, List.not_mem_nil, IsEmpty.forall_iff, implies_true, and_true]
    refine ⟨?deviceIdentify, ?clockRead, ?journalRead⟩
    all_goals exact frame_of_freeQuery rfl rfl fun d => Dev.reply_dev (d.skip 1) _
end

section
/-! SUPPORT. Rows of the device's own steps: each is its effect, under its conditions, while the device runs. -/

namespace Sys2Proof.Machine

/-- A row that is a step of the device gives `g`, where the device runs and the row's conditions make its step `g`. -/
theorem gives_of_live {s : State} {i : Instr} {f g : Dev → Dev} (hi : exec i s = .next (s.live f))
    (hr : s.dev.running = true) (hf : f s.fresh.dev = g s.fresh.dev) : Gives s i g := by
  have hg : s.does f = s.does g := congrArg s.fresh.withDev hf
  rw [Gives, hi, State.live_running hr, hg]

/-- R12: the latch point comes in the beacon or the suction phase. -/
theorem liftLatchPoint_gives {s : State} (hr : s.dev.running = true) (hp : s.dev.stk.phase = .beacon ∨ s.dev.stk.phase = .suction) :
    Gives s .liftLatchPoint Dev.latchPoint_ :=
  gives_of_live rfl hr (if_pos hp)

/-- R23, R26: the results of a segment complete in lift, once its axes have run. -/
theorem liftComplete_gives {s : State} {seg : Fin 16} (hr : s.dev.running = true) (hp : s.dev.stk.phase = .lift)
    (hn : (s.dev.seg seg.val).ran = true) :
    Gives s (.liftComplete seg) (fun d => { d with stk := { d.stk with segDone := d.stk.segDone.set seg.val true } }) :=
  gives_of_live rfl hr (if_pos ⟨hp, hn⟩)

/-- R23: discharge starts from lift. -/
theorem dischargeStart_gives {s : State} (hr : s.dev.running = true) (hp : s.dev.stk.phase = .lift) :
    Gives s .dischargeStart Dev.dischargeStart :=
  gives_of_live rfl hr (if_pos hp)

/-- R10, R401: slack starts from discharge, and shows the device as it then stands. -/
theorem exec_slackStart {s : State} (hr : s.dev.running = true) (hp : s.dev.stk.phase = .discharge) :
    exec .slackStart s = .next { s.fresh with
      dev := s.fresh.dev.slackStart.streamOutlook { s.fresh.dev.slackStart with sent := [] }
      shown := { s.fresh.dev.slackStart with sent := [] } } :=
  congrArg Host.Outcome.next (if_pos ⟨hr, hp⟩)

end Sys2Proof.Machine

open Sys2Proof Sys2Proof.Machine

/-- Settles O41: the scanner's and the completion rows have no condition; the others are steps of the running device in
the phase their rule names. -/
theorem ringAndStrokeRowsComplete : Obligations.RingAndStrokeRowsComplete := by
  unfold Obligations.RingAndStrokeRowsComplete
  refine ⟨?scan, ?refRead, ?fence, ?post, ?boundary, ?latch, ?complete, ?discharge, ?slack⟩
  case scan => exact fun _ _ => rfl
  case refRead => exact fun _ ring data hr => gives_of_live (f := fun d => d.refRead ring.val data) rfl hr rfl
  case fence => exact fun _ ring hr => gives_of_live (f := fun d => d.fenceClear ring.val) rfl hr rfl
  case post => exact fun _ _ => rfl
  case boundary => exact fun _ hr => gives_of_live rfl hr rfl
  case latch => exact fun _ hr hp => liftLatchPoint_gives hr hp
  case complete => exact fun _ _ hr hp hn => liftComplete_gives hr hp hn
  case discharge => exact fun _ hr hp => dischargeStart_gives hr hp
  case slack => exact fun _ hr hp => exec_slackStart hr hp
end

section
/-! SUPPORT. The judgement of a packet: what a packet that is accepted has passed, and what one that is not leaves. -/

namespace Sys2Proof.Machine

@[simp] theorem firstFail_cons_none (l : List Verdict) : firstFail (none :: l) = firstFail l := rfl
@[simp] theorem firstFail_cons_some (v : Nat × Nat) (l : List Verdict) : firstFail (some v :: l) = some v := rfl

/-- A check passes where its condition holds. -/
theorem need_eq_none {b : Bool} {status detail : Nat} : need b status detail = none ↔ b = true := by
  cases b <;> simp [need]

/-- A packet that is accepted has passed every check of R39. -/
theorem State.accepts_judge {s : State} {sp : Spec} {c : Cmd} (h : s.accepts sp c = true) : s.fresh.dev.judge sp c = none := by
  simpa using (Bool.and_eq_true_iff.mp h).2

/-- R39 step 5. -/
theorem State.accepts_rights {s : State} {sp : Spec} {c : Cmd} (h : s.accepts sp c = true) :
    s.fresh.dev.checkRights sp c = none :=
  firstFail_none (State.accepts_judge h) (by simp)

/-- R39 step 7: the command's own check of its object. -/
theorem State.accepts_object {s : State} {sp : Spec} {c : Cmd} (h : s.accepts sp c = true) : sp.object c s.fresh.dev = none := by
  have ho : s.fresh.dev.checkObject sp c = none := firstFail_none (State.accepts_judge h) (by simp)
  exact firstFail_none ho (by simp)

/-- A packet refused books its completion, its ring's next number and itself, and changes nothing else. -/
theorem State.refused_dev (s : State) (sp : Spec) (c : Cmd) (status detail : Nat) :
    ∃ a b, (s.refused sp c status detail).dev = s.fresh.dev.rebook
      (s.dev.nov.flights ++ [⟨c, sp.op, .none, .post, .none, status, detail, [], s.dev.stk.number, none, s.dev.nov.taken⟩])
      (upd s.dev.nov.rings c.ring.val (fun (r : Ring) => { r with expSeq := (c.seq + 1) % 2 ^ 32 })) (s.dev.nov.taken + 1) a b := by
  obtain ⟨a, b, e⟩ :=
    ((s.fresh.dev.post c sp.op .none status detail [] s.dev.stk.number none).expect c).consume_eq
  exact ⟨a, b, e⟩

/-- What a packet that is not accepted leaves is its bookkeeping alone. -/
theorem State.run_of_not_accepts {s : State} {sp : Spec} {c : Cmd} (h : s.accepts sp c = false) :
    ∃ fl r t a b, (s.run sp c).dev = s.fresh.dev.rebook fl r t a b := by
  rcases State.run_cases s sp c with ⟨_, e⟩ | ⟨x, y, _, _, e⟩ | ⟨ha, _⟩
  · exact ⟨_, _, _, _, _, congrArg State.dev e⟩
  · obtain ⟨a, b, hd⟩ := s.refused_dev sp c x y
    exact ⟨_, _, _, a, b, by rw [e, hd]⟩
  · simp [ha] at h

/-- A packet whose checks cannot all pass changes no more than every packet may. -/
theorem State.run_booked {s : State} {sp : Spec} {c : Cmd} (h : s.accepts sp c = false) :
    (s.run sp c).dev = s.dev.booked (s.run sp c).dev := by
  obtain ⟨fl, r, t, a, b, e⟩ := State.run_of_not_accepts h
  rw [e, Dev.booked_rebook]

/-! ### The sequence number -/

/-- R39, R44: the number of a packet is judged right after its form and ring class. -/
theorem Dev.judge_of_wrong_sequence {d : Dev} {sp : Spec} {c : Cmd} (hf : d.checkForm sp c = none)
    (hs : c.seq ≠ (d.ring c.ring.val).expSeq) :
    d.judge sp c = some (ST.badSequence, (d.ring c.ring.val).expSeq % 65536) := by
  have hb : (c.seq == (d.ring c.ring.val).expSeq) = false := by simpa using hs
  have hq : d.checkSeq c = some (ST.badSequence, (d.ring c.ring.val).expSeq % 65536) := by
    simp [Dev.checkSeq, need, hb]
  rw [Dev.judge, hf, hq]
  rfl

/-- A ring that is fetched from is one of the device's table. -/
theorem Dev.ring_lt_of_carries {d : Dev} {c : Cmd} (h : d.carries c = true) : c.ring.val < d.nov.rings.length := by
  by_contra hn
  have hr : d.ring c.ring.val = Ring.reset := List.getD_eq_default _ _ (by omega)
  simp [Dev.carries, hr, Ring.reset] at h

/-- R44: a packet refused leaves its ring expecting the number after its own. -/
theorem State.refused_expSeq {s : State} {sp : Spec} {c : Cmd} (h : s.fresh.dev.carries c = true) (status detail : Nat) :
    ((s.refused sp c status detail).dev.ring c.ring.val).expSeq = (c.seq + 1) % 2 ^ 32 := by
  obtain ⟨a, b, e⟩ := s.refused_dev sp c status detail
  have hl : c.ring.val < s.dev.nov.rings.length := Dev.ring_lt_of_carries h
  rw [e]
  simp [Dev.rebook, Dev.ring, upd, hl]

end Sys2Proof.Machine

open Sys2Proof Sys2Proof.Machine

/-- Settles O12: a row's step is that of its packet, which does nothing, reports, or takes effect. -/
theorem refusedPacketOnlyReports : Obligations.RefusedPacketOnlyReports := by
  unfold Obligations.RefusedPacketOnlyReports
  intro i sp c s hi
  rw [exec_of_rowPacket hi]
  refine ⟨fun hc => ?notFetched, fun st x hc hj => ?refused, fun st x => ?booked⟩
  case notFetched =>
    rcases State.run_cases s sp c with ⟨_, e⟩ | ⟨x, y, hy, _⟩ | ⟨ha, _⟩
    · rw [e]
    · simp [hc] at hy
    · simp [State.accepts, hc] at ha
  case refused =>
    rcases State.run_cases s sp c with ⟨hn, _⟩ | ⟨x', y', _, hj', e⟩ | ⟨ha, _⟩
    · simp [hc] at hn
    · obtain ⟨rfl, rfl⟩ : st = x' ∧ x = y' := by simpa [hj] using hj'
      rw [e]
    · simp [State.accepts_judge ha] at hj
  case booked =>
    obtain ⟨a, b, e⟩ := s.refused_dev sp c st x
    rw [e, Dev.booked_rebook]
    exact ⟨rfl, rfl⟩

/-- Settles O13: the sequence number is the first check after the form and the ring class. -/
theorem wrongSequenceRefused : Obligations.WrongSequenceRefused := by
  unfold Obligations.WrongSequenceRefused
  intro i sp c s hi hc hf hs
  obtain ⟨-, hrefused, -⟩ := refusedPacketOnlyReports i sp c s hi
  exact ⟨hrefused _ _ hc (Dev.judge_of_wrong_sequence hf hs), State.refused_expSeq hc _ _⟩
end

section
/-! SUPPORT. The owner's right (R39 step 5, R376). -/

namespace Sys2Proof.Machine

/-- R376: the target of an owner's command that passes has a holder, which the port owns or which does not exist yet. -/
theorem Dev.owns_of_checkRights {d : Dev} {sp : Spec} {c : Cmd} (hr : sp.right = .owner) (h : d.checkRights sp c = none) :
    ∃ k, d.holder c.cls c.idx = some k ∧ ((c.cls = 0x0C ∧ (d.comp c.idx).state = 0) ∨ d.owns c.port.val k = true) := by
  unfold Dev.checkRights at h
  rw [hr] at h
  split at h
  · simp at h
  · cases hh : d.holder c.cls c.idx with
    | none => simp [hh] at h
    | some k => exact ⟨k, rfl, by simpa [hh, need_eq_none] using h⟩

end Sys2Proof.Machine

open Sys2Proof Sys2Proof.Machine

/-- Settles O14: without the owner's right the packet is not accepted, so only its bookkeeping is left. -/
theorem noOwnershipNoChange : Obligations.NoOwnershipNoChange := by
  unfold Obligations.NoOwnershipNoChange
  intro i sp c s t hi hr hown hgone ht
  rw [exec_of_rowPacket hi] at ht
  cases ht
  refine ⟨State.run_mem s sp c, State.run_shown s sp c, State.run_booked (Bool.eq_false_iff.mpr fun ha => ?_)⟩
  obtain ⟨k, hk, hg | ho⟩ := Dev.owns_of_checkRights hr (State.accepts_rights ha)
  · exact hgone hg
  · have hn : s.fresh.dev.owns c.port.val k = false := hown k hk
    simp [hn] at ho
end

section
/-! SUPPORT. A stop in force on an axis fails the object check of every command that would start motion (R59, R104, R156). -/

namespace Sys2Proof.Machine

/-- A list of checks with one that fails does not pass. -/
theorem firstFail_ne_none {l : List Verdict} {v : Verdict} (hm : v ∈ l) (hv : v ≠ none) : firstFail l ≠ none :=
  fun h => hv (firstFail_none h hm)

/-- R59: the check that no stop is in force fails under one. -/
theorem need_no_stop {n : Nat} (h : n ≠ 0) : need (n == 0) ST.stopLatched 0 ≠ none := by
  simpa [need_eq_none] using h

/-- R156: an axis under a stop is not ready for a source. -/
theorem Dev.motionReady_stopped {d : Dev} {i : Nat} (h : (d.ax i).stop ≠ 0) (l : List Verdict) :
    firstFail (d.motionReady i true ++ l) ≠ none := by
  have hs : need (!(true && ((d.ax i).stop != 0 || (d.safAx i).ss1))) ST.stopLatched 0 ≠ none := by simp [need_eq_none, h]
  exact firstFail_ne_none (by simp [Dev.motionReady]) hs

theorem Dev.motionObject_stopped {d : Dev} {i : Nat} (h : (d.ax i).stop ≠ 0) : d.motionObject i ≠ none :=
  Dev.motionReady_stopped h _

theorem moveObject_stopped {c : Cmd} {d : Dev} (hc : c.cls = 0x01) (h : (d.ax c.idx).stop ≠ 0) : moveObject c d ≠ none := by
  have hv : c.cls ≠ 0x12 := by omega
  rw [moveObject, if_neg hv]
  exact Dev.motionReady_stopped h _

theorem specCamEngage_object_stopped {c : Cmd} {d : Dev} (h : (d.ax c.idx).stop ≠ 0) : specCamEngage.object c d ≠ none :=
  firstFail_ne_none (List.mem_append_left _ (List.mem_singleton.mpr rfl)) (Dev.motionObject_stopped h)

theorem specHomeStall_object_stopped {c : Cmd} {d : Dev} (h : (d.ax c.idx).stop ≠ 0) : specHomeStall.object c d ≠ none :=
  firstFail_ne_none (by simp) (need_no_stop h)

theorem specStepdirConfigure_object_stopped {c : Cmd} {d : Dev} (hp : u8 c.payload 0 = 1) (h : (d.ax c.idx).stop ≠ 0) :
    specStepdirConfigure.object c d ≠ none := by
  have hv : u8 c.payload 0 ≠ 0 := by omega
  unfold specStepdirConfigure
  dsimp only
  rw [if_neg hv]
  exact Dev.motionReady_stopped h _

theorem specAxisManualSet_object_stopped {c : Cmd} {d : Dev} (h : (d.ax c.idx).stop ≠ 0) : specAxisManualSet.object c d ≠ none :=
  firstFail_ne_none (by simp) (need_no_stop h)

theorem modeObject_stopped {c : Cmd} {d : Dev} (hp : u8 c.payload 0 ≠ 1) (h : (d.ax c.idx).stop ≠ 0) : modeObject c d ≠ none :=
  firstFail_ne_none (by simp [hp]) (need_no_stop h)

/-- A row whose object check fails changes no part of the device that lies outside the bookkeeping of its packet. -/
theorem exec_keeps_of_object {α : Type} {i : Instr} {sp : Spec} {c : Cmd} {s t : State} (get : Dev → α)
    (hg : ∀ d fl r k a b, get (d.rebook fl r k a b) = get d) (hi : rowPacket i = some (sp, c))
    (ho : sp.object c s.fresh.dev ≠ none) (ht : exec i s = .next t) : get t.dev = get s.fresh.dev := by
  rw [exec_of_rowPacket hi] at ht
  cases ht
  have hn : s.accepts sp c = false := Bool.eq_false_iff.mpr fun ha => ho (State.accepts_object ha)
  obtain ⟨fl, r, k, a, b, e⟩ := State.run_of_not_accepts hn
  rw [e, hg]

end Sys2Proof.Machine

open Sys2Proof Sys2Proof.Machine

/-- Settles O58: under a stop the object check of each of these commands fails, so the packet is not accepted. -/
theorem stopRefusesMotion : Obligations.StopRefusesMotion := by
  unfold Obligations.StopRefusesMotion
  intro s t c hs
  have hs' : (s.fresh.dev.ax c.idx).stop ≠ 0 := hs
  have pfs {i : Instr} {sp : Spec} (hi : rowPacket i = some (sp, c)) (ho : sp.object c s.fresh.dev ≠ none) :
      exec i s = .next t → t.dev.pfs = s.dev.pfs := exec_keeps_of_object Dev.pfs (fun _ _ _ _ _ _ => rfl) hi ho
  have axes {i : Instr} {sp : Spec} (hi : rowPacket i = some (sp, c)) (ho : sp.object c s.fresh.dev ≠ none) :
      exec i s = .next t → t.dev.axes = s.dev.axes := exec_keeps_of_object Dev.axes (fun _ _ _ _ _ _ => rfl) hi ho
  refine ⟨?move, ?gear, ?cam, ?home, ?stepdir, ?manual, ?mode⟩
  case move => exact fun hc => pfs rfl (moveObject_stopped hc hs')
  case gear => exact pfs rfl (Dev.motionObject_stopped hs')
  case cam => exact pfs rfl (specCamEngage_object_stopped hs')
  case home => exact pfs rfl (specHomeStall_object_stopped hs')
  case stepdir => exact fun hp => pfs rfl (specStepdirConfigure_object_stopped hp hs')
  case manual => exact axes rfl (specAxisManualSet_object_stopped hs')
  case mode => exact fun hp => axes rfl (modeObject_stopped hp hs')
end

section
/-! SUPPORT. What an accepted command leaves in a part of the device, and what it replies. -/

namespace Sys2Proof.Machine

/-- A row sets what the effect of its command sets, where the bookkeeping of its packet does not reach. -/
theorem sets_of_apply {α : Type} {f : Cmd → Instr} {sp : Spec} {get : Dev → α} {val : Cmd → Dev → α}
    (hi : ∀ c, rowPacket (f c) = some (sp, c)) (hn : (sp.timing == .plan) = false)
    (hg : ∀ d fl r t a b, get (d.rebook fl r t a b) = get d) (hv : ∀ c (s : State), val c s.fresh.dev = val c s.dev)
    (ha : ∀ c d, get (sp.apply c d).dev = val c d) : Sets f sp get val := by
  intro s c h
  obtain ⟨fl, r, t, a, b, e⟩ := State.run_accepted_dev h
  have hd : (s.run sp c).dev = (sp.carry c s.fresh.dev).dev.rebook fl r t a b := e
  refine ⟨_, exec_of_rowPacket (hi c) s, ?_⟩
  rw [hd, hg, Spec.carry_unplanned hn, ha, hv]

/-- A query's completion waits with its reply. -/
theorem replies_of_apply {f : Cmd → Instr} {sp : Spec} {val : Cmd → Dev → Bytes}
    (hi : ∀ c, rowPacket (f c) = some (sp, c)) (hn : (sp.timing == .plan) = false)
    (hv : ∀ c (s : State), val c s.fresh.dev = val c s.dev) (ha : ∀ c d, sp.apply c d = d.reply (val c d)) :
    Replies f sp val := by
  intro s c h
  have hr : s.run sp c = s.after sp c (s.fresh.dev.reply (val c s.dev)) := by
    rw [State.run_accepted h, Spec.carry_unplanned hn, ha, hv]
  refine ⟨_, ⟨c, sp.op, .none, .post, .none, ST.ok, 0, val c s.dev, s.fresh.dev.effStroke sp c, none, s.dev.nov.taken⟩,
    exec_of_rowPacket (hi c) s, ?_, rfl, rfl, rfl, rfl, rfl⟩
  rw [hr, State.after, State.withDev_dev, Dev.consume_nov]
  rfl

/-! ### Byte strings -/

/-- The bytes in the middle of a string read back. -/
theorem slice_append (a p r : Bytes) : slice (a ++ (p ++ r)) a.length p.length = p := by
  simp [slice, zeros]

/-- Bytes written over a string that holds them read back. -/
theorem slice_overwrite {m : Bytes} {o : Nat} {p : Bytes} (h : o + p.length ≤ m.length) :
    slice (overwrite m o p) o p.length = p := by
  have ho : (m.take o).length = o := List.length_take_of_le (by omega)
  have hs := slice_append (m.take o) p (m.drop (o + p.length))
  rw [ho] at hs
  rw [overwrite, List.append_assoc, hs]

theorem overwrite_length {m : Bytes} {o : Nat} {p : Bytes} (h : o + p.length ≤ m.length) :
    (overwrite m o p).length = m.length := by
  simp only [overwrite, List.length_append, List.length_take, List.length_drop]
  omega

/-- The bytes around those written stay. -/
theorem overwrite_getElem? {m : Bytes} {o : Nat} {p : Bytes} (h : o + p.length ≤ m.length) {k : Nat}
    (hk : k < o ∨ o + p.length ≤ k) : (overwrite m o p)[k]? = m[k]? := by
  have ho : (m.take o ++ p).length = o + p.length := by rw [List.length_append, List.length_take_of_le (by omega)]
  rcases hk with hlt | hge
  · rw [overwrite, List.append_assoc, List.getElem?_append_left (by rw [List.length_take_of_le (by omega)]; exact hlt),
      List.getElem?_take_of_lt hlt]
  · rw [overwrite, List.getElem?_append_right (by omega), ho, List.getElem?_drop, Nat.add_sub_cancel' hge]

end Sys2Proof.Machine

open Sys2Proof Sys2Proof.Machine

/-- Settles O37: each effect is one update of the device, or a reply on it. -/
theorem powerAndPortCommandsTakeEffect : Obligations.PowerAndPortCommandsTakeEffect := by
  unfold Obligations.PowerAndPortCommandsTakeEffect
  refine ⟨?counters, ?backupRead, ?backupWrite, ?overwrite, ?tagLimits, ?stream, ?activate, ?blocks⟩
  case overwrite =>
    exact fun m o p h => ⟨slice_overwrite h, overwrite_length h, fun k hk => overwrite_getElem? h hk⟩
  case backupRead => exact replies_of_apply (fun _ => rfl) rfl (fun _ _ => rfl) fun _ _ => rfl
  case blocks => exact replies_of_apply (fun _ => rfl) rfl (fun _ _ => rfl) fun _ _ => rfl
  all_goals exact sets_of_apply (fun _ => rfl) rfl (fun _ _ _ _ _ _ => rfl) (fun _ _ => rfl) fun _ _ => rfl
end

section
/-! SUPPORT. The packet header of R33: fields written one after the other read back at their offsets. -/

namespace Sys2Proof.Machine

@[simp] theorem enc_length (n v : Nat) : (enc n v).length = n := by
  induction n generalizing v with
  | zero => rfl
  | succ n ih => rw [enc, List.length_cons, ih]

@[simp] theorem e8_length (v : Nat) : (e8 v).length = 1 := enc_length 1 v
@[simp] theorem e16_length (v : Nat) : (e16 v).length = 2 := enc_length 2 v
@[simp] theorem e32_length (v : Nat) : (e32 v).length = 4 := enc_length 4 v

/-- A byte is a field of one byte. -/
theorem u8_eq_uLE (p : Bytes) (o : Nat) : u8 p o = uLE p o 1 := by simp [uLE]

/-- A field reads the same whatever follows it. -/
theorem uLE_append_left {a b : Bytes} {o n : Nat} (h : o + n ≤ a.length) : uLE (a ++ b) o n = uLE a o n := by
  induction n generalizing o with
  | zero => rfl
  | succ n ih =>
    have ho : u8 (a ++ b) o = u8 a o := by rw [u8, u8, List.getD_append _ _ _ _ (by omega)]
    rw [uLE, uLE, ho, ih (by omega)]

/-- A field behind a prefix reads as without it. -/
theorem uLE_append_right (a b : Bytes) (k n : Nat) : uLE (a ++ b) (a.length + k) n = uLE b k n := by
  induction n generalizing k with
  | zero => rfl
  | succ n ih =>
    have hk : u8 (a ++ b) (a.length + k) = u8 b k := by
      rw [u8, u8, List.getD_append_right _ _ _ _ (Nat.le_add_right _ _), Nat.add_sub_cancel_left]
    rw [uLE, uLE, hk, Nat.add_assoc, ih]

/-- A number that fits its bytes reads back from them. -/
theorem uLE_enc {n v : Nat} (h : v < 256 ^ n) : uLE (enc n v) 0 n = v := by
  induction n generalizing v with
  | zero => exact (Nat.lt_one_iff.mp h).symm
  | succ n ih =>
    have hq : v / 256 < 256 ^ n := Nat.div_lt_of_lt_mul (by rwa [Nat.pow_succ, Nat.mul_comm] at h)
    have hb : u8 (enc (n + 1) v) 0 = v % 256 := by simp [u8, enc, byteOf]
    have ht : uLE (enc (n + 1) v) 1 n = v / 256 := (uLE_append_right [byteOf v] (enc n (v / 256)) 0 n).trans (ih hq)
    rw [uLE, hb, Nat.zero_add, ht]
    omega

/-- The field laid last reads back at its offset. -/
theorem uLE_append_enc {a : Bytes} {o n v : Nat} (ho : a.length = o) (h : v < 2 ^ (8 * n)) : uLE (a ++ enc n v) o n = v := by
  subst ho
  exact (uLE_append_right a (enc n v) 0 n).trans (uLE_enc (by rwa [Nat.pow_mul] at h))

/-- R33: the payload follows the 16 bytes of the header. -/
theorem slice_payload {a p : Bytes} (ha : a.length = 16) : slice (a ++ p) 16 p.length = p := by
  simpa [ha] using slice_append a p []

end Sys2Proof.Machine

open Sys2Proof Sys2Proof.Machine

/-- Settles O16: each field reads back at its offset, whatever follows it, and the payload behind them all. -/
theorem packetHeaderReadsBack : Obligations.PacketHeaderReadsBack := by
  unfold Obligations.PacketHeaderReadsBack
  intro port ring op tag comp flags seq cls idx p hop htag hcomp hflags hseq hcls hidx hp
  have hlen : p.length < 65536 := by omega
  have hfirst : uLE (enc 2 op) 0 2 = op := uLE_enc hop
  simp only [Nat.reducePow] at htag hcomp hflags hseq hcls hidx
  simp only [packetOf, u8_eq_uLE, u16, u32, e8, e16, e32]
  simp (disch := simp [*]) only [uLE_append_left, uLE_append_enc, hfirst, slice_payload]

/-- Settles O15: the opcodes of an area are all different, so the table's entry under a row's opcode is the row's own. -/
theorem rowsAreTheRingOpcodes : Obligations.RowsAreTheRingOpcodes := by
  unfold Obligations.RowsAreTheRingOpcodes
  intro i sp c h
  cases i <;> cases h <;> rfl
end

section
/-! SUPPORT. Ring slots in device SRAM: a list of byte writes, read back. -/

namespace Sys2Proof.Machine

section
variable {α : Type} (f : α → Nat) (g : α → Byte)

/-- A byte that none of the writes names reads as before. -/
theorem Memory.read_foldl_other {l : List α} {m : List Host.Cell} {a : Nat} (hm : Memory.wf m = true) (ha : ∀ x ∈ l, a ≠ f x) :
    Memory.read (l.foldl (fun (m : List Host.Cell) (x : α) => Memory.write m (f x) (g x)) m) a = Memory.read m a := by
  induction l generalizing m with
  | nil => rfl
  | cons y r ih =>
    obtain ⟨hy, hr⟩ := List.forall_mem_cons.mp ha
    rw [List.foldl_cons, ih (Memory.wf_write (f y) (g y) hm) hr, Memory.read_write_other (g y) hy hm]

/-- A byte written reads back, where all the writes of its address agree. -/
theorem Memory.read_foldl_same {l : List α} {m : List Host.Cell} {x : α} (hm : Memory.wf m = true) (hx : x ∈ l)
    (hf : ∀ y ∈ l, f y = f x → g y = g x) :
    Memory.read (l.foldl (fun (m : List Host.Cell) (x : α) => Memory.write m (f x) (g x)) m) (f x) = g x := by
  induction l generalizing m x with
  | nil => simp at hx
  | cons y r ih =>
    obtain ⟨hy, hr⟩ := List.forall_mem_cons.mp hf
    have hm' := Memory.wf_write (f y) (g y) hm
    rw [List.foldl_cons]
    by_cases hlater : ∃ z ∈ r, f z = f x
    · obtain ⟨z, hz, hzx⟩ := hlater
      rw [← hzx, ← hr z hz hzx]
      exact ih hm' hz fun w hw hwz => (hr w hw (hwz.trans hzx)).trans (hr z hz hzx).symm
    · have hxy : x = y := (List.mem_cons.mp hx).resolve_right fun h => hlater ⟨x, h, rfl⟩
      subst hxy
      rw [Memory.read_foldl_other f g hm' fun z hz e => hlater ⟨z, hz, e.symm⟩, Memory.read_write_same (f x) (g x) hm]

end

/-- R42: the address of byte `k` of what begins in slot `slot` of a ring, modulo the ring, as `Memory.writeRing` goes. -/
def ringByteAddr (port base slots size slot k : Nat) : Nat := areaAddr port (base + (slot * size + k) % (slots * size))

/-- R42: within one turn of a ring no two bytes lie at one address. -/
theorem ringByteAddr_inj {port base slots size slot i j : Nat} (hi : i < slots * size) (hj : j < slots * size)
    (h : ringByteAddr port base slots size slot i = ringByteAddr port base slots size slot j) : i = j := by
  have hmod : (slot * size + i) % (slots * size) = (slot * size + j) % (slots * size) := by
    unfold ringByteAddr areaAddr at h
    omega
  exact Nat.ModEq.eq_of_lt_of_lt (Nat.ModEq.add_left_cancel' (slot * size) hmod) hi hj

/-- A byte of a list stands under its index. -/
theorem lt_length_of_mem_zipIdx {b : Bytes} {x : Byte × Nat} (h : x ∈ b.zipIdx) : x.2 < b.length := by
  obtain ⟨hlt, _⟩ := List.getElem?_eq_some_iff.mp (List.mem_zipIdx_iff_getElem?.mp h)
  exact hlt

section
variable {m : List Host.Cell} {port base slots size slot : Nat} {b : Bytes}

/-- R42: a byte written into a slot reads back, where what is written passes the ring at most once. -/
theorem Memory.read_writeRing_same (hm : Memory.wf m = true) (hb : b.length ≤ slots * size) {k : Nat} (hk : k < b.length) :
    Memory.read (Memory.writeRing m port base slots size slot b) (ringByteAddr port base slots size slot k) = b.getD k 0 := by
  have hmem : (b.getD k 0, k) ∈ b.zipIdx := by simp [List.mem_zipIdx_iff_getElem?, hk]
  refine Memory.read_foldl_same (fun (x : Byte × Nat) => ringByteAddr port base slots size slot x.2) Prod.fst hm hmem fun y hy he => ?_
  have hlt := lt_length_of_mem_zipIdx hy
  have hyk : y.2 = k := ringByteAddr_inj (by omega) (by omega) he
  rw [List.getD_eq_getElem?_getD, ← hyk, List.mem_zipIdx_iff_getElem?.mp hy, Option.getD_some]

/-- R42: every byte outside those written reads as before. -/
theorem Memory.read_writeRing_other (hm : Memory.wf m = true) {a : Nat}
    (ha : ∀ k < b.length, a ≠ ringByteAddr port base slots size slot k) :
    Memory.read (Memory.writeRing m port base slots size slot b) a = Memory.read m a :=
  Memory.read_foldl_other (fun (x : Byte × Nat) => ringByteAddr port base slots size slot x.2) Prod.fst hm
    fun y hy => ha y.2 (lt_length_of_mem_zipIdx hy)

end

end Sys2Proof.Machine

open Sys2Proof Sys2Proof.Machine

/-- Settles O9: the writes of one slot go to different addresses, as they pass the ring at most once. -/
theorem ringWritesReadBack : Obligations.RingWritesReadBack := by
  unfold Obligations.RingWritesReadBack
  intro m port base slots size slot b hm hb
  exact ⟨fun k hk => Memory.read_writeRing_same hm hb hk, fun a ha => Memory.read_writeRing_other hm ha⟩
end

section
/-! SUPPORT. The rows that are neither a packet nor a step of the running device: they answer a next state, and which of
them leave the ring-area memory alone. -/

namespace Sys2Proof.Machine

/-- R410: a write answers whatever its frame, its CRC and its port are. -/
theorem execH3Write_next (b : Bytes) (whole : Bool) (s : State) : ∃ t, execH3Write b whole s = .next t := by
  unfold execH3Write
  extract_lets
  split
  · exact ⟨_, rfl⟩
  · split
    · exact ⟨_, rfl⟩
    · split <;> exact ⟨_, rfl⟩

/-- R410: a read answers, and leaves the ring areas as they are. -/
theorem execH3Read_next (b : Bytes) (sent : Bool) (s : State) : ∃ t, execH3Read b sent s = .next t ∧ t.mem = s.mem := by
  unfold execH3Read
  extract_lets
  split
  · exact ⟨_, rfl, rfl⟩
  · split
    · exact ⟨_, rfl, rfl⟩
    · split <;> exact ⟨_, rfl, rfl⟩

/-- R467: a commit answers in every state of the supply. -/
theorem execSaveCommit_next (us mv : Nat) (s : State) : ∃ t, execSaveCommit us mv s = .next t ∧ t.mem = s.mem := by
  unfold execSaveCommit
  extract_lets
  split
  · refine ⟨_, rfl, ?_⟩
    split
    · exact State.withDev_mem s.fresh _
    · rfl
  · exact ⟨_, rfl, rfl⟩

theorem execSaveAbandon_next (s : State) : ∃ t, execSaveAbandon s = .next t ∧ t.mem = s.mem := by
  unfold execSaveAbandon
  extract_lets
  split <;> exact ⟨_, rfl, rfl⟩

/-- R468: an exit from park answers in every state of the supply. -/
theorem execParkExit_next (cause : ParkExit) (u : StartUp) (s : State) : ∃ t, execParkExit cause u s = .next t := by
  unfold execParkExit
  extract_lets
  split <;> exact ⟨_, rfl⟩

theorem execResetPin_next (u : StartUp) (s : State) : ∃ t, execResetPin u s = .next t := by
  unfold execResetPin
  extract_lets
  split <;> exact ⟨_, rfl⟩

/-! ### The ring areas -/

/-- What every step of a fold keeps the fold keeps. -/
theorem foldl_keeps {α β γ : Type} (get : α → γ) {f : α → β → α} (hf : ∀ s x, get (f s x) = get s) (l : List β) (s : α) :
    get (l.foldl f s) = get s := by
  induction l generalizing s with
  | nil => rfl
  | cons x r ih => rw [List.foldl_cons, ih, hf]

theorem State.ctl_mem {s : State} {p : Nat} {f : State → State} (hf : ∀ t, (f t).mem = t.mem) : (s.ctl p f).mem = s.mem :=
  State.ctl_keeps State.mem s p f rfl hf

/-- R397: create and delete of the control ring pair write a register alone. -/
theorem State.ctlWrite_create_mem (s : State) (p v : Nat) : (s.ctlWrite p 0x24 v).mem = s.mem := rfl

/-- R398: a submission doorbell moves the tail. -/
theorem State.sqDoorbell_mem (s : State) (p n tail : Nat) : (s.sqDoorbell p n tail).mem = s.mem := by
  unfold State.sqDoorbell
  extract_lets
  split
  · rfl
  · split
    · rfl
    · split
      · split
        · split <;> rfl
        · rfl
      · rfl

/-- R406: completions are sent from the ring, which keeps them. -/
theorem State.completionDgram_mem (s : State) (ring first n : Nat) : (s.completionDgram ring first n).mem = s.mem := by
  unfold State.completionDgram
  extract_lets
  refine foldl_keeps State.mem ?_ _ s
  exact fun _ _ => rfl

/-- R405: a datagram of the session changes what its acceptance changes. -/
theorem State.h2Take_mem {s : State} {source kind : Nat} {g : Bytes} {len : Nat → Bool} {f : H2Session → State → State}
    (hf : ∀ y t, (f y t).mem = t.mem) : (s.h2Take source kind g len f).mem = s.mem := by
  unfold State.h2Take
  extract_lets
  split
  · rfl
  · split
    · rfl
    · split
      · rfl
      · split
        · rfl
        · exact hf _ _

/-- R41: the scanner reads the submission rings. -/
theorem State.scanStep_mem (s : State) (dma : Option Bytes) : (s.scanStep dma).mem = s.mem := by
  unfold State.scanStep
  split
  · rfl
  · extract_lets
    split
    · rfl
    · split
      · split <;> rfl
      · rfl

/-- A row that answers a state with the memory it was given leaves the memory alone. -/
theorem mem_of_next {i : Instr} {s t : State} (ht : exec i s = .next t) (h : ∃ u, exec i s = .next u ∧ u.mem = s.mem) :
    t.mem = s.mem := by
  obtain ⟨u, hu, hm⟩ := h
  cases hu.symm.trans ht
  exact hm

end Sys2Proof.Machine

open Sys2Proof Sys2Proof.Machine

/-- Settles O3: each row answers one next state; six choose it by the state of the supply or the frame of a transaction. -/
theorem everyStepAnswersNext : Obligations.EveryStepAnswersNext := by
  unfold Obligations.EveryStepAnswersNext
  intro i s
  cases i
  case h3Write b whole => exact execH3Write_next b whole s
  case h3Read b sent => exact (execH3Read_next b sent s).imp fun _ h => h.1
  case saveCommit us mv => exact (execSaveCommit_next us mv s).imp fun _ h => h.1
  case saveAbandon => exact (execSaveAbandon_next s).imp fun _ h => h.1
  case parkExit cause u => exact execParkExit_next cause u s
  case resetPin u => exact execResetPin_next u s
  all_goals exact ⟨_, rfl⟩

/-- Settles O10: packets and steps of the running device keep the memory; so do the rows of the control space, the
transports and the supplies that are not named. -/
theorem onlyTheseRowsWriteRingMemory : Obligations.OnlyTheseRowsWriteRingMemory := by
  unfold Obligations.OnlyTheseRowsWriteRingMemory
  intro i s t ht
  cases i
  case completionPost | h2Command | registerWrite | h3Write | parkExit | powerOnReset | resetPin => trivial
  case hcCtlCreate | hcCtlDelete =>
    refine mem_of_next ht ⟨_, rfl, ?_⟩
    exact State.ctl_mem fun u => u.ctlWrite_create_mem _ _
  case hcSqDb =>
    refine mem_of_next ht ⟨_, rfl, ?_⟩
    exact State.ctl_mem fun u => u.sqDoorbell_mem _ _ _
  case hcCqDb | hcYardDb | hcFlumeDb | hcEvClaim | hcEvComplete | hcEvAck =>
    refine mem_of_next ht ⟨_, rfl, ?_⟩
    exact State.ctl_mem fun _ => rfl
  case h2CqAck | h2Keepalive =>
    refine mem_of_next ht ⟨_, rfl, ?_⟩
    exact State.h2Take_mem fun _ _ => rfl
  case h2RetransmitTimeout =>
    refine mem_of_next ht ⟨_, rfl, ?_⟩
    split
    · exact State.completionDgram_mem _ _ _ _
    · rfl
  case h3Read b sent => exact mem_of_next ht (execH3Read_next b sent s)
  case ringScan dma =>
    refine mem_of_next ht ⟨_, rfl, ?_⟩
    exact State.scanStep_mem _ dma
  case byRefPayloadRead | fenceClear | slackStart =>
    refine mem_of_next ht ⟨_, rfl, ?_⟩
    split <;> rfl
  case saveCommit us mv => exact mem_of_next ht (execSaveCommit_next us mv s)
  case saveAbandon => exact mem_of_next ht (execSaveAbandon_next s)
  all_goals
    refine mem_of_next ht ⟨_, rfl, ?_⟩
    simp only [State.run_mem, State.live_mem]
end

section
/-! SUPPORT. The completion of the command packets, one area after the other. -/

namespace Sys2Proof.Machine

/-- The row of an accepted packet answers the state after the packet's effect. -/
theorem completes_of_rowPacket {f : Cmd → Instr} {sp : Spec} (hi : ∀ c, rowPacket (f c) = some (sp, c)) : Completes f sp := by
  intro s c ha
  rw [exec_of_rowPacket (hi c), State.run_accepted ha]

end Sys2Proof.Machine

open Sys2Proof Sys2Proof.Machine

/-- Settles O17: the stops and the commands of sessions and rings are the steps of their packets. -/
theorem urgentAndSessionCommandsComplete : Obligations.UrgentAndSessionCommandsComplete := by
  unfold Obligations.UrgentAndSessionCommandsComplete
  and_intros <;> exact completes_of_rowPacket fun _ => rfl

/-- Settles O18: the compartment, firmware and stroke commands are the steps of their packets. -/
theorem compartmentAndStrokeCommandsComplete : Obligations.CompartmentAndStrokeCommandsComplete := by
  unfold Obligations.CompartmentAndStrokeCommandsComplete
  and_intros <;> exact completes_of_rowPacket fun _ => rfl

/-- Settles O19: the axis and feedback commands are the steps of their packets. -/
theorem axisAndFeedbackCommandsComplete : Obligations.AxisAndFeedbackCommandsComplete := by
  unfold Obligations.AxisAndFeedbackCommandsComplete
  and_intros <;> exact completes_of_rowPacket fun _ => rfl

/-- Settles O20: the profile commands are the steps of their packets. -/
theorem profileCommandsComplete : Obligations.ProfileCommandsComplete := by
  unfold Obligations.ProfileCommandsComplete
  and_intros <;> exact completes_of_rowPacket fun _ => rfl

/-- Settles O21: the stage, segment and schedule commands are the steps of their packets. -/
theorem stageAndFinavalCommandsComplete : Obligations.StageAndFinavalCommandsComplete := by
  unfold Obligations.StageAndFinavalCommandsComplete
  and_intros <;> exact completes_of_rowPacket fun _ => rfl

/-- Settles O22: the arm, zone and safety commands are the steps of their packets. -/
theorem robotAndSafetyCommandsComplete : Obligations.RobotAndSafetyCommandsComplete := by
  unfold Obligations.RobotAndSafetyCommandsComplete
  and_intros <;> exact completes_of_rowPacket fun _ => rfl

/-- Settles O23: the capture, field I/O and CAN commands are the steps of their packets. -/
theorem captureAndFieldCommandsComplete : Obligations.CaptureAndFieldCommandsComplete := by
  unfold Obligations.CaptureAndFieldCommandsComplete
  and_intros <;> exact completes_of_rowPacket fun _ => rfl

/-- Settles O24: the time, power and event commands are the steps of their packets. -/
theorem timePowerAndEventCommandsComplete : Obligations.TimePowerAndEventCommandsComplete := by
  unfold Obligations.TimePowerAndEventCommandsComplete
  and_intros <;> exact completes_of_rowPacket fun _ => rfl

/-- Settles O40: three rows have no condition; the others name the state of the link or of the port that they need. -/
theorem linkRowsComplete : Obligations.LinkRowsComplete := by
  unfold Obligations.LinkRowsComplete
  refine ⟨?perst, ?flr, ?down, ?back, ?lost, ?power, ?up, ?pcs⟩
  case perst | flr => exact fun _ _ hr => gives_of_live rfl hr rfl
  case power => exact fun _ _ _ hr => gives_of_live rfl hr rfl
  case down => exact fun _ _ hr hl => gives_of_live rfl hr (if_pos hl)
  case back | lost => exact fun _ _ hr hw => gives_of_live rfl hr (if_pos hw)
  case up => exact fun _ _ _ _ hr hp => gives_of_live rfl hr (if_pos hp)
  case pcs => exact fun _ _ _ hr hp => gives_of_live rfl hr (if_pos hp)
end

section
/-! SUPPORT. The division of R72: non-restoring steps, and the exact division they amount to. -/

namespace Sys2Proof.Machine

/-- The remainder that a partial remainder of R72's steps stands for: it is short of the divisor where it is negative. -/
def restoredRem (pd p : Int) : Int := if p < 0 then p + pd else p

/-- R72: a step doubles the remainder and takes the divisor off, whether the partial remainder is restored first or not. -/
theorem nonRestoring_step (pd p : Int) : (if 0 ≤ p then 2 * p - pd else 2 * p + pd) = 2 * restoredRem pd p - pd := by
  unfold restoredRem
  split <;> split <;> omega

/-- R72: each step keeps the remainder below the divisor and doubles what quotient and remainder stand for. -/
theorem divsLoop_exact {pd : Int} (k : Nat) {p : Int} {q : Nat} (h0 : 0 ≤ restoredRem pd p) (h1 : restoredRem pd p < pd) :
    0 ≤ restoredRem pd (divsLoop pd k p q).1 ∧ restoredRem pd (divsLoop pd k p q).1 < pd ∧
      (divsLoop pd k p q).2 * pd + restoredRem pd (divsLoop pd k p q).1 = (q * pd + restoredRem pd p) * 2 ^ k := by
  induction k generalizing p q with
  | zero => exact ⟨h0, h1, by simp [divsLoop]⟩
  | succ k ih =>
    rw [divsLoop, nonRestoring_step]
    by_cases hs : 0 ≤ 2 * restoredRem pd p - pd
    · have hr : restoredRem pd (2 * restoredRem pd p - pd) = 2 * restoredRem pd p - pd := if_neg (by omega)
      obtain ⟨l0, l1, hq⟩ := ih (p := 2 * restoredRem pd p - pd) (q := 2 * q + 1) (by omega) (by omega)
      simp only [if_pos hs]
      refine ⟨l0, l1, hq.trans ?_⟩
      rw [hr]
      push_cast
      ring
    · have hr : restoredRem pd (2 * restoredRem pd p - pd) = 2 * restoredRem pd p := by
        rw [restoredRem, if_pos (by omega)]
        omega
      obtain ⟨l0, l1, hq⟩ := ih (p := 2 * restoredRem pd p - pd) (q := 2 * q + 0) (by omega) (by omega)
      simp only [if_neg hs]
      refine ⟨l0, l1, hq.trans ?_⟩
      rw [hr]
      push_cast
      ring

/-- R72: on magnitudes below 1 the fifteen steps give the quotient's fraction digits and the remainder. -/
theorem divsSteps_exact {pn pd : Nat} (h : pn < pd) :
    ((divsSteps pn pd).1 : Int) * pd + (divsSteps pn pd).2 = pn * 32768 ∧ 0 ≤ (divsSteps pn pd).2 ∧ (divsSteps pn pd).2 < pd := by
  have hr : restoredRem pd ((pn : Int) - pd) = pn := by
    rw [restoredRem, if_pos (by omega)]
    omega
  obtain ⟨l0, l1, hq⟩ := divsLoop_exact (pd := pd) (p := (pn : Int) - pd) (q := 0) 15 (by omega) (by omega)
  rw [hr] at hq
  exact ⟨hq.trans (by simp), l0, l1⟩

/-- R72: the steps and exact division give the same quotient and remainder. -/
theorem divsSteps_eq {pn pd : Nat} (h : pn < pd) :
    (divsSteps pn pd).1 = pn * 32768 / pd ∧ (divsSteps pn pd).2 = ((pn * 32768 % pd : Nat) : Int) := by
  obtain ⟨hq, l0, l1⟩ := divsSteps_exact h
  have hu := (Int.ediv_emod_unique (a := (pn : Int) * 32768) (b := pd) (q := (divsSteps pn pd).1) (by omega)).mpr
    ⟨by linarith, l0, l1⟩
  exact ⟨by exact_mod_cast hu.1.symm, by exact_mod_cast hu.2.symm⟩

section
variable {n d : Int}

/-- R72: a zero divisor. -/
theorem divs_zero (n : Int) : divs n 0 = ⟨if 0 ≤ n then 32767 else -32768, n, true, false⟩ := rfl

/-- R72: a quotient that is not below 1 in magnitude. -/
theorem divs_overflow (hd : d ≠ 0) (h : d.natAbs ≤ n.natAbs) :
    divs n d = ⟨if (0 ≤ n ↔ 0 ≤ d) then 32767 else -32768, 0, false, true⟩ := by
  simp only [divs, if_neg hd, if_pos h, decide_eq_decide]

/-- R72: a quotient below 1 in magnitude, by the steps on the magnitudes. -/
theorem divs_fraction (h : n.natAbs < d.natAbs) :
    divs n d = ⟨if (0 ≤ n ↔ 0 ≤ d) then ((divsSteps n.natAbs d.natAbs).1 : Int) else -((divsSteps n.natAbs d.natAbs).1 : Int),
      if n < 0 then -(divsSteps n.natAbs d.natAbs).2 else (divsSteps n.natAbs d.natAbs).2, false, false⟩ := by
  obtain ⟨hq, hp⟩ := divsSteps_eq h
  have hd : d ≠ 0 := by omega
  simp only [divs, if_neg hd, if_neg (Nat.not_le.mpr h), decide_eq_decide, hq, hp]

/-- R72: quotient and remainder with their signs make up the numerator. -/
theorem divs_reconstructs (h : n.natAbs < d.natAbs) : n * 32768 = (divs n d).q * d + (divs n d).r := by
  obtain ⟨hq, -, -⟩ := divsSteps_exact h
  rw [divs_fraction h]
  rcases lt_or_ge n 0 with hn | hn <;> rcases lt_or_ge d 0 with hd | hd
  all_goals
    simp only [Int.natCast_natAbs, abs_of_neg, abs_of_nonneg, hn, hd] at hq
    simp only [hn, hd, not_le.mpr, not_lt.mpr, if_true, if_false, iff_self, iff_true, iff_false, not_true]
    linarith

/-- R72: the remainder is below the divisor in magnitude. -/
theorem divs_remainder_lt (h : n.natAbs < d.natAbs) : (divs n d).r.natAbs < d.natAbs := by
  obtain ⟨-, l0, l1⟩ := divsSteps_exact h
  rw [divs_fraction h]
  dsimp only
  split <;> omega

end

end Sys2Proof.Machine

open Sys2Proof Sys2Proof.Machine

/-- Settles O49: the non-restoring steps keep a true remainder at every digit, so they end in exact division. -/
theorem divisionIsExact : Obligations.DivisionIsExact := by
  unfold Obligations.DivisionIsExact
  intro n d _ _ _ _
  refine ⟨?zero, divs_overflow, fun h => ?fraction⟩
  case zero =>
    rintro rfl
    exact divs_zero n
  case fraction =>
    obtain ⟨hq, hp⟩ := divsSteps_eq h
    exact ⟨⟨divs_fraction h, hq, hp⟩, divs_reconstructs h, divs_remainder_lt h⟩
end

section
/-! SUPPORT. Slices of a byte string, and fields that are written as the bytes they were read from. -/

namespace Sys2Proof.Machine

/-- The bytes of a slice, one by one. -/
theorem slice_eq_map (p : Bytes) (o n : Nat) : slice p o n = (List.range n).map (fun k => p.getD (o + k) 0) := by
  have hl : ((p.drop o).take n).length ≤ n := List.length_take_le n _
  refine List.ext_getElem (by simp [slice, zeros]) fun k hk hk' => ?_
  have hkn : k < n := by simpa using hk'
  simp only [slice, zeros, List.getElem_append, List.getElem_map, List.getElem_range]
  split
  case isTrue h =>
    have ho : o + k < p.length := by
      simp only [List.length_take, List.length_drop] at h
      omega
    rw [List.getElem_take, List.getElem_drop, List.getD_eq_getElem _ _ ho]
  case isFalse h =>
    have ho : p.length ≤ o + k := by
      simp only [List.length_take, List.length_drop] at h
      omega
    rw [List.getElem_replicate, List.getD_eq_default _ _ ho]

/-- Two slices that meet are one. -/
theorem slice_append_slice (p : Bytes) (o n m : Nat) : slice p o n ++ slice p (o + n) m = slice p o (n + m) := by
  simp only [slice_eq_map, List.range_add, List.map_append, List.map_map, Function.comp_def, Nat.add_assoc]

/-- Slices of one width, end to end. -/
theorem flatMap_slice (p : Bytes) (o w n : Nat) :
    (List.range n).flatMap (fun k => slice p (o + w * k) w) = slice p o (w * n) := by
  induction n with
  | zero => simp [slice_eq_map]
  | succ n ih => rw [List.range_succ, List.flatMap_append, ih, List.flatMap_singleton, slice_append_slice, Nat.mul_succ]

theorem slice_all (p : Bytes) : slice p 0 p.length = p := by
  simpa using slice_append [] p []

/-- Bytes that are all zero read as zeros, and so do those past the end. -/
theorem slice_of_allZero {p : Bytes} {o n : Nat} (h : allZero p o n = true) : slice p o n = zeros n := by
  have hz : (p.drop o).take n = zeros ((p.drop o).take n).length :=
    List.eq_replicate_of_mem fun b hb => beq_iff_eq.mp (List.all_eq_true.mp h b hb)
  have hl : ((p.drop o).take n).length ≤ n := List.length_take_le n _
  calc slice p o n = zeros ((p.drop o).take n).length ++ zeros (n - ((p.drop o).take n).length) := by rw [slice, ← hz]
    _ = zeros n := by rw [zeros, zeros, List.replicate_append_replicate, Nat.add_sub_cancel' hl, zeros]

/-- A field of `n` bytes is below 256^n. -/
theorem uLE_lt (p : Bytes) (o n : Nat) : uLE p o n < 256 ^ n := by
  induction n generalizing o with
  | zero => exact Nat.one_pos
  | succ n ih =>
    have hb : u8 p o < 256 := (p.getD o 0).isLt
    have hr := ih (o + 1)
    rw [uLE, pow_succ]
    omega

/-- A number read from its bytes is written as the same bytes. -/
theorem enc_uLE (p : Bytes) (o n : Nat) : enc n (uLE p o n) = slice p o n := by
  induction n generalizing o with
  | zero => rw [slice_eq_map]; rfl
  | succ n ih =>
    have hlt : u8 p o < 256 := (p.getD o 0).isLt
    have hb : byteOf (uLE p o (n + 1)) = p.getD o 0 := by
      refine BitVec.eq_of_toNat_eq ?_
      rw [byteOf, BitVec.toNat_ofNat, uLE, Nat.add_mul_mod_self_left, Nat.mod_eq_of_lt hlt, u8]
    have hq : uLE p o (n + 1) / 256 = uLE p (o + 1) n := by
      rw [uLE]
      omega
    rw [enc, hb, hq, ih, Nat.add_comm n 1, ← slice_append_slice, slice_eq_map p o 1]
    rfl

theorem e8_u8 (p : Bytes) (o : Nat) : e8 (u8 p o) = slice p o 1 := by rw [u8_eq_uLE, e8, enc_uLE]

/-- The bits of a two's complement reading are those it was read from. -/
theorem toU_toS {w n : Nat} (h : n < 2 ^ w) : toU w (toS w n) = n := by
  rw [toU, toS, Nat.mod_eq_of_lt h]
  split
  · rw [Int.emod_eq_of_lt] <;> omega
  · rw [Int.sub_emod_right, Int.emod_eq_of_lt] <;> omega

theorem eS16_i16 (p : Bytes) (o : Nat) : eS16 (i16 p o) = slice p o 2 := by
  rw [eS16, i16, toU_toS (uLE_lt p o 2), u16, enc_uLE]

end Sys2Proof.Machine
end

section
/-! SUPPORT. The payload of COEF_WRITE (R127) field by field, and the reply of a command that also takes effect. -/

namespace Sys2Proof.Machine

/-- R127: the gain at an offset of a payload. -/
def gainAt (p : Bytes) (o : Nat) : Gain := ⟨i16 p o, u8 p (o + 2)⟩

/-- R127: the biquad at an offset of a payload. -/
def biquadAt (p : Bytes) (o : Nat) : Biquad := ⟨i16 p o, i16 p (o + 2), i16 p (o + 4), i16 p (o + 6), i16 p (o + 8)⟩

/-- R127: a gain is written as its k, its s and a reserved byte. -/
def Gain.bytes (g : Gain) : Bytes := eS16 g.k ++ e8 g.s ++ e8 0

/-- R127: a biquad is written as its five coefficients. -/
def Biquad.bytes (b : Biquad) : Bytes := eS16 b.b0 ++ eS16 b.b1 ++ eS16 b.b2 ++ eS16 b.a1 ++ eS16 b.a2

/-- A gain whose reserved byte is zero is written as it was read. -/
theorem Gain.bytes_gainAt {p : Bytes} {o : Nat} (h : u8 p (o + 3) = 0) : (gainAt p o).bytes = slice p o 4 := by
  rw [Gain.bytes, gainAt, eS16_i16, e8_u8, ← h, e8_u8, slice_append_slice, slice_append_slice]

theorem Biquad.bytes_biquadAt (p : Bytes) (o : Nat) : (biquadAt p o).bytes = slice p o 10 := by
  simp only [Biquad.bytes, biquadAt, eS16_i16, slice_append_slice]

/-- R127: the layout of a bank read from a payload, by offsets. -/
theorem coefsOf_bytes (p : Bytes) (bank : Nat) : (coefsOf p).bytes bank =
    e8 bank ++ zeros 3 ++ (List.range 14).flatMap (fun (k : Nat) => (gainAt p (4 + 4 * k)).bytes) ++ eS16 (i16 p 60) ++ eS16 (i16 p 62) ++
      (List.range 4).flatMap (fun (k : Nat) => (biquadAt p (64 + 10 * k)).bytes) := rfl

/-- R127: a bank is read out as it was written, where the reserved bytes were zero. -/
theorem coefsOf_bytes_self {p : Bytes} (hl : p.length = 104) (hz : allZero p 1 3 = true)
    (hg : ∀ k < 14, u8 p (7 + 4 * k) = 0) : (coefsOf p).bytes (u8 p 0) = p := by
  have hgains : (List.range 14).flatMap (fun (k : Nat) => (gainAt p (4 + 4 * k)).bytes) = slice p 4 56 := by
    rw [← flatMap_slice p 4 4 14]
    refine List.flatMap_congr fun k hk => Gain.bytes_gainAt ?_
    rw [Nat.add_right_comm]
    exact hg k (List.mem_range.mp hk)
  have hbiquads : (List.range 4).flatMap (fun (k : Nat) => (biquadAt p (64 + 10 * k)).bytes) = slice p 64 40 := by
    simp only [Biquad.bytes_biquadAt, flatMap_slice]
  calc (coefsOf p).bytes (u8 p 0)
      = slice p 0 1 ++ slice p 1 3 ++ slice p 4 56 ++ slice p 60 2 ++ slice p 62 2 ++ slice p 64 40 := by
        rw [coefsOf_bytes, e8_u8, ← slice_of_allZero hz, hgains, eS16_i16, eS16_i16, hbiquads]
    _ = slice p 0 104 := by simp only [slice_append_slice p 0]
    _ = p := by rw [← hl, slice_all]

/-- A completion waits with its reply, where the command's effect leaves the commands in flight alone. -/
theorem replies_of_effect {f : Cmd → Instr} {sp : Spec} {val : Cmd → Dev → Bytes} {g : Cmd → Dev → Dev}
    (hi : ∀ c, rowPacket (f c) = some (sp, c)) (hn : (sp.timing == .plan) = false)
    (hv : ∀ c (s : State), val c s.fresh.dev = val c s.dev) (ha : ∀ c d, sp.apply c d = (g c d).reply (val c d))
    (hg : ∀ c d, (g c d).nov = d.nov) : Replies f sp val := by
  intro s c h
  have hr : s.run sp c = s.after sp c ((g c s.fresh.dev).reply (val c s.dev)) := by
    rw [State.run_accepted h, Spec.carry_unplanned hn, ha, hv]
  refine ⟨_, ⟨c, sp.op, .none, .post, .none, ST.ok, 0, val c s.dev, s.fresh.dev.effStroke sp c, none, s.dev.nov.taken⟩,
    exec_of_rowPacket (hi c) s, ?_, rfl, rfl, rfl, rfl, rfl⟩
  rw [hr, State.after, State.withDev_dev, Dev.consume_nov]
  exact congrArg (fun (n : Nov) => n.flights ++
    [⟨c, sp.op, .none, .post, .none, ST.ok, 0, val c s.dev, s.fresh.dev.effStroke sp c, none, n.taken⟩]) (hg c s.fresh.dev)

end Sys2Proof.Machine

open Sys2Proof Sys2Proof.Machine

/-- Settles O31: each effect is one update of the axis, or a reply; a bank is read out field by field as it was written. -/
theorem axisCommandsTakeEffect : Obligations.AxisCommandsTakeEffect := by
  unfold Obligations.AxisCommandsTakeEffect
  refine ⟨?configure, ?limits, ?coefWrite, ?hook, ?flags, ?hookCost, ?coefRead, ?layout⟩
  case layout => exact fun p hl _ hz hg => coefsOf_bytes_self hl hz hg
  case coefRead => exact replies_of_apply (fun _ => rfl) rfl (fun _ _ => rfl) fun _ _ => rfl
  case hookCost => exact replies_of_effect (fun _ => rfl) rfl (fun _ _ => rfl) (fun _ _ => rfl) fun _ _ => rfl
  all_goals exact sets_of_apply (fun _ => rfl) rfl (fun _ _ _ _ _ _ => rfl) (fun _ _ => rfl) fun _ _ => rfl
end

section
/-! SUPPORT. Integer square root, saturation, wrapping and the reduction of a position difference (R71, R73, R91). -/

namespace Sys2Proof.Machine

/-- R91: with bits from `k` down still open, the root lies from `r` to `r + 2^k`. -/
theorem isqrtGo_bounds {n : Nat} (k : Nat) {r : Nat} (hlo : r * r ≤ n) (hhi : n < (r + 2 ^ k) * (r + 2 ^ k)) :
    isqrtGo n k r * isqrtGo n k r ≤ n ∧ n < (isqrtGo n k r + 1) * (isqrtGo n k r + 1) := by
  induction k generalizing r with
  | zero => exact ⟨hlo, hhi⟩
  | succ k ih =>
    have htop : r + 2 ^ (k + 1) = r + 2 ^ k + 2 ^ k := by rw [pow_succ]; omega
    rw [isqrtGo]
    split
    case isTrue hc => exact ih hc (htop ▸ hhi)
    case isFalse hc => exact ih hlo (Nat.lt_of_not_le hc)

/-- Limiting between two bounds. -/
theorem clampI_eq_max_min {lo hi : Int} (h : lo ≤ hi) (x : Int) : clampI lo hi x = max lo (min hi x) := by
  unfold clampI
  split
  · omega
  · split <;> omega

theorem satS_16 (x : Int) : satS 16 x = max (-32768) (min 32767 x) := clampI_eq_max_min (by decide) x

/-- Wrapping to 16 bits keeps the low 16 bits, the highest of them as the sign. -/
theorem wrapS_16 (x : Int) : wrapS 16 x = if x % 65536 < 32768 then x % 65536 else x % 65536 - 65536 := by
  have hm : (toU 16 x % 2 ^ 16 : Nat) = x % 65536 := by
    simp only [toU]
    omega
  simp only [wrapS, toS, ← hm]
  norm_cast

theorem wrapS_16_emod (x : Int) : wrapS 16 x % 65536 = x % 65536 := by
  rw [wrapS_16]
  split <;> omega

theorem wrapS_16_range (x : Int) : -32768 ≤ wrapS 16 x ∧ wrapS 16 x ≤ 32767 := by
  rw [wrapS_16]
  split <;> omega

/-- R73: below a span of 2^16 the shift to Q15 is exact, and rounding leaves an integer as it is. -/
theorem floor_reduce_small (e : Int) {m : Nat} (hm : m ≤ 15) :
    ⌊(e : ℚ) * 32768 / 2 ^ m + 1 / 2⌋ = e * ((2 ^ (15 - m) : Nat) : Int) := by
  have hs : (32768 : ℚ) = 2 ^ (15 - m) * 2 ^ m := by rw [← pow_add, Nat.sub_add_cancel hm]; norm_num
  have hq : (e : ℚ) * 32768 / 2 ^ m = ((e * ((2 ^ (15 - m) : Nat) : Int) : Int) : ℚ) := by
    rw [hs]
    push_cast
    field_simp
  rw [hq, Int.floor_intCast_add]
  norm_num

/-- R73: from a span of 2^16 on the shift drops bits, with half of the last kept unit added first. -/
theorem floor_reduce_large (e : Int) (j : Nat) :
    ⌊(e : ℚ) * 32768 / 2 ^ (j + 16) + 1 / 2⌋ = Int.fdiv (e + ((2 ^ j : Nat) : Int)) ((2 ^ (j + 1) : Nat) : Int) := by
  have hq : (e : ℚ) * 32768 / 2 ^ (j + 16) + 1 / 2 = ((e + ((2 ^ j : Nat) : Int) : Int) : ℚ) / ((2 ^ (j + 1) : Nat) : ℚ) := by
    push_cast
    rw [pow_add, pow_succ]
    field_simp
    ring
  rw [hq, Rat.floor_intCast_div_natCast, Int.fdiv_eq_ediv_of_nonneg _ (Int.natCast_nonneg _)]

/-- R73: the reduction rounds half up and clamps. -/
theorem reduce_eq_floor (e : Int) (m : Nat) : reduce e m = max (-32768) (min 32767 ⌊(e : ℚ) * 32768 / 2 ^ m + 1 / 2⌋) := by
  simp only [reduce, reduceF, satS_16]
  split
  case isTrue hm =>
    obtain ⟨j, rfl⟩ := Nat.exists_eq_add_of_le' hm
    rw [floor_reduce_large]
    simp
  case isFalse hm => rw [floor_reduce_small e (by omega)]

/-- R71: with the saturation bit set. -/
theorem q15_saturated (v : Int) :
    (q15 v true).1 = max (-32768) (min 32767 v) ∧ ((q15 v true).2 = true ↔ (q15 v true).1 ≠ v) :=
  ⟨satS_16 v, bne_iff_ne⟩

/-- R71: with the saturation bit clear. -/
theorem q15_wrapped (v : Int) : (q15 v false).1 % 65536 = v % 65536 ∧ -32768 ≤ (q15 v false).1 ∧ (q15 v false).1 ≤ 32767 ∧
    (q15 v false).2 = false := by
  obtain ⟨hlo, hhi⟩ := wrapS_16_range v
  exact ⟨wrapS_16_emod v, hlo, hhi, rfl⟩

end Sys2Proof.Machine

open Sys2Proof Sys2Proof.Machine

/-- Settles O59: the root is closed in bit by bit from 2^128 down; the reduction is the floor of a fraction. -/
theorem arithmeticOfTheLoop : Obligations.ArithmeticOfTheLoop := by
  unfold Obligations.ArithmeticOfTheLoop
  refine ⟨fun n hn => ?root, fun e m _ => reduce_eq_floor e m, fun v => ?q15⟩
  case root => exact isqrtGo_bounds 128 (Nat.zero_le n) (by simpa [← pow_add] using hn)
  case q15 =>
    obtain ⟨hclamp, hflag⟩ := q15_saturated v
    exact ⟨hclamp, hflag, q15_wrapped v⟩
end

section
/-! SUPPORT. BANK_SWAP (R108): one field of one axis, and the flight of a command that has finished. -/

namespace Sys2Proof.Machine

/-- An entry that a table holds is changed where it stands. -/
theorem upd_eq_set {α : Type} {l : List α} {i : Nat} (f : α → α) (a : α) (h : i < l.length) :
    upd l i f = l.set i (f (l.getD i a)) := by
  rw [upd, List.modify_eq_set_get f h, List.getD_eq_getElem _ _ h, List.get_eq_getElem]

/-- R52: an accepted command that waits for no event has finished, with its effect's status. -/
theorem State.run_accepted_flights {s : State} {sp : Spec} {c : Cmd} (h : s.accepts sp c = true)
    (hh : (sp.carry c s.fresh.dev).hold = .none) :
    ∃ fl : Flight, (s.run sp c).dev.nov.flights = (sp.carry c s.fresh.dev).dev.nov.flights ++ [fl] ∧ fl.cmd = c ∧
      fl.stage = .post ∧ fl.status = (sp.carry c s.fresh.dev).status := by
  rw [State.run_accepted h, State.after, State.withDev_dev, Dev.consume_nov, Eff.finish, hh]
  exact ⟨_, rfl, rfl, rfl, rfl⟩

section
variable {c : Cmd} {d : Dev}

/-- R108: the bank named is active already. -/
theorem specBankSwap_active (h : (d.ax c.idx).bank = u8 c.payload 0) : specBankSwap.apply c d = d.says ST.noChange :=
  if_pos h

/-- R108: the other bank becomes active. -/
theorem specBankSwap_other (h : (d.ax c.idx).bank ≠ u8 c.payload 0) :
    specBankSwap.apply c d = (d.onAx c.idx (fun (a : Axis) => { a with bank := u8 c.payload 0 })).done :=
  if_neg h

theorem specBankSwap_status :
    (specBankSwap.apply c d).status = if (d.ax c.idx).bank = u8 c.payload 0 then ST.noChange else ST.ok := by
  split
  case isTrue h => rw [specBankSwap_active h]; rfl
  case isFalse h => rw [specBankSwap_other h]; rfl

/-- A swap takes effect at once, and leaves the commands in flight alone. -/
theorem specBankSwap_nov : (specBankSwap.apply c d).hold = .none ∧ (specBankSwap.apply c d).dev.nov = d.nov := by
  by_cases h : (d.ax c.idx).bank = u8 c.payload 0
  · rw [specBankSwap_active h]; exact ⟨rfl, rfl⟩
  · rw [specBankSwap_other h]; exact ⟨rfl, rfl⟩

/-- R108: either way the bank named is active afterwards, and all else of the axis stands as before. -/
theorem specBankSwap_axes (hi : c.idx < d.axes.length) :
    (specBankSwap.apply c d).dev.axes = d.axes.set c.idx { d.ax c.idx with bank := u8 c.payload 0 } := by
  by_cases h : (d.ax c.idx).bank = u8 c.payload 0
  · have hself : { d.ax c.idx with bank := u8 c.payload 0 } = d.axes[c.idx] := by
      rw [← h, Dev.ax, List.getD_eq_getElem _ _ hi]
    rw [specBankSwap_active h, hself, List.set_getElem_self]
    rfl
  · rw [specBankSwap_other h]
    exact upd_eq_set _ _ hi

end

end Sys2Proof.Machine

open Sys2Proof Sys2Proof.Machine

/-- Settles O50: the swap's whole effect on its axis is the number of the active bank. -/
theorem bankSwapKeepsLoopState : Obligations.BankSwapKeepsLoopState := by
  unfold Obligations.BankSwapKeepsLoopState
  refine ⟨rfl, fun s c h hi => ?_⟩
  have hcarry : specBankSwap.carry c s.fresh.dev = specBankSwap.apply c s.fresh.dev := Spec.carry_unplanned rfl c _
  obtain ⟨hhold, hnov⟩ := specBankSwap_nov (c := c) (d := s.fresh.dev)
  obtain ⟨fl, hfl, hcmd, hstage, hstatus⟩ := State.run_accepted_flights h (hcarry ▸ hhold)
  have haxes : (s.run specBankSwap c).dev.axes = s.dev.axes.set c.idx { s.dev.ax c.idx with bank := u8 c.payload 0 } := by
    obtain ⟨_, _, _, _, _, e⟩ := State.run_accepted_dev h
    rw [e]
    exact hcarry ▸ specBankSwap_axes hi
  have hax : (s.run specBankSwap c).dev.ax c.idx = { s.dev.ax c.idx with bank := u8 c.payload 0 } := by
    rw [Dev.ax, haxes]
    simp [hi]
  rw [hcarry, hnov] at hfl
  rw [hcarry, specBankSwap_status] at hstatus
  exact ⟨_, fl, exec_of_rowPacket rfl s, haxes, by rw [hax], by rw [hax], hfl, hcmd, hstage, hstatus⟩
end

section
/-! SUPPORT. The knots of R92 at the end of their cell cycle, for the cycle lengths of R8. -/

namespace Sys2Proof.Machine

/-- Half of a divisor, added to a multiple of it, is lost in the division. -/
theorem fdiv_mul_add_half (a : Int) {m : Int} (hm : 0 < m) : Int.fdiv (a * m + m / 2) m = a := by
  have hhalf : m / 2 / m = 0 := Int.ediv_eq_zero_of_lt (by omega) (by omega)
  rw [Int.fdiv_eq_ediv_of_nonneg _ hm.le, Int.add_comm, Int.add_mul_ediv_right _ _ hm.ne', hhalf, Int.zero_add]

section
variable {n : Nat} (h : n = 4 ∨ n = 8 ∨ n = 16 ∨ n = 32)
include h

/-- R8, R92: the divisor is the cube of the cycle length. -/
theorem two_pow_cycleLog : ((2 ^ (3 * cycleLog n) : Nat) : Int) = n * n * n := by
  rcases h with rfl | rfl | rfl | rfl <;> rfl

/-- R92: in the last stroke the weight of `p1` is whole and those of the velocities vanish. -/
theorem interpPos_last (k : Knots) : interpPos k (n - 1) n = k.p1 := by
  have hn : n - 1 + 1 = n := by omega
  have hw : (k.p1 - k.p0) * (3 * (n : Int) * n * n - 2 * n * n * n) + k.v0 * (n * n * n - 2 * n * n * n + n * n * n)
      + k.v1 * (n * n * n - n * n * n) = (k.p1 - k.p0) * (n * n * n) := by ring
  have hpos : (0 : Int) < n * n * n := by rw [← two_pow_cycleLog h]; exact_mod_cast Nat.two_pow_pos _
  simp only [interpPos, hn, two_pow_cycleLog h, hw, fdiv_mul_add_half _ hpos, add_sub_cancel]

/-- R92: in the last stroke the weight of `v1` alone is left, one of `n` strokes' worth. -/
theorem interpVel_last (k : Knots) : interpVel k (n - 1) n = ⌊(k.v1 : ℚ) / n + 1 / 2⌋ := by
  have hn : n - 1 + 1 = n := by omega
  have hw : (k.p1 - k.p0) * (6 * (n : Int) * n - 6 * n * n) + k.v0 * (3 * n * n - 4 * n * n + n * n)
      + k.v1 * (3 * n * n - 2 * n * n) = k.v1 * (n * n) := by ring
  have hq : (k.v1 : ℚ) / n + 1 / 2 = ((k.v1 * (n * n) + (n : Int) * n * n / 2 : Int) : ℚ) / ((n * n * n : Nat) : ℚ) := by
    rcases h with rfl | rfl | rfl | rfl <;> · norm_num; ring
  have hpos : (0 : Int) ≤ n * n * n := by positivity
  rw [hq, Rat.floor_intCast_div_natCast]
  simp only [interpVel, hn, two_pow_cycleLog h, hw, Int.fdiv_eq_ediv_of_nonneg _ hpos]
  push_cast
  rfl

end

end Sys2Proof.Machine

open Sys2Proof Sys2Proof.Machine

/-- Settles O55: in the last stroke of a cycle only the end knot has a weight. -/
theorem knotsMeet : Obligations.KnotsMeet := by
  unfold Obligations.KnotsMeet
  exact fun k n h => ⟨interpPos_last h k, interpVel_last h k⟩
end

section
/-! SUPPORT. Rows of the segments, the axes and their feedback. A step starts by clearing what was sent, so each row finds
its objects, and with them the conditions its rule names, as they stand on the device. -/

namespace Sys2Proof.Machine

section
variable (s : State) (n : Nat)

@[simp] theorem State.fresh_dev_seg : s.fresh.dev.seg n = s.dev.seg n := rfl
@[simp] theorem State.fresh_dev_ax : s.fresh.dev.ax n = s.dev.ax n := rfl
@[simp] theorem State.fresh_dev_sucks : s.fresh.dev.sucks = s.dev.sucks := rfl

end

end Sys2Proof.Machine

open Sys2Proof Sys2Proof.Machine

/-- Settles O42: frames, echoes and replies reach the branch of what was awaited and came whole; each other row has one
condition, which its rule names. -/
theorem segmentRowsComplete : Obligations.SegmentRowsComplete := by
  unfold Obligations.SegmentRowsComplete
  refine ⟨?frame, ?close, ?age, ?echo, ?noEcho, ?reply, ?noReply, ?listen, ?traffic, ?backoff, ?starting, ?lost, ?cruise,
    ?join, ?bus⟩
  case frame => exact fun _ _ _ _ _ _ hr he hp hc => gives_of_live rfl hr (by simp [he, hp, hc])
  case close => exact fun _ _ _ _ hr he hp hc ho => gives_of_live rfl hr (by simp [he, hp, hc, ho])
  case echo => exact fun _ _ _ _ _ _ hr he hw hf => gives_of_live rfl hr (by simp [he, hw, hf])
  case noEcho => exact fun _ _ _ hr he => gives_of_live rfl hr (by simp [he])
  case reply => exact fun _ _ _ _ _ hr hv ha hf => gives_of_live rfl hr (by simp [hv, ha, hf])
  case noReply => exact fun _ _ _ hr hv ha => gives_of_live rfl hr (by simp [hv, ha])
  case age | traffic | backoff | starting | bus => exact fun _ _ hr hc => gives_of_live rfl hr (if_pos hc)
  case listen => exact fun _ _ hr hl ht => gives_of_live rfl hr (if_pos ⟨hl, ht⟩)
  case lost => exact fun _ _ _ hr hj hn hm => gives_of_live rfl hr (if_pos ⟨hj, hn, hm⟩)
  case cruise => exact fun _ _ _ hr hc hd => gives_of_live rfl hr (if_pos (Bool.and_eq_true_iff.mpr ⟨hc, hd⟩))
  case join => exact fun _ _ _ hr hj => gives_of_live rfl hr (if_neg (Nat.not_le.mpr hj))

/-- Settles O43: an injection row finds the injection that runs, two rows have no condition, and each other row has one,
which its rule names. -/
theorem axisRowsComplete : Obligations.AxisRowsComplete := by
  unfold Obligations.AxisRowsComplete
  refine ⟨?fe, ?standstill, ?qs, ?manual, ?inject, ?ramp, ?sc, ?second, ?quad, ?index, ?hall, ?interp, ?step⟩
  case fe | manual => exact fun _ _ hr hc h0 ht => gives_of_live rfl hr (if_pos ⟨hc, h0, ht⟩)
  case standstill => exact fun _ _ hr hc hn h0 ht => gives_of_live rfl hr (if_pos ⟨hc, by simpa using hn, h0, ht⟩)
  case qs => exact fun _ _ hr hc hs hn h0 ht => gives_of_live rfl hr (if_pos ⟨hc, hs, by simpa using hn, h0, ht⟩)
  case inject => exact fun _ _ _ hr hj hd => gives_of_live rfl hr (by simp [hj, hd])
  case ramp => exact fun _ axis hr => gives_of_live (f := fun d => d.onPf axis.val Pf.rampEnd) rfl hr rfl
  case sc => exact fun _ _ _ _ _ _ hr hb => gives_of_live rfl hr (if_pos hb)
  case second => exact fun _ _ _ _ _ hr hb => gives_of_live rfl hr (if_pos hb)
  case quad => exact fun _ _ _ _ _ hr hs => gives_of_live rfl hr (if_pos hs)
  case index => exact fun _ _ _ hr hs hf => gives_of_live rfl hr (if_pos ⟨hs, hf⟩)
  case hall => exact fun _ _ _ _ hr hs => gives_of_live rfl hr (if_pos hs)
  case interp => exact fun _ _ hr hs => gives_of_live rfl hr (if_pos hs)
  case step => exact fun _ _ _ _ hr => gives_of_live rfl hr rfl
end

section
/-! SUPPORT. The two feedback and profile commands whose effect is more than one update of their object: LATCH_DISARM finds a
latch that may be disarmed already (R180), and VM_CONFIGURE is planned, so that its master first notes what it finds in
force (R60, R157). -/

namespace Sys2Proof.Machine

/-- An entry that the change leaves as it is leaves the table as it is. -/
theorem upd_eq_self {α : Type} {l : List α} {i : Nat} {f : α → α} (h : ∀ x, l[i]? = some x → f x = x) : upd l i f = l := by
  refine List.ext_getElem? fun k => ?_
  by_cases hk : k = i
  · subst hk
    cases hx : l[k]? with
    | none => simp [upd, hx]
    | some x => simp [upd, hx, h x hx]
  · exact upd_other l f hk

/-- Two changes of one entry are one. -/
theorem upd_upd {α : Type} (l : List α) (i : Nat) (f g : α → α) : upd (upd l i f) i g = upd l i (fun x => g (f x)) :=
  List.modify_modify_eq f g i l

/-- A row sets what its command sets when it is carried out, planned or not, on a class that it takes. -/
theorem sets_of_carry {α : Type} {f : Cmd → Instr} {sp : Spec} {get : Dev → α} {val : Cmd → Dev → α}
    (hi : ∀ c, rowPacket (f c) = some (sp, c)) (hg : ∀ d fl r t a b, get (d.rebook fl r t a b) = get d)
    (hv : ∀ c (s : State), val c s.fresh.dev = val c s.dev)
    (hc : ∀ c d, c.cls ∈ sp.classes → get (sp.carry c d).dev = val c d) : Sets f sp get val := by
  intro s c h
  obtain ⟨fl, r, t, a, b, e⟩ := State.run_accepted_dev h
  have hd : (s.run sp c).dev = (sp.carry c s.fresh.dev).dev.rebook fl r t a b := e
  refine ⟨_, exec_of_rowPacket (hi c) s, ?_⟩
  rw [hd, hg, hc c _ (State.accepts_class h), hv]

/-! ### LATCH_DISARM -/

/-- R180: a latch disarmed. -/
def Pf.disarm (p : Pf) (k : Nat) : Pf :=
  { p with latches := upd p.latches k (fun (l : Latch) => { l with armed := false }) }

theorem Pf.disarm_of_not_armed {p : Pf} {k : Nat} (h : (p.latches.getD k Latch.reset).armed = false) : p.disarm k = p := by
  have hl : upd p.latches k (fun (l : Latch) => { l with armed := false }) = p.latches :=
    upd_eq_self fun l hx => by
      have ha : l.armed = false := by simpa [List.getD_eq_getElem?_getD, hx] using h
      rw [← ha]
  rw [Pf.disarm, hl]

/-- R180: where the latch is disarmed already nothing changes, which is what disarming it gives. -/
theorem specLatchDisarm_pfs (c : Cmd) (d : Dev) :
    (specLatchDisarm.apply c d).dev.pfs = upd d.pfs c.idx (fun (p : Pf) => p.disarm (u8 c.payload 0)) := by
  cases ha : ((d.pf c.idx).latches.getD (u8 c.payload 0) Latch.reset).armed with
  | true =>
    have he : specLatchDisarm.apply c d = (d.onPf c.idx (fun (p : Pf) => p.disarm (u8 c.payload 0))).done :=
      if_neg (by rw [ha]; decide)
    rw [he]
    rfl
  | false =>
    have he : specLatchDisarm.apply c d = d.says ST.noChange := if_pos (by rw [ha]; decide)
    have hself : upd d.pfs c.idx (fun (p : Pf) => p.disarm (u8 c.payload 0)) = d.pfs :=
      upd_eq_self fun p hp => Pf.disarm_of_not_armed (by simpa [Dev.pf, List.getD_eq_getElem?_getD, hp] using ha)
    rw [he, hself]
    rfl

/-! ### VM_CONFIGURE -/

/-- R60, R157: a command on virtual masters notes what its master finds in force. -/
theorem Dev.notePlan_vm {c : Cmd} (h : c.cls = 0x12) (d : Dev) : d.notePlan c = d.onVm c.idx Vm.note := by
  rw [Dev.notePlan, h]
  rfl

/-- R157, R167: the configuration is carried out on a master that has noted what it finds in force. -/
theorem specVmConfigure_vms {c : Cmd} (h : c.cls ∈ specVmConfigure.classes) (d : Dev) :
    (specVmConfigure.carry c d).dev.vms = upd d.vms c.idx (fun (m : Vm) => m.note.configure c.payload) := by
  have hcarry : specVmConfigure.carry c d = specVmConfigure.apply c (d.notePlan c) := rfl
  rw [hcarry, Dev.notePlan_vm (List.mem_singleton.mp h)]
  exact upd_upd d.vms c.idx Vm.note _

/-! ### FB_POSITION_SET -/

/-- R134: of the feedback channels a position that is set changes one; what else shifts with it are the axis and its arms. -/
theorem fbPositionSet_sets : Sets .fbPositionSet specFbPositionSet Dev.fbs
    (fun c d => upd d.fbs c.idx (fun (f : Fb) => { f.setPos (i64 c.payload 0) with setTo := some (i64 c.payload 0) })) :=
  sets_of_apply (fun _ => rfl) rfl (fun _ _ _ _ _ _ => rfl) (fun _ _ => rfl) fun _ _ => rfl

end Sys2Proof.Machine

open Sys2Proof Sys2Proof.Machine

/-- Settles O32: five effects are one update of the object; the others are the position's, and those of a latch and of a
planned command. -/
theorem feedbackCommandsTakeEffect : Obligations.FeedbackCommandsTakeEffect := by
  unfold Obligations.FeedbackCommandsTakeEffect
  refine ⟨?configure, ?limits, ?scCal, ?scConfigure, ?position, ?disarm, ?camWrite, ?vmConfigure⟩
  case position =>
    intro s c h hi
    obtain ⟨t, ht, hfbs⟩ := fbPositionSet_sets s c h
    refine ⟨t, ht, ?_⟩
    simp [Dev.fb, hfbs, upd, hi, Fb.setPos]
  case disarm =>
    exact sets_of_apply (fun _ => rfl) rfl (fun _ _ _ _ _ _ => rfl) (fun _ _ => rfl) specLatchDisarm_pfs
  case vmConfigure =>
    exact sets_of_carry (fun _ => rfl) (fun _ _ _ _ _ _ => rfl) (fun _ _ => rfl) fun _ d h => specVmConfigure_vms h d
  all_goals exact sets_of_apply (fun _ => rfl) rfl (fun _ _ _ _ _ _ => rfl) (fun _ _ => rfl) fun _ _ => rfl
end

section
/-! SUPPORT. The ramp generator of R163: what one stroke does to the velocity, by its sign, and what n strokes leave of it. -/

namespace Sys2Proof.Machine

/-- R163: a forward velocity falls by D, at most to rest. -/
theorem Ramp.step_v_of_pos {r : Ramp} (hv : 0 < r.v) : r.step.v = r.v - min r.v r.d := by
  simp only [Ramp.step, if_pos hv, Int.natCast_natAbs, abs_of_pos hv]

/-- R163: a backward velocity rises by D, at most to rest. -/
theorem Ramp.step_v_of_neg {r : Ramp} (hv : r.v < 0) : r.step.v = r.v + min (-r.v) r.d := by
  simp only [Ramp.step, if_neg hv.not_gt, if_pos hv, Int.natCast_natAbs, abs_of_neg hv]

/-- R163: a ramp at rest stays as it is. -/
theorem Ramp.step_of_rest {r : Ramp} (hv : r.v = 0) : r.step = r := by
  cases r
  subst hv
  simp [Ramp.step]

@[simp] theorem Ramp.step_p (r : Ramp) : r.step.p = r.p + r.step.v := rfl

@[simp] theorem Ramp.step_d (r : Ramp) : r.step.d = r.d := rfl

/-- R163: a stroke takes D off the speed, at most all of it. -/
theorem Ramp.natAbs_step_v {r : Ramp} (hd : 0 < r.d) : r.step.v.natAbs = r.v.natAbs - r.d.natAbs := by
  rcases lt_trichotomy r.v 0 with hv | hv | hv
  · rw [Ramp.step_v_of_neg hv]; omega
  · simp [Ramp.step_of_rest hv, hv]
  · rw [Ramp.step_v_of_pos hv]; omega

/-- R163: a stroke never turns the velocity round. -/
theorem Ramp.step_v_mul_v_nonneg (r : Ramp) : 0 ≤ r.step.v * r.v := by
  rcases lt_trichotomy r.v 0 with hv | hv | hv
  · exact mul_nonneg_of_nonpos_of_nonpos (by rw [Ramp.step_v_of_neg hv]; omega) hv.le
  · simp [hv]
  · exact mul_nonneg (by rw [Ramp.step_v_of_pos hv]; omega) hv.le

/-- The last of `n + 1` strokes is a stroke of the ramp after `n`. -/
theorem Ramp.after_succ (n : Nat) (r : Ramp) : r.after (n + 1) = (r.after n).step := by
  induction n generalizing r with
  | zero => rfl
  | succ n ih => exact ih r.step

/-- R163: `n` strokes take `n` times D off the speed, at most all of it. -/
theorem Ramp.natAbs_after_v (n : Nat) {r : Ramp} (hd : 0 < r.d) :
    (r.after n).v.natAbs = r.v.natAbs - n * r.d.natAbs := by
  induction n generalizing r with
  | zero => simp [Ramp.after]
  | succ n ih =>
    calc (r.step.after n).v.natAbs
        = r.step.v.natAbs - n * r.d.natAbs := ih hd
      _ = r.v.natAbs - (n + 1) * r.d.natAbs := by
        rw [Ramp.natAbs_step_v hd, Nat.sub_sub, Nat.succ_mul, Nat.add_comm]

end Sys2Proof.Machine

open Sys2Proof Sys2Proof.Machine

/-- Settles O56: a stroke takes D off the speed, so n strokes take n D off it; and a stroke at rest changes nothing. -/
theorem rampComesToRest : Obligations.RampComesToRest := by
  unfold Obligations.RampComesToRest
  intro r hd
  refine ⟨⟨Ramp.natAbs_step_v hd, r.step_v_mul_v_nonneg, r.step_p, r.step_d⟩, fun n hn => ?_⟩
  have hrest : (r.after n).v = 0 := by
    rw [← Int.natAbs_eq_zero, Ramp.natAbs_after_v n hd, Nat.sub_eq_zero_of_le hn]
  exact ⟨hrest, by rw [Ramp.after_succ, Ramp.step_of_rest hrest]⟩
end

section
/-! SUPPORT. The gear relation of R169: its floored fractions as floors of rationals, and the row of the table that each range
of u takes. -/

namespace Sys2Proof.Machine

/-- The fraction's sign may stand in its denominator. -/
theorem floorFrac_eq_floor (a : Int) {b : Int} (hb : b ≠ 0) : floorFrac a b = ⌊(a : ℚ) / b⌋ := by
  have hpos (x : Int) {y : Int} (hy : 0 < y) : Int.fdiv x y = ⌊(x : ℚ) / y⌋ := by
    rw [Int.fdiv_eq_ediv_of_nonneg _ hy.le, Int.floor_div_cast_of_nonneg hy.le, Int.floor_intCast]
  rcases lt_or_gt_of_ne hb with hneg | hb'
  · rw [floorFrac, if_neg hb, if_neg hneg.not_gt, hpos (-a) (neg_pos.mpr hneg)]
    push_cast
    rw [neg_div_neg_eq]
  · rw [floorFrac, if_neg hb, if_pos hb', hpos a hb']

/-- R169: `u` lies before the sync: on the far side of 0 from the sync length, or below 0 where that is 0. -/
abbrev GearBefore (len u : Int) : Prop := (len = 0 ∧ u < 0) ∨ (0 < len ∧ u < 0) ∨ (len < 0 ∧ 0 < u)

/-- R169: `u` lies within a sync length other than 0, where it is not before the sync. -/
abbrev GearWithin (len u : Int) : Prop := len ≠ 0 ∧ u.natAbs ≤ len.natAbs

/-- R169: the three rows of the table, each a fraction floored once. -/
theorem gearG_eq_ite (no nn len u : Int) (d_o d_n : Nat) :
    gearG no d_o nn d_n len u =
      if GearBefore len u then floorFrac (no * u) d_o
      else if GearWithin len u then
        floorFrac (2 * len * d_n * no * u + (nn * d_o - no * d_n) * u * u) (2 * len * d_o * d_n)
      else
        floorFrac (2 * no * d_n * len + (nn * d_o - no * d_n) * len + 2 * nn * d_o * (u - len)) (2 * d_o * d_n) := by
  simp only [gearG, ← Bool.decide_and, ← Bool.decide_or, or_assoc, decide_eq_true_eq]
  by_cases hb : GearBefore len u
  · rw [if_pos hb, if_pos hb]
  · simp [if_neg hb, decide_eq_false hb]

section
variable (no nn len u : Int) {d_o d_n : Nat} (ho : 0 < d_o) (hn : 0 < d_n)
include ho

/-- R169: before the sync, the old ratio alone. -/
theorem floorFrac_gearBefore : floorFrac (no * u) d_o = ⌊(no : ℚ) / d_o * u⌋ := by
  rw [floorFrac_eq_floor _ (by positivity)]
  push_cast
  rw [div_mul_eq_mul_div]

include hn

/-- R169: within the sync length, the ratio moves from the old one to the new. -/
theorem floorFrac_gearWithin (hlen : len ≠ 0) :
    floorFrac (2 * len * d_n * no * u + (nn * d_o - no * d_n) * u * u) (2 * len * d_o * d_n) =
      ⌊(no : ℚ) / d_o * u + ((nn : ℚ) / d_n - (no : ℚ) / d_o) * u ^ 2 / (2 * len)⌋ := by
  rw [floorFrac_eq_floor _ (by positivity)]
  congr 1
  push_cast
  field_simp

/-- R169: beyond the sync length, the new ratio from where the sync has led. -/
theorem floorFrac_gearBeyond :
    floorFrac (2 * no * d_n * len + (nn * d_o - no * d_n) * len + 2 * nn * d_o * (u - len)) (2 * d_o * d_n) =
      ⌊(no : ℚ) / d_o * len + ((nn : ℚ) / d_n - (no : ℚ) / d_o) * len / 2 + (nn : ℚ) / d_n * (u - len)⌋ := by
  rw [floorFrac_eq_floor _ (by positivity)]
  congr 1
  push_cast
  field_simp

end

end Sys2Proof.Machine

open Sys2Proof Sys2Proof.Machine

/-- Settles O54: the model takes the row of the table that the range of u names, and its fraction is that row's rational. -/
theorem gearFloorsOnce : Obligations.GearFloorsOnce := by
  unfold Obligations.GearFloorsOnce
  intro no nn len u d_o d_n ho hn ro rn
  rw [gearG_eq_ite]
  split
  case isTrue => exact floorFrac_gearBefore no u ho
  case isFalse =>
    split
    case isTrue hw => exact floorFrac_gearWithin no nn len u ho hn hw.1
    case isFalse => exact floorFrac_gearBeyond no nn len u ho hn
end

section
/-! SUPPORT. Rows that change at most one entry of one list of the device: nothing, or one update of that entry. -/

namespace Sys2Proof.Machine

/-- A list of like things as a part of the device: `get` reads it, `on` updates one entry, `part` takes it over. -/
structure TableOf {α : Type} (part : Dev → Dev → Dev) (get : Dev → List α) (on : Dev → Nat → (α → α) → Dev) : Prop
    extends TakesPart part where
  part_on : ∀ d n g, part d (on d n g) = on d n g
  get_on : ∀ d n g, get (on d n g) = upd (get d) n g
  get_rebook : ∀ d fl r t a b, get (Dev.rebook d fl r t a b) = get d
  get_fresh : ∀ s : State, get s.fresh.dev = get s.dev

/-- Nothing is changed, or entry `n` alone. -/
def AtMostEntry {α : Type} (on : Dev → Nat → (α → α) → Dev) (n : Nat) (d e : Dev) : Prop := e = d ∨ ∃ g, e = on d n g

section
variable {α : Type} {part : Dev → Dev → Dev} {get : Dev → List α} {on : Dev → Nat → (α → α) → Dev} {n : Nat} {d e : Dev}

theorem AtMostEntry.part_eq (ht : TableOf part get on) (h : AtMostEntry on n d e) : e = part d e := by
  rcases h with rfl | ⟨g, rfl⟩
  · exact (ht.self _).symm
  · exact (ht.part_on d n g).symm

theorem AtMostEntry.get_other (ht : TableOf part get on) (h : AtMostEntry on n d e) {k : Nat} (hk : k ≠ n) :
    (get e)[k]? = (get d)[k]? := by
  rcases h with rfl | ⟨g, rfl⟩
  · rfl
  · rw [ht.get_on, upd_other _ g hk]

/-- A row whose effect is on one entry of a list keeps the frame of that list, and every other entry of it. -/
theorem entryFrame_of_apply {i : Instr} {sp : Spec} {c : Cmd} (ht : TableOf part get on) (hi : rowPacket i = some (sp, c))
    (hn : (sp.timing == .plan) = false) (he : ∀ d, AtMostEntry on n d (sp.apply c d).dev) :
    Frame part i ∧ OnlyEntry get n i := by
  have hcarry : ∀ d, AtMostEntry on n d (sp.carry c d).dev := fun d => by
    rw [Spec.carry_unplanned hn]
    exact he d
  refine ⟨frame_of_carry ht.toTakesPart hi fun d _ _ => (hcarry d).part_eq ht, fun s t k h hk => ?_⟩
  rw [exec_of_rowPacket hi] at h
  cases h
  rcases State.run_dev s sp c with ⟨fl, r, j, a, b, hd⟩ | ⟨_, fl, r, j, a, b, hd⟩
  · have hb : (s.run sp c).dev = s.fresh.dev.rebook fl r j a b := hd
    rw [hb, ht.get_rebook, ht.get_fresh]
  · have hb : (s.run sp c).dev = (sp.carry c s.fresh.dev).dev.rebook fl r j a b := hd
    rw [hb, ht.get_rebook, (hcarry s.fresh.dev).get_other ht hk, ht.get_fresh]

end

/-- The local stages. -/
theorem tableOf_stgs : TableOf (fun b e => { b with stgs := e.stgs }) Dev.stgs Dev.onStg :=
  ⟨⟨fun _ => rfl, fun _ _ _ _ _ _ _ => rfl⟩, fun _ _ _ => rfl, fun _ _ _ => rfl, fun _ _ _ _ _ _ => rfl, fun _ => rfl⟩

/-- The Finaval segments. -/
theorem tableOf_segs : TableOf (fun b e => { b with segs := e.segs }) Dev.segs Dev.onSeg :=
  ⟨⟨fun _ => rfl, fun _ _ _ _ _ _ _ => rfl⟩, fun _ _ _ => rfl, fun _ _ _ => rfl, fun _ _ _ _ _ _ => rfl, fun _ => rfl⟩

/-! ### Commands that may find nothing to change -/

section
variable (c : Cmd) (d : Dev)

/-- R188, R214: a stage in the mode asked for stays as it is; else it is disabled, or enabled. -/
theorem specStageEnable_entry : AtMostEntry Dev.onStg c.idx d (specStageEnable.apply c d).dev := by
  unfold specStageEnable
  dsimp only
  split
  · exact .inl rfl
  · split <;> exact .inr ⟨_, rfl⟩

/-- R205: a stage without a fault stays as it is. -/
theorem specStageFaultClear_entry : AtMostEntry Dev.onStg c.idx d (specStageFaultClear.apply c d).dev := by
  unfold specStageFaultClear
  dsimp only
  split
  · exact .inl rfl
  · exact .inr ⟨_, rfl⟩

variable {c d}

/-- R197: the lock stands as it is asked for. -/
theorem specPwmLock_same (h : (d.stg c.idx).locked = (u8 c.payload 0 == 1)) : specPwmLock.apply c d = d.says ST.noChange :=
  if_pos h

/-- R197: the lock changes. -/
theorem specPwmLock_other (h : (d.stg c.idx).locked ≠ (u8 c.payload 0 == 1)) :
    specPwmLock.apply c d = (d.onStg c.idx (fun (x : Stg) => { x with locked := u8 c.payload 0 == 1 })).done :=
  if_neg h

variable (c d)

theorem specPwmLock_entry : AtMostEntry Dev.onStg c.idx d (specPwmLock.apply c d).dev := by
  by_cases h : (d.stg c.idx).locked = (u8 c.payload 0 == 1)
  · exact .inl (by rw [specPwmLock_same h]; rfl)
  · exact .inr ⟨_, by rw [specPwmLock_other h]; rfl⟩

/-- R197: either way the lock is then as asked for, and all else of the stages as before. -/
theorem specPwmLock_stgs : (specPwmLock.apply c d).dev.stgs =
    upd d.stgs c.idx (fun (x : Stg) => { x with locked := u8 c.payload 0 == 1 }) := by
  by_cases h : (d.stg c.idx).locked = (u8 c.payload 0 == 1)
  · have hself : upd d.stgs c.idx (fun (x : Stg) => { x with locked := u8 c.payload 0 == 1 }) = d.stgs :=
      upd_eq_self fun x hx => by
        have hl : x.locked = (u8 c.payload 0 == 1) := by simpa [Dev.stg, List.getD_eq_getElem?_getD, hx] using h
        rw [← hl]
    rw [specPwmLock_same h, hself]
    rfl
  · rw [specPwmLock_other h]
    rfl

/-- R271: a read of the cache asks no node. -/
theorem specNodeRead_entry : AtMostEntry Dev.onSeg (c.idx / 8) d (specNodeRead.apply c d).dev := by
  unfold specNodeRead
  dsimp only
  split
  · exact .inl rfl
  · exact .inr ⟨_, rfl⟩

/-- R262: a node is accepted only where it stands in mismatch with a valid record. -/
theorem specNodeAccept_entry : AtMostEntry Dev.onSeg (c.idx / 8) d (specNodeAccept.apply c d).dev := by
  unfold specNodeAccept
  dsimp only
  split
  · split
    · exact .inr ⟨_, rfl⟩
    · exact .inl rfl
  · exact .inl rfl

end

end Sys2Proof.Machine

open Sys2Proof Sys2Proof.Machine

/-- Settles O27: five commands may find nothing to change; each other effect is one update of its stage or segment. -/
theorem stageAndSegmentFrame : Obligations.StageAndSegmentFrame := by
  unfold Obligations.StageAndSegmentFrame
  refine ⟨fun c => ?stages, fun c => ?segments, fun c => ?nodes⟩
  all_goals simp only [List.forall_mem_cons, List.not_mem_nil, IsEmpty.forall_iff, implies_true, and_true]
  case stages =>
    refine ⟨?configure, ?enable, ?set, ?compare, ?period, ?lock, ?points, ?faults, ?flags⟩
    case enable => exact entryFrame_of_apply tableOf_stgs rfl rfl (specStageEnable_entry c)
    case lock => exact entryFrame_of_apply tableOf_stgs rfl rfl (specPwmLock_entry c)
    case faults => exact entryFrame_of_apply tableOf_stgs rfl rfl (specStageFaultClear_entry c)
    all_goals exact entryFrame_of_apply tableOf_stgs rfl rfl fun _ => .inr ⟨_, rfl⟩
  case segments =>
    refine ⟨?segment, ?start, ?schedule, ?counters⟩
    all_goals exact entryFrame_of_apply tableOf_segs rfl rfl fun _ => .inr ⟨_, rfl⟩
  case nodes =>
    refine ⟨?read, ?write, ?action, ?accept⟩
    case read => exact entryFrame_of_apply tableOf_segs rfl rfl (specNodeRead_entry c)
    case accept => exact entryFrame_of_apply tableOf_segs rfl rfl (specNodeAccept_entry c)
    all_goals exact entryFrame_of_apply tableOf_segs rfl rfl fun _ => .inr ⟨_, rfl⟩

/-- Settles O33: each effect is one update of its stage or segment, or a reply; a lock may stand as it is asked for. -/
theorem stageAndSegmentCommandsTakeEffect : Obligations.StageAndSegmentCommandsTakeEffect := by
  unfold Obligations.StageAndSegmentCommandsTakeEffect
  refine ⟨?configure, ?period, ?lock, ?set, ?flags, ?segment, ?start, ?schedule, ?read⟩
  case lock => exact sets_of_apply (fun _ => rfl) rfl (fun _ _ _ _ _ _ => rfl) (fun _ _ => rfl) specPwmLock_stgs
  case read => exact replies_of_apply (fun _ => rfl) rfl (fun _ _ => rfl) fun _ _ => rfl
  all_goals exact sets_of_apply (fun _ => rfl) rfl (fun _ _ _ _ _ _ => rfl) (fun _ _ => rfl) fun _ _ => rfl
end

section
/-! SUPPORT. Rows of the local stages. -/

open Sys2Proof Sys2Proof.Machine

/-- Settles O44: most rows have no condition; a detection, a low supply, a measurement and a record have the one that their
rule names. -/
theorem stageRowsComplete : Obligations.StageRowsComplete := by
  unfold Obligations.StageRowsComplete
  refine ⟨?boundary, ?centre, ?refresh, ?globalTrip, ?trip, ?vds, ?uvLow, ?uvHigh, ?precharge, ?offset, ?stoA, ?stoB,
    ?switches, ?vgateLow, ?vgateGood, ?ident⟩
  case stoA | stoB | vgateLow | vgateGood => exact fun _ hr => gives_of_live rfl hr rfl
  case precharge | switches => exact fun _ _ hr => gives_of_live rfl hr rfl
  case boundary | refresh | uvHigh | globalTrip | trip => exact fun _ _ _ hr => gives_of_live rfl hr rfl
  case centre => exact fun _ _ _ _ hr => gives_of_live rfl hr rfl
  case vds => exact fun _ _ _ _ hr hc => gives_of_live rfl hr (if_pos hc)
  case uvLow => exact fun _ _ _ hr hu => gives_of_live rfl hr (if_neg (Bool.eq_false_iff.mp hu))
  case offset =>
    intro s stage l hr hm hl
    obtain ⟨_, _, _, _, rfl⟩ := List.length_eq_four.mp hl
    exact gives_of_live rfl hr (if_pos hm)
  case ident => exact fun _ _ _ hr hv => gives_of_live rfl hr (if_pos hv)
end

section
/-! SUPPORT. The check values of a frame (R219): each fits the bytes that carry it, so a frame reads back its own. -/

namespace Sys2Proof.Machine

/-! ### A CRC of width w is below 2^w -/

theorem crcBit_lt {w poly : Nat} (hp : poly < 2 ^ w) (r : Nat) (b : Bool) : crcBit w poly r b < 2 ^ w := by
  have hs : r * 2 % 2 ^ w < 2 ^ w := Nat.mod_lt _ (Nat.two_pow_pos w)
  rw [crcBit]
  split
  · exact Nat.xor_lt_two_pow hs hp
  · exact hs

theorem crcRun_lt {w poly r : Nat} (hp : poly < 2 ^ w) (hr : r < 2 ^ w) (refin : Bool) (p : Bytes) :
    crcRun w poly refin r p < 2 ^ w :=
  List.foldlRecOn (motive := (· < 2 ^ w)) p _ hr fun _ hb x _ =>
    List.foldlRecOn (motive := (· < 2 ^ w)) (byteBits refin x) _ hb fun r _ b _ => crcBit_lt hp r b

theorem reflect_lt (w n : Nat) : reflect w n < 2 ^ w := by
  induction w generalizing n with
  | zero => exact Nat.one_pos
  | succ w ih =>
    have hb : n % 2 * 2 ^ w ≤ 1 * 2 ^ w := Nat.mul_le_mul_right _ (by omega)
    have hr := ih (n / 2)
    rw [reflect, Nat.pow_succ]
    omega

theorem crc_lt {w poly init xorout : Nat} (hp : poly < 2 ^ w) (hi : init < 2 ^ w) (hx : xorout < 2 ^ w) (refin refout : Bool)
    (p : Bytes) : crc w poly init refin refout xorout p < 2 ^ w := by
  rw [crc]
  refine Nat.xor_lt_two_pow ?_ hx
  split
  · exact reflect_lt w _
  · exact crcRun_lt hp hi refin p

theorem crc16_lt (p : Bytes) : crc16 p < 2 ^ 16 := crc_lt (by decide) (by decide) (by decide) false false p

theorem crc32c_lt (p : Bytes) : crc32c p < 2 ^ 32 := crc_lt (by decide) (by decide) (by decide) true true p

/-! ### A frame and its check value -/

/-- R220: how many bytes of check value end a frame of a type. -/
def checkLen (type : Nat) : Nat := if type = 0x03 ∨ type = 0x05 then 4 else 2

/-- R219: the check value of `n` bytes over the header and the payload of a frame. -/
def checkValue (n : Nat) (body : Bytes) : Nat := if n = 4 then crc32c body else crc16 body

/-- R218: the header and the payload, followed by the check value that the type in the first byte fixes. -/
def withCheck (body : Bytes) : Bytes :=
  body ++ enc (checkLen (u8 body 0)) (checkValue (checkLen (u8 body 0)) body)

/-- A check value fits the bytes that carry it. -/
theorem checkValue_lt (type : Nat) (body : Bytes) : checkValue (checkLen type) body < 2 ^ (8 * checkLen type) := by
  rw [checkLen]
  split
  · simpa [checkValue] using crc32c_lt body
  · simpa [checkValue] using crc16_lt body

/-- R231 checks 4 to 6, by the length and the value of the check. -/
theorem frameFault_eq (symOk : Bool) (f : Bytes) (t a q : Nat) (lenOk : Nat → Bool) :
    frameFault symOk f t a q lenOk =
      if !symOk then some 4
      else if f.length < 3 + checkLen (u8 f 0) then some 5
      else if uLE f (f.length - checkLen (u8 f 0)) (checkLen (u8 f 0)) ≠
          checkValue (checkLen (u8 f 0)) (f.take (f.length - checkLen (u8 f 0))) then some 5
      else if u8 f 0 ≠ t ∨ u8 f 1 ≠ a ∨ u8 f 2 ≠ q ∨ !(lenOk (f.length - checkLen (u8 f 0) - 3)) then some 6
      else none := rfl

/-- A byte reads the same whatever follows it. -/
theorem u8_append_left {a b : Bytes} {o : Nat} (h : o < a.length) : u8 (a ++ b) o = u8 a o := by
  rw [u8_eq_uLE, u8_eq_uLE, uLE_append_left h]

/-- A frame that ends in its own check value passes the CRC check: what can fail is a symbol or the header. -/
theorem frameFault_withCheck {body : Bytes} (hb : 3 ≤ body.length) (symOk : Bool) (t a q : Nat) (lenOk : Nat → Bool) :
    frameFault symOk (withCheck body) t a q lenOk =
      if !symOk then some 4
      else if u8 body 0 ≠ t ∨ u8 body 1 ≠ a ∨ u8 body 2 ≠ q ∨ !lenOk (body.length - 3) then some 6
      else none := by
  have hfit := checkValue_lt (u8 body 0) body
  have h0 : u8 (withCheck body) 0 = u8 body 0 := u8_append_left (by omega)
  have h1 : u8 (withCheck body) 1 = u8 body 1 := u8_append_left (by omega)
  have h2 : u8 (withCheck body) 2 = u8 body 2 := u8_append_left (by omega)
  have hlen : (withCheck body).length = body.length + checkLen (u8 body 0) := by rw [withCheck, List.length_append, enc_length]
  have htake : (withCheck body).take body.length = body := List.take_left
  have hcrc : uLE (withCheck body) body.length (checkLen (u8 body 0)) = checkValue (checkLen (u8 body 0)) body :=
    uLE_append_enc rfl hfit
  rw [frameFault_eq, h0, h1, h2, hlen, Nat.add_sub_cancel, htake, hcrc, if_neg (show ¬ _ < _ by omega),
    if_neg (not_not_intro rfl)]

/-! ### The frame that R218 builds -/

/-- R218: the three header bytes and the payload. -/
def frameBody (type addr sq : Nat) (p : Bytes) : Bytes := [byteOf type, byteOf addr, byteOf sq] ++ p

@[simp] theorem frameBody_length (type addr sq : Nat) (p : Bytes) : (frameBody type addr sq p).length = p.length + 3 := by
  rw [frameBody, List.length_append, Nat.add_comm]
  rfl

theorem frameBody_type {type : Nat} (h : type < 256) (addr sq : Nat) (p : Bytes) : u8 (frameBody type addr sq p) 0 = type :=
  Nat.mod_eq_of_lt h

theorem frameBody_addr {addr : Nat} (h : addr < 256) (type sq : Nat) (p : Bytes) : u8 (frameBody type addr sq p) 1 = addr :=
  Nat.mod_eq_of_lt h

theorem frameBody_sequence {sq : Nat} (h : sq < 256) (type addr : Nat) (p : Bytes) : u8 (frameBody type addr sq p) 2 = sq :=
  Nat.mod_eq_of_lt h

theorem mkFrame_eq_withCheck {type : Nat} (h : type < 256) (addr sq : Nat) (p : Bytes) :
    mkFrame type addr sq p = withCheck (frameBody type addr sq p) := by
  rw [withCheck, frameBody_type h, mkFrame, checkLen]
  split
  · rw [checkValue, if_pos rfl, e32, frameBody]
  · rw [checkValue, if_neg (by decide), e16, frameBody]

/-- R231 of a frame of R218: the symbols, then the header and the payload length against what is expected. -/
theorem frameFault_mkFrame {type addr sq : Nat} (ht : type < 256) (ha : addr < 256) (hq : sq < 256) (p : Bytes) (symOk : Bool)
    (t a q : Nat) (lenOk : Nat → Bool) :
    frameFault symOk (mkFrame type addr sq p) t a q lenOk =
      if !symOk then some 4
      else if type ≠ t ∨ addr ≠ a ∨ sq ≠ q ∨ !lenOk p.length then some 6
      else none := by
  rw [mkFrame_eq_withCheck ht, frameFault_withCheck (by simp), frameBody_type ht, frameBody_addr ha, frameBody_sequence hq,
    frameBody_length, Nat.add_sub_cancel]

end Sys2Proof.Machine

open Sys2Proof Sys2Proof.Machine

/-- Settles O57: the CRC of a frame fits its bytes and reads back, so only the symbols and the header are left to judge. -/
theorem framesPassTheirOwnChecks : Obligations.FramesPassTheirOwnChecks := by
  unfold Obligations.FramesPassTheirOwnChecks
  intro type addr sq p lenOk ht ha hq hlen
  refine ⟨?passes, ?symbol, ?header⟩
  case passes => simp [frameFault_mkFrame ht ha hq, hlen]
  case symbol => exact frameFault_mkFrame ht ha hq p false type addr sq lenOk
  case header =>
    intro t a q hne
    have hbad : type ≠ t ∨ addr ≠ a ∨ sq ≠ q ∨ !lenOk p.length := by
      by_contra hgood
      push Not at hgood
      obtain ⟨rfl, rfl, rfl, -⟩ := hgood
      exact hne rfl
    rw [frameFault_mkFrame ht ha hq]
    exact if_pos hbad
end

section
/-! SUPPORT. Commands of the arms, the zones, the safety part and the capture part. ARM_OVERRIDE and ARM_PAYLOAD are planned,
but only axes and virtual masters note what a plan finds in force (R60, R157). -/

namespace Sys2Proof.Machine

/-- R60, R157: a command on neither an axis nor a virtual master is carried out on the device as it stands. -/
theorem Spec.carry_unnoted {sp : Spec} {c : Cmd} (ha : c.cls ≠ 0x01) (hv : c.cls ≠ 0x12) (d : Dev) :
    sp.carry c d = sp.apply c d := by
  have hn : d.notePlan c = d := by rw [Dev.notePlan, if_neg ha, if_neg hv]
  rcases sp.carry_cases c d with h | h
  · exact h
  · rw [h, hn]

/-- A command on arms, planned or not, is carried out on the device as it stands. -/
theorem Spec.carry_arm {sp : Spec} {c : Cmd} (h : c.cls ∈ [0x02]) (d : Dev) : sp.carry c d = sp.apply c d := by
  have hc : c.cls = 0x02 := List.mem_singleton.mp h
  exact Spec.carry_unnoted (by omega) (by omega) d

/-- A row that is not planned keeps the frame that its effect keeps on every device. -/
theorem frame_of_unplanned {part : Dev → Dev → Dev} {i : Instr} {sp : Spec} {c : Cmd} (hp : TakesPart part)
    (hi : rowPacket i = some (sp, c)) (hn : (sp.timing == .plan) = false)
    (he : ∀ d : Dev, (sp.apply c d).dev = part d (sp.apply c d).dev) : Frame part i :=
  frame_of_carry hp hi fun d _ _ => by
    rw [Spec.carry_unplanned hn]
    exact he d

/-- A row whose command, as it is carried out, is on one entry of a list keeps the frame of that list, and every other entry
of it. -/
theorem entryFrame_of_carry {α : Type} {part : Dev → Dev → Dev} {get : Dev → List α} {on : Dev → Nat → (α → α) → Dev} {n : Nat}
    {i : Instr} {sp : Spec} {c : Cmd} (ht : TableOf part get on) (hi : rowPacket i = some (sp, c))
    (he : ∀ d, c.cls ∈ sp.classes → AtMostEntry on n d (sp.carry c d).dev) : Frame part i ∧ OnlyEntry get n i := by
  refine ⟨frame_of_carry ht.toTakesPart hi fun d _ hc => (he d hc).part_eq ht, fun s t k h hk => ?_⟩
  rw [exec_of_rowPacket hi] at h
  cases h
  rcases State.run_dev s sp c with ⟨fl, r, j, a, b, hd⟩ | ⟨hc, fl, r, j, a, b, hd⟩
  · have hb : (s.run sp c).dev = s.fresh.dev.rebook fl r j a b := hd
    rw [hb, ht.get_rebook, ht.get_fresh]
  · have hb : (s.run sp c).dev = (sp.carry c s.fresh.dev).dev.rebook fl r j a b := hd
    rw [hb, ht.get_rebook, (he s.fresh.dev hc).get_other ht hk, ht.get_fresh]

/-- The arms. -/
theorem tableOf_arms : TableOf (fun b e => { b with arms := e.arms }) Dev.arms Dev.onArm :=
  ⟨⟨fun _ => rfl, fun _ _ _ _ _ _ _ => rfl⟩, fun _ _ _ => rfl, fun _ _ _ => rfl, fun _ _ _ _ _ _ => rfl, fun _ => rfl⟩

/-- The zones. -/
theorem tableOf_zones : TableOf (fun b e => { b with zones := e.zones }) Dev.zones Dev.onZone :=
  ⟨⟨fun _ => rfl, fun _ _ _ _ _ _ _ => rfl⟩, fun _ _ _ => rfl, fun _ _ _ => rfl, fun _ _ _ _ _ _ => rfl, fun _ => rfl⟩

theorem takesPart_claims : TakesPart (fun b e => { b with claims := e.claims }) :=
  ⟨fun _ => rfl, fun _ _ _ _ _ _ _ => rfl⟩

theorem takesPart_saf : TakesPart (fun b e => { b with saf := e.saf }) := ⟨fun _ => rfl, fun _ _ _ _ _ _ _ => rfl⟩

theorem takesPart_cap : TakesPart (fun b e => { b with cap := e.cap }) := ⟨fun _ => rfl, fun _ _ _ _ _ _ _ => rfl⟩

theorem takesPart_pfs_cap : TakesPart (fun b e => { b with pfs := e.pfs, cap := e.cap }) :=
  ⟨fun _ => rfl, fun _ _ _ _ _ _ _ => rfl⟩

/-- A row whose effect is on one arm keeps the frame of the arms, and every other arm. -/
theorem armFrame_of_apply {i : Instr} {sp : Spec} {c : Cmd} (hi : rowPacket i = some (sp, c)) (hc : sp.classes = [0x02])
    (he : ∀ d, AtMostEntry Dev.onArm c.idx d (sp.apply c d).dev) :
    Frame (fun b e => { b with arms := e.arms }) i ∧ OnlyEntry Dev.arms c.idx i :=
  entryFrame_of_carry tableOf_arms hi fun d h => by
    rw [Spec.carry_arm (hc ▸ h)]
    exact he d

section
variable (c : Cmd) (d : Dev)

/-- R299, R305: a release of zones that the host does not hold changes nothing; else it joins the requests. -/
theorem specZoneRelease_dev : (specZoneRelease.apply c d).dev = { d with claims := (specZoneRelease.apply c d).dev.claims } := by
  unfold specZoneRelease
  dsimp only
  split <;> rfl

/-- R369: a channel that is idle, with no reservation to release, stays as it is. -/
theorem specCapStop_dev : (specCapStop.apply c d).dev = { d with cap := (specCapStop.apply c d).dev.cap } := by
  unfold specCapStop
  dsimp only
  split <;> rfl

/-- R358, R369: a ring that is off stays off; else it is set up anew, and its engine's landing settles. -/
theorem specFlumeRingConfigure_dev :
    (specFlumeRingConfigure.apply c d).dev = { d with cap := (specFlumeRingConfigure.apply c d).dev.cap } := by
  unfold specFlumeRingConfigure
  dsimp only
  split <;> rfl

/-- R363: a registration starts or ends with its latch, where it is configured and not already so. -/
theorem specRegEnable_dev : (specRegEnable.apply c d).dev =
    { d with pfs := (specRegEnable.apply c d).dev.pfs, cap := (specRegEnable.apply c d).dev.cap } := by
  unfold specRegEnable
  dsimp only
  split
  · rfl
  · split
    · split <;> rfl
    · rfl

end

end Sys2Proof.Machine

open Sys2Proof Sys2Proof.Machine

/-- Settles O28: each effect on an arm or a zone is one update of it; three other commands may find nothing to change, and
REG_ENABLE takes the latch of its registration along. -/
theorem armSafetyCaptureFrame : Obligations.ArmSafetyCaptureFrame := by
  unfold Obligations.ArmSafetyCaptureFrame
  refine ⟨fun c => ?arms, fun c => ?zones, fun c => ?claims, fun c => ?safety, fun c => ?capture, fun c => ?registration⟩
  all_goals simp only [List.forall_mem_cons, List.not_mem_nil, IsEmpty.forall_iff, implies_true, and_true]
  case arms =>
    refine ⟨?configure, ?capsules, ?tools, ?stopModel, ?yard, ?append, ?pathReset, ?override, ?payload, ?flags⟩
    all_goals exact armFrame_of_apply rfl rfl fun _ => .inr ⟨_, rfl⟩
  case zones => exact entryFrame_of_apply tableOf_zones rfl rfl fun _ => .inr ⟨_, rfl⟩
  case claims =>
    refine ⟨?claim, ?release⟩
    case claim => exact frame_of_unplanned takesPart_claims rfl rfl fun _ => rfl
    case release => exact frame_of_unplanned takesPart_claims rfl rfl (specZoneRelease_dev c)
  case safety =>
    refine ⟨?output, ?compartment⟩
    all_goals exact frame_of_unplanned takesPart_saf rfl rfl fun _ => rfl
  case capture =>
    refine ⟨?trigger, ?pin, ?channel, ?arm, ?stop, ?landing, ?flume, ?registers, ?counters⟩
    case stop => exact frame_of_unplanned takesPart_cap rfl rfl (specCapStop_dev c)
    case flume => exact frame_of_unplanned takesPart_cap rfl rfl (specFlumeRingConfigure_dev c)
    all_goals exact frame_of_unplanned takesPart_cap rfl rfl fun _ => rfl
  case registration => exact frame_of_unplanned takesPart_pfs_cap rfl rfl (specRegEnable_dev c)

/-- R337: the three fields are stored, and the compartment is no longer committed. -/
theorem safetyCompartmentConfigure_sets : Sets .safetyCompartmentConfigure specSafetyCompartmentConfigure (fun d => d.saf.comps)
    (fun c d => upd d.saf.comps c.idx (fun (k : SafCmp) =>
      { k with latency := u32 c.payload 0, vhMin := u16 c.payload 4, release := u8 c.payload 6, committed := false })) :=
  sets_of_apply (fun _ => rfl) rfl (fun _ _ _ _ _ _ => rfl) (fun _ _ => rfl) fun _ _ => upd_upd _ _ _ _

/-- Settles O34: each effect is one update of the arm, planned or not, a request added, or two updates of one compartment. -/
theorem armAndSafetyCommandsTakeEffect : Obligations.ArmAndSafetyCommandsTakeEffect := by
  unfold Obligations.ArmAndSafetyCommandsTakeEffect
  refine ⟨?configure, ?capsules, ?tools, ?stopModel, ?override, ?payload, ?pathReset, ?flags, ?claim, ?compartment⟩
  case override | payload =>
    refine sets_of_carry (fun _ => rfl) (fun _ _ _ _ _ _ => rfl) (fun _ _ => rfl) fun c d h => ?_
    rw [Spec.carry_arm h]
    rfl
  case compartment =>
    intro s c h hi
    obtain ⟨t, ht, hcomps⟩ := safetyCompartmentConfigure_sets s c h
    have hk : t.dev.safCmp c.idx =
        { s.dev.safCmp c.idx with latency := u32 c.payload 0, vhMin := u16 c.payload 4, release := u8 c.payload 6, committed := false } := by
      simp [Dev.safCmp, hcomps, upd, hi]
    exact ⟨t, ht, by rw [hk], by rw [hk], by rw [hk], by rw [hk]⟩
  all_goals exact sets_of_apply (fun _ => rfl) rfl (fun _ _ _ _ _ _ => rfl) (fun _ _ => rfl) fun _ _ => rfl
end

section
/-! SUPPORT. Rows of the control space, of safety and of the compartments: each finds its objects and its conditions on the
device as it stood, and takes its one branch. -/

namespace Sys2Proof.Machine

/-- A row of the control space gives its step, on a port that is up and is not H2. -/
theorem givesCtl_of_ctl {s : State} {i : Instr} {p : Nat} {f : State → State} (hi : exec i s = .next (s.ctl p f))
    (hp : s.dev.portUp p = true) (h2 : p ≠ 2) : GivesCtl s i f := by
  rcases State.ctl_cases s p f with ⟨_, _, e⟩ | ⟨hn | hn, _⟩
  · rw [GivesCtl, hi, e]
  · simp [hp] at hn
  · exact absurd hn h2

section
variable (s : State) (n : Nat)

@[simp] theorem State.fresh_dev_safIn : s.fresh.dev.safIn n = s.dev.safIn n := rfl
@[simp] theorem State.fresh_dev_safArm : s.fresh.dev.safArm n = s.dev.safArm n := rfl
@[simp] theorem State.fresh_dev_safCmp : s.fresh.dev.safCmp n = s.dev.safCmp n := rfl
@[simp] theorem State.fresh_dev_arm : s.fresh.dev.arm n = s.dev.arm n := rfl
@[simp] theorem State.fresh_dev_owner (cls : Nat) : s.fresh.dev.owner cls n = s.dev.owner cls n := rfl
@[simp] theorem State.fresh_dev_jointArm : s.fresh.dev.jointArm n = s.dev.jointArm n := rfl
@[simp] theorem State.fresh_dev_demanded : s.fresh.dev.demanded n = s.dev.demanded n := rfl
@[simp] theorem State.fresh_dev_vec (p : Nat) : s.fresh.dev.vec p n = s.dev.vec p n := rfl

end

/-! ### Owners and bindings are no part of safety -/

section
variable (d : Dev) (cls n : Nat)

@[simp] theorem Dev.owner_onSafIn (i : Nat) (f : SafIn → SafIn) : (d.onSafIn i f).owner cls n = d.owner cls n := rfl
@[simp] theorem Dev.owner_onSafAx (i : Nat) (f : SafAx → SafAx) : (d.onSafAx i f).owner cls n = d.owner cls n := rfl
@[simp] theorem Dev.owner_onSafOut (i : Nat) (f : SafOut → SafOut) : (d.onSafOut i f).owner cls n = d.owner cls n := rfl
@[simp] theorem Dev.owner_saf (x : Saf) : ({ d with saf := x } : Dev).owner cls n = d.owner cls n := rfl
@[simp] theorem Dev.stageAxis_saf (x : Saf) : ({ d with saf := x } : Dev).stageAxis n = d.stageAxis n := rfl

end

end Sys2Proof.Machine

open Sys2Proof Sys2Proof.Machine

/-- Settles O38: ten rows are a step of the control space of their port; two are steps of the running device. -/
theorem controlSpaceRowsComplete : Obligations.ControlSpaceRowsComplete := by
  unfold Obligations.ControlSpaceRowsComplete
  refine ⟨?create, ?delete, ?sq, ?cq, ?yard, ?flume, ?claim, ?complete, ?ack, ?register, ?irq, ?msix⟩
  case create | delete | claim => exact fun _ _ hp h2 => givesCtl_of_ctl rfl hp h2
  case complete => exact fun _ _ _ hp h2 => givesCtl_of_ctl rfl hp h2
  case sq | cq | yard | ack | register => exact fun _ _ _ _ hp h2 => givesCtl_of_ctl rfl hp h2
  case flume => exact fun _ _ _ _ _ hp h2 => givesCtl_of_ctl rfl hp h2
  case irq => exact fun _ _ _ hr => gives_of_live rfl hr rfl
  case msix => exact fun _ _ _ hr hp => gives_of_live rfl hr (if_pos hp)

/-- Settles O47: three rows have no condition; a row that concerns an owner, an axis or a migration finds it; each other row
has the conditions that its rule names. -/
theorem safetyAndCompartmentRowsComplete : Obligations.SafetyAndCompartmentRowsComplete := by
  unfold Obligations.SafetyAndCompartmentRowsComplete
  refine ⟨?input, ?discrepancy, ?pulse, ?stuck, ?position, ?output, ?switch, ?demand, ?ss1Arm, ?ss1Axis, ?watchdog, ?protective,
    ?yard, ?coalesce, ?event, ?release, ?timeout, ?quiesce⟩
  case input => exact fun _ _ _ _ hr => gives_of_live rfl hr rfl
  case yard => exact fun _ _ _ hr => gives_of_live rfl hr rfl
  case event => exact fun _ _ hr => gives_of_live rfl hr rfl
  case discrepancy => exact fun _ _ hr hd hf => gives_of_live rfl hr (by simp [hd, hf])
  case pulse => exact fun _ _ _ _ hr hk hp ho ha => gives_of_live rfl hr (by simp [hk, hp, ho, ha])
  case stuck => exact fun _ _ _ hr hk hp hs ho => gives_of_live rfl hr (by simp [hk, hp, hs, ho])
  case position => exact fun _ _ hr h1 hd => gives_of_live rfl hr (if_pos ⟨h1, hd⟩)
  case output => exact fun _ _ _ hr ho => gives_of_live rfl hr (by simp [ho])
  case switch =>
    -- For any device `d` rather than that of a fresh state, the changed safety part keeps the shape of the laws above.
    intro s stage k i hr hi ho
    have hi' : s.fresh.dev.stageAxis stage.val = some i := hi
    have ho' : s.fresh.dev.owner 0x05 stage.val = some k := ho
    refine gives_of_live rfl hr ?_
    generalize s.fresh.dev = d at hi' ho'
    simp [hi', ho']
  case demand => exact fun _ _ hr hd hj => gives_of_live rfl hr (by simp [hd, hj])
  case ss1Arm | ss1Axis => exact fun _ _ hr h => gives_of_live rfl hr (if_pos h)
  case watchdog => exact fun _ _ hr hm => gives_of_live rfl hr (if_pos hm)
  case protective => exact fun _ _ _ hr ho hc hp hb => gives_of_live rfl hr (by simp [ho, hc, hp, hb])
  case coalesce => exact fun _ _ _ hr ht hn hh => gives_of_live rfl hr (by simp [ht, hn, hh])
  case release | timeout => exact fun _ _ hr hb => gives_of_live rfl hr (if_neg hb)
  case quiesce => exact fun _ _ hr hm hq => gives_of_live rfl hr (by simp [hm, hq])
end

section
/-! SUPPORT. Commands of cell time, check values, triggers and registration, and rows of the capture part and the field
inputs and outputs. -/

namespace Sys2Proof.Machine

@[simp] theorem State.fresh_dev_trig (s : State) (n : Nat) : s.fresh.dev.trig n = s.dev.trig n := rfl

/-- R343, R344: a value at the input of a unit that is configured, for none of the kinds with ways in of their own (R345,
R346, R353). -/
theorem triggerInput_gives {s : State} {unit : Fin 128} {g : TrigCfg} (value : Int) (ns : Nat) (hr : s.dev.running = true)
    (hg : (s.dev.trig unit.val).cfg = some g) (h3 : g.kind ≠ 3) (h4 : g.kind ≠ 4) (h5 : g.kind ≠ 5) :
    Gives s (.triggerInput unit value ns) (fun d => d.unitInput unit.val value (d.at_ ns)) := by
  have hk : ¬ (g.kind = 3 ∨ g.kind = 4 ∨ g.kind = 5) := by omega
  exact gives_of_live rfl hr (by simp [hg, hk])

/-- R344: the time of a configured unit runs out, as the unit stands. -/
theorem triggerTimeout_gives {s : State} {unit : Fin 128} {g : TrigCfg} (ns : Nat) (hr : s.dev.running = true)
    (hg : (s.dev.trig unit.val).cfg = some g) :
    Gives s (.triggerTimeout unit ns) (fun d => d.unitStep unit.val ((s.dev.trig unit.val).expire g (d.at_ ns))) :=
  gives_of_live rfl hr (by simp [hg])

/-- R341: a code of 12 bits is taken as it is. -/
theorem markInputSample_gives {s : State} {input : Fin 16} {code : Nat} (ns : Nat) (hr : s.dev.running = true)
    (hc : code ≤ 4095) :
    Gives s (.markInputSample input code ns) (fun d =>
      let y := d.feedUnits 0 input.val (code : Nat) (d.at_ ns)
      { y with cap := y.cap.feed 0 input.val code (e32 code ++ e32 0) (0x20 * b2n (code == 0 || code == 4095)) (d.at_ ns) }) :=
  gives_of_live rfl hr (by simp only [Nat.min_eq_left hc])

end Sys2Proof.Machine

open Sys2Proof Sys2Proof.Machine

/-- Settles O36: each effect is one update of the cell time or of one unit, or a reply on the device as it stands. -/
theorem timeAndCaptureCommandsTakeEffect : Obligations.TimeAndCaptureCommandsTakeEffect := by
  unfold Obligations.TimeAndCaptureCommandsTakeEffect
  refine ⟨?rate, ?latency, ?crcConfigure, ?crcClear, ?registration, ?trigger, ?query⟩
  case query => exact replies_of_apply (fun _ => rfl) rfl (fun _ _ => rfl) fun _ _ => rfl
  all_goals exact sets_of_apply (fun _ => rfl) rfl (fun _ _ _ _ _ _ => rfl) (fun _ _ => rfl) fun _ _ => rfl

/-- Settles O45: a trigger row finds its unit configured, an edge differs from the level of its input pin, a sample is a
12-bit code and a dip lies below its threshold; the other rows are their effect without a condition. -/
theorem captureAndFieldRowsComplete : Obligations.CaptureAndFieldRowsComplete := by
  unfold Obligations.CaptureAndFieldRowsComplete
  refine ⟨?trigger, ?timeout, ?pulse, ?post, ?window, ?flush, ?copy, ?ring, ?di, ?dipBegin, ?dipEnd, ?supply, ?overload, ?retry,
    ?wire, ?hot, ?pin, ?mark, ?cleared⟩
  case trigger => exact fun _ _ value ns _ hr hg h3 h4 h5 => triggerInput_gives value ns hr hg h3 h4 h5
  case timeout => exact fun _ _ ns _ hr hg => triggerTimeout_gives ns hr hg
  case dipBegin => exact fun _ _ hr hv => gives_of_live rfl hr (if_pos hv)
  case pin => exact fun _ _ _ _ hr hd hl => gives_of_live rfl hr (if_neg (not_or.mpr ⟨not_not_intro hd, hl⟩))
  case mark => exact fun _ _ _ ns hr hc => markInputSample_gives ns hr hc
  case post | window | dipEnd | supply | retry | cleared => exact fun _ _ hr => gives_of_live rfl hr rfl
  case pulse | flush | copy | ring | hot => exact fun _ _ _ hr => gives_of_live rfl hr rfl
  case di | wire => exact fun _ _ _ _ hr => gives_of_live rfl hr rfl
  case overload => exact fun _ _ hr _ => gives_of_live rfl hr rfl
end

section
/-! SUPPORT. Block resets (R381, R382): commands that wait for an event finish, the states of the blocks, and a command that
finds nothing to change. -/

namespace Sys2Proof.Machine

/-! ### Commands that wait for an event -/

section
variable {d : Dev} {p : Hold → Bool} {status detail : Nat} {result : Bytes} {eff : Option Nat}

/-- R51: a command that waits for the event has finished with the event's status. -/
theorem Dev.finishHold_finishes {f : Flight} (hf : f ∈ d.nov.flights) (hs : f.stage = .hold) (hp : p f.hold = true) :
    ∃ g ∈ (d.finishHold p status detail result eff).nov.flights, g.cmd = f.cmd ∧ g.stage = .post ∧ g.status = status := by
  have hit : f ∈ d.nov.flights.filter (fun (x : Flight) => x.stage == .hold && p x.hold) :=
    List.mem_filter.mpr ⟨hf, by simp [hs, hp]⟩
  exact ⟨_, List.mem_append_right _ (List.mem_map_of_mem hit), rfl, rfl, rfl⟩

/-- No command waits for the event any more: those that stay are those that did not wait for it. -/
theorem Dev.finishHold_leaves_none {f : Flight} (hf : f ∈ (d.finishHold p status detail result eff).nov.flights) :
    ¬ (f.stage = .hold ∧ p f.hold = true) := by
  rintro ⟨hs, hp⟩
  rcases List.mem_append.mp hf with hstay | hdone
  · have hn := (List.mem_filter.mp hstay).2
    simp [hs, hp] at hn
  · obtain ⟨_, _, rfl⟩ := List.mem_map.mp hdone
    cases hs

end

/-! ### The states of the blocks -/

section
variable {d : Dev} {b : Nat}

@[simp] theorem Dev.setBlock_blocks_length (x : Nat) : (d.setBlock b x).cps.blocks.length = d.cps.blocks.length :=
  List.length_set

theorem Dev.block_setBlock (h : b < d.cps.blocks.length) (x : Nat) : (d.setBlock b x).block b = x := by
  simp [Dev.block, Dev.setBlock, h]

/-- Causes on compartments are no part of the blocks. -/
@[simp] theorem Dev.block_compEvents (ks : List Nat) (n : Nat) : (d.compEvents ks n).block b = d.block b :=
  foldl_keeps (f := fun (x : Dev) (k : Nat) => x.compEvent k n) (fun (x : Dev) => x.block b) (fun _ _ => rfl) ks d

end

section
variable {s : State} {b : Fin 56} (hr : s.dev.running = true) (hb : s.dev.block b.val ≠ 0)
include hr hb

/-- R382: the commands that wait for the reset of a block still in reset end; the block goes on waiting. -/
theorem blockResetTimeout_gives : Gives s (.blockResetTimeout b) (fun d =>
    (d.setBlock b.val 2).finishHold (fun (h : Hold) => h == .block b.val) ST.timeout 0 [] none) :=
  gives_of_live rfl hr (if_neg hb)

/-- R381: a block in reset opens at its release, whichever way it waited. -/
theorem blockRelease_opens (hl : b.val < s.dev.cps.blocks.length) :
    ∃ u, exec (.blockRelease b) s = .next u ∧ u.dev.block b.val = 0 :=
  have hg : Gives s (.blockRelease b) (fun d =>
      ((d.setBlock b.val 0).finishHold (fun (h : Hold) => h == .block b.val) ST.ok 0 [] none).compEvents
        (d.blockUsers b.val) 3) := gives_of_live rfl hr (if_neg hb)
  ⟨_, hg, (Dev.block_compEvents _ 3).trans (Dev.block_setBlock (d := s.fresh.dev) hl 0)⟩

end

/-! ### A command that finds nothing to change -/

/-- R46: an accepted command that only says a status has finished with it in this stroke, and leaves all but its
bookkeeping. -/
theorem State.run_says {s : State} {sp : Spec} {c : Cmd} {status : Nat} (h : s.accepts sp c = true)
    (hc : sp.carry c s.fresh.dev = s.fresh.dev.says status) :
    (s.run sp c).dev = s.dev.booked (s.run sp c).dev ∧
    ∃ fl : Flight, (s.run sp c).dev.nov.flights = s.dev.nov.flights ++ [fl] ∧ fl.cmd = c ∧ fl.stage = .post ∧
      fl.status = status ∧ fl.eff = s.dev.stk.number := by
  constructor
  · obtain ⟨fl, r, t, a, b, e⟩ := State.run_accepted_dev h
    rw [e, hc]
    rfl
  · rw [State.run_accepted h, State.after, State.withDev_dev, Dev.consume_nov, hc]
    exact ⟨_, rfl, rfl, rfl, rfl, rfl⟩

end Sys2Proof.Machine

open Sys2Proof Sys2Proof.Machine

/-- Settles O51: the time-out finishes what waits for the block and sets its state to `reset_pending_clock`, which its release
opens like any reset; a second reset only says `ST_OK_NO_CHANGE`. -/
theorem blockResetTimeout : Obligations.BlockResetTimeout := by
  unfold Obligations.BlockResetTimeout
  refine ⟨fun s b hr hlen hb => ?timeout, fun s c h hb => ?second⟩
  case timeout =>
    have hl : b.val < s.dev.cps.blocks.length := b.isLt.trans_eq hlen.symm
    have hpend := Dev.block_setBlock (d := s.fresh.dev) hl 2
    refine ⟨_, blockResetTimeout_gives hr hb, hpend, ?finished, ?noneWaits, ?release⟩
    case finished => exact fun f hf hs hw => Dev.finishHold_finishes hf hs (beq_iff_eq.mpr hw)
    case noneWaits => exact fun f hf ⟨hs, hw⟩ => Dev.finishHold_leaves_none hf ⟨hs, beq_iff_eq.mpr hw⟩
    case release =>
      have hlen2 : (s.fresh.dev.setBlock b.val 2).cps.blocks.length = s.dev.cps.blocks.length := Dev.setBlock_blocks_length 2
      exact blockRelease_opens hr (hpend.trans_ne (by decide)) (hl.trans_eq hlen2.symm)
  case second =>
    have hsays : specBlockReset.apply c s.fresh.dev = s.fresh.dev.says ST.noChange := if_pos hb
    obtain ⟨hdev, fl, hfl⟩ := State.run_says h ((Spec.carry_unplanned rfl c _).trans hsays)
    exact ⟨_, fl, exec_of_rowPacket rfl s, hdev, hfl⟩
end

section
/-! SUPPORT. What a row leaves beside the device: the queue, what the outlook shows, and the form of the ring-area memory. Only
the slack start and the starts of the device show anything new (R401, R480). -/

namespace Sys2Proof.Machine

theorem memOk_of_mem_eq {s t : State} (h : t.mem = s.mem) (hs : s.memOk) : t.memOk := by
  rwa [State.memOk, h]

/-- Beside the device, `t` has the queue of `s` and shows what `s` shows; its ring-area memory is canonical where that of `s`
is. -/
structure Leaves (s t : State) : Prop where
  pending : t.pending = s.pending
  shown : t.shown = s.shown
  mem : s.memOk → t.memOk

namespace Leaves

theorem refl (s : State) : Leaves s s := ⟨rfl, rfl, id⟩

theorem trans {s t u : State} (h : Leaves s t) (k : Leaves t u) : Leaves s u :=
  ⟨k.pending.trans h.pending, k.shown.trans h.shown, k.mem ∘ h.mem⟩

/-- A change of the device. -/
theorem dev (s : State) (d : Dev) : Leaves s { s with dev := d } := ⟨rfl, rfl, id⟩

/-- A change of the ring-area memory that keeps its form, with one of the device. -/
theorem write (s : State) (d : Dev) {m : List Host.Cell} (h : Memory.wf s.mem = true → Memory.wf m = true) :
    Leaves s { s with dev := d, mem := m } := ⟨rfl, rfl, h⟩

theorem ite {s t u : State} {p : Prop} [Decidable p] (ht : Leaves s t) (hu : Leaves s u) : Leaves s (if p then t else u) := by
  split
  · exact ht
  · exact hu

/-- What every step of a fold leaves the fold leaves. -/
theorem foldl {α β : Type} (get : α → State) {f : α → β → α} (hf : ∀ a x, Leaves (get a) (get (f a x))) (l : List β) (a : α) :
    Leaves (get a) (get (l.foldl f a)) := by
  induction l generalizing a with
  | nil => exact refl _
  | cons x r ih => exact (hf a x).trans (ih (f a x))

/-- What a state that the row answers has left, the row leaves. -/
theorem of_next {i : Instr} {s t : State} (ht : exec i s = .next t) (h : ∃ u, exec i s = .next u ∧ Leaves s u) :
    Leaves s t := by
  obtain ⟨u, hu, hl⟩ := h
  cases hu.symm.trans ht
  exact hl

end Leaves

section
variable (s : State)

/-! ### Packets, steps of the device and steps of the control space -/

theorem State.run_leaves (sp : Spec) (c : Cmd) : Leaves s (s.run sp c) :=
  ⟨s.run_pending sp c, s.run_shown sp c, memOk_of_mem_eq (s.run_mem sp c)⟩

theorem State.live_leaves (f : Dev → Dev) : Leaves s (s.live f) :=
  ⟨s.live_pending f, s.live_shown f, memOk_of_mem_eq (s.live_mem f)⟩

variable {s} in
theorem State.ctl_leaves {p : Nat} {f : State → State} (hf : ∀ t, Leaves t (f t)) : Leaves s (s.ctl p f) := by
  rcases State.ctl_cases s p f with ⟨_, _, e⟩ | ⟨_, e⟩ <;> rw [e]
  · exact (Leaves.dev s _).trans (hf s.fresh)
  · exact Leaves.dev s _

/-! ### The control space (R397, R398) -/

theorem State.memWrite_leaves (a v : Nat) : Leaves s (s.memWrite a v) := Leaves.write s s.dev (Memory.wf_writeN a (e32 v))

/-- R398: a submission doorbell reads the ring and changes the device alone. -/
theorem State.sqDoorbell_leaves (p n tail : Nat) : Leaves s (s.sqDoorbell p n tail) := by
  unfold State.sqDoorbell
  refine .ite (.dev s _) (.ite (.dev s _) (.ite ?_ (.dev s _)))
  split
  · exact .ite (.dev s _) (.dev s _)
  · exact .dev s _

/-- R397, R398: a write of the control space reaches a register, a doorbell, or four bytes behind the ring window. -/
theorem State.ctlWrite_leaves (p off value : Nat) : Leaves s (s.ctlWrite p off value) := by
  unfold State.ctlWrite
  have reg {d : Dev} {t : State} {c : Prop} [Decidable c] (h : Leaves s t) : Leaves s (if c then { s with dev := d } else t) :=
    .ite (.dev s d) h
  have gate {d : Dev} {c : Prop} [Decidable c] : Leaves s (if c then { s with dev := d } else s) := reg (.refl s)
  -- A `reg` or a `gate` for each register and doorbell of the device, in the definition's order.
  exact .ite (.refl s) (reg <| reg <| reg <| reg <| reg <| reg <| reg <| reg <| .ite gate <| .ite gate <| .ite gate <|
    .ite gate <| .ite (.ite (s.sqDoorbell_leaves _ _ _) (.dev s _)) <| reg <| reg <| .ite gate <| reg <|
    .ite (s.memWrite_leaves _ _) (.refl s))

/-! ### Completions and the scanner (R41, R43, R406) -/

theorem State.completionDgram_leaves (ring first n : Nat) : Leaves s (s.completionDgram ring first n) :=
  Leaves.foldl id (fun _ _ => .dev _ _) _ s

theorem State.putEntry_leaves (r : Ring) (b : Bytes) : Leaves s (s.putEntry r b) :=
  .ite (.write s s.dev (Memory.wf_writeRing _ _ _ _ _ _)) (.dev s _)

/-- R51: a post writes its entry and sends what it must; a post that cannot go on changes the device at most. -/
theorem State.post_leaves (n : Nat) : Leaves s (s.post n) := by
  unfold State.post
  split
  · exact .refl s
  · refine .ite (.refl s) (.ite (.dev s _) ?_)
    refine .trans (((Leaves.trans ?data (State.putEntry_leaves _ _ _)).trans (.dev _ _)).trans
      (.ite (State.completionDgram_leaves _ _ _ _) (.refl _))) (.dev _ _)
    case data => split <;> exact .dev s _

theorem State.scanStep_leaves (dma : Option Bytes) : Leaves s (s.scanStep dma) := by
  unfold State.scanStep
  split
  · exact .dev s _
  · dsimp only
    split
    · exact .dev s _
    · refine .ite ?_ (.dev s _)
      split <;> exact .dev s _

/-! ### H2 (R405, R406) -/

theorem State.place_leaves (n : Nat) (p : Bytes) : Leaves s (s.place n p) := .write s _ (Memory.wf_writeRing _ _ _ _ _ _)

theorem State.h2Place_leaves (y : H2Session) (g : Bytes) : Leaves s (s.h2Place y g) := by
  unfold State.h2Place
  dsimp only
  split
  · exact .dev s _
  · exact .ite (.dev s _) (.ite (.dev s _)
      ((Leaves.dev s _).trans (Leaves.foldl id (fun t p => State.place_leaves t _ p) _ (s.h2Mark y))))

variable {s} in
/-- R403-R405: a datagram of the session leaves what its acceptance leaves. -/
theorem State.h2Take_leaves {source kind : Nat} {g : Bytes} {len : Nat → Bool} {f : H2Session → State → State}
    (hf : ∀ y t, Leaves t (f y t)) : Leaves s (s.h2Take source kind g len f) := by
  refine (Leaves.dev s _ : Leaves s s.fresh).trans ?_
  unfold State.h2Take
  dsimp only
  split
  · exact .refl _
  · refine .ite (.refl _) (.ite (.dev _ _) ?_)
    split
    · exact .dev _ _
    · exact hf _ _

/-! ### H3 (R409, R410) -/

theorem State.spiWord_leaves (a v : Nat) : Leaves s (s.spiWord a v).1 := by
  unfold State.spiWord
  split
  · exact s.ctlWrite_leaves 3 a v
  · split
    · exact s.memWrite_leaves _ v
    · exact .refl s

theorem State.spiApply_leaves (a : Nat) (data : Bytes) : Leaves s (s.spiApply a data) := by
  have hwords := Leaves.foldl Prod.fst (f := fun (x : State × Bool) (k : Nat) =>
    ((x.1.spiWord (a + 4 * k) (u32 data (4 * k))).1, x.2 && (x.1.spiWord (a + 4 * k) (u32 data (4 * k))).2))
    (fun x _ => x.1.spiWord_leaves _ _) (List.range (data.length / 4)) (s, true)
  exact .ite hwords (hwords.trans (.dev _ _))

end

/-! ### The rows -/

/-- R410: a write is applied word by word, or only counted. -/
theorem execH3Write_leaves (b : Bytes) (whole : Bool) (s : State) : ∃ t, execH3Write b whole s = .next t ∧ Leaves s t := by
  unfold execH3Write
  dsimp only
  split
  · exact ⟨_, rfl, .dev s _⟩
  · split
    · exact ⟨_, rfl, .dev s _⟩
    · split
      · exact ⟨_, rfl, .dev s _⟩
      · exact ⟨_, rfl, ((Leaves.dev s _).trans (State.spiApply_leaves _ _ _)).trans (.dev _ _)⟩

theorem execH3Read_leaves (b : Bytes) (sent : Bool) (s : State) : ∃ t, execH3Read b sent s = .next t ∧ Leaves s t := by
  unfold execH3Read
  dsimp only
  split
  · exact ⟨_, rfl, .dev s _⟩
  · split
    · exact ⟨_, rfl, .dev s _⟩
    · split <;> exact ⟨_, rfl, .dev s _⟩

/-- R467: a commit changes the device, and nothing below 6.7 V or outside a save. -/
theorem execSaveCommit_leaves (us mv : Nat) (s : State) : ∃ t, execSaveCommit us mv s = .next t ∧ Leaves s t := by
  unfold execSaveCommit
  dsimp only
  split
  · exact ⟨_, rfl, .ite (.dev s _) (.dev s _)⟩
  · exact ⟨_, rfl, .dev s _⟩

theorem execSaveAbandon_leaves (s : State) : ∃ t, execSaveAbandon s = .next t ∧ Leaves s t := by
  unfold execSaveAbandon
  dsimp only
  split <;> exact ⟨_, rfl, .dev s _⟩

/-- The rows that show anew what the outlook shows: the slack start and the starts of the device. -/
def showsAnew : Instr → Bool
  | .slackStart | .parkExit _ _ | .powerOnReset _ | .resetPin _ => true
  | _ => false

/-- Every other row leaves the queue and what is shown, and keeps the ring-area memory canonical. -/
theorem exec_leaves {i : Instr} {s t : State} (hi : showsAnew i = false) (ht : exec i s = .next t) : Leaves s t := by
  cases i
  case slackStart | parkExit | powerOnReset | resetPin => cases hi
  case hcCtlCreate | hcCtlDelete | registerWrite =>
    exact .of_next ht ⟨_, rfl, State.ctl_leaves fun u => u.ctlWrite_leaves _ _ _⟩
  case hcSqDb => exact .of_next ht ⟨_, rfl, State.ctl_leaves fun u => u.sqDoorbell_leaves _ _ _⟩
  case hcCqDb | hcYardDb | hcFlumeDb | hcEvClaim | hcEvComplete | hcEvAck =>
    exact .of_next ht ⟨_, rfl, State.ctl_leaves fun u => .dev u _⟩
  case h2Command => exact .of_next ht ⟨_, rfl, State.h2Take_leaves fun y u => u.h2Place_leaves y _⟩
  case h2CqAck | h2Keepalive => exact .of_next ht ⟨_, rfl, State.h2Take_leaves fun _ u => .dev u _⟩
  case h2RetransmitTimeout =>
    exact .of_next ht ⟨_, rfl, .ite ((Leaves.dev s _).trans (State.completionDgram_leaves _ _ _ _)) (.dev s _)⟩
  case h3Write b whole => exact .of_next ht (execH3Write_leaves b whole s)
  case h3Read b sent => exact .of_next ht (execH3Read_leaves b sent s)
  case ringScan dma => exact .of_next ht ⟨_, rfl, (Leaves.dev s _).trans (State.scanStep_leaves _ dma)⟩
  case completionPost => exact .of_next ht ⟨_, rfl, (Leaves.dev s _).trans (State.post_leaves _ _)⟩
  case byRefPayloadRead | fenceClear => exact .of_next ht ⟨_, rfl, .ite (.dev s _) (.dev s _)⟩
  case saveCommit us mv => exact .of_next ht (execSaveCommit_leaves us mv s)
  case saveAbandon => exact .of_next ht (execSaveAbandon_leaves s)
  all_goals
    refine .of_next ht ⟨_, rfl, ?_⟩
    simp only [State.run_leaves, State.live_leaves]

/-! ### The rows that show anew -/

/-- The queue is as before, and the ring-area memory canonical where it was. -/
def KeepsQueueAndForm (s t : State) : Prop := t.pending = s.pending ∧ (s.memOk → t.memOk)

theorem Leaves.keepsQueueAndForm {s t : State} (h : Leaves s t) : KeepsQueueAndForm s t := ⟨h.pending, h.mem⟩

/-- R480: a start empties the ring areas; the queue is no part of the device. -/
theorem State.start_keepsQueueAndForm (s : State) (pin : Bool) (u : StartUp) : KeepsQueueAndForm s (s.fresh.start pin u) :=
  ⟨rfl, fun _ => Memory.wf_nil⟩

/-- No row changes the queue or breaks the form of the ring-area memory. -/
theorem exec_keepsQueueAndForm {i : Instr} {s t : State} (ht : exec i s = .next t) : KeepsQueueAndForm s t := by
  cases hi : showsAnew i with
  | false => exact (exec_leaves hi ht).keepsQueueAndForm
  | true =>
    cases i
    case slackStart =>
      cases ht
      split <;> exact ⟨rfl, memOk_of_mem_eq rfl⟩
    case parkExit cause u =>
      change execParkExit cause u s = .next t at ht
      unfold execParkExit at ht
      dsimp only at ht
      split at ht <;> cases ht
      · exact s.start_keepsQueueAndForm _ u
      · exact ⟨rfl, id⟩
    case powerOnReset u =>
      cases ht
      exact s.start_keepsQueueAndForm false u
    case resetPin u =>
      change execResetPin u s = .next t at ht
      unfold execResetPin at ht
      dsimp only at ht
      split at ht <;> cases ht
      · exact ⟨rfl, id⟩
      · exact s.start_keepsQueueAndForm true u
    all_goals cases hi

/-! ### The queue (log entry 3) -/

theorem step_of_pending {s : State} {c : Instr} {rest : List Instr} (h : s.pending = c :: rest) :
    step s = exec c { s with pending := rest } := by
  rw [step, h]

theorem step_of_no_pending {s : State} (h : s.pending = []) : step s = .next s := by
  rw [step, h]

end Sys2Proof.Machine

open Sys2Proof Sys2Proof.Machine

/-- Settles O1: the front of the queue and its rest are what the step takes apart. -/
theorem stepRunsFrontCommand : Obligations.StepRunsFrontCommand := by
  unfold Obligations.StepRunsFrontCommand
  exact fun _ _ _ h => step_of_pending h

/-- Settles O2: the step of an empty queue is to stay. -/
theorem emptyQueueIdles : Obligations.EmptyQueueIdles := by
  unfold Obligations.EmptyQueueIdles
  exact fun _ h => step_of_no_pending h

/-- Settles O4: no row reaches the queue, the starts of the device included. -/
theorem execLeavesQueueAlone : Obligations.ExecLeavesQueueAlone := by
  unfold Obligations.ExecLeavesQueueAlone
  exact fun _ _ _ ht => (exec_keepsQueueAndForm ht).1

/-- Settles O5: by induction on the queue, each step answers a next state (O3) whose queue is the rest (O4). -/
theorem queueDrains : Obligations.QueueDrains := by
  unfold Obligations.QueueDrains
  intro s
  generalize hq : s.pending = q
  induction q generalizing s with
  | nil => exact ⟨s, rfl, hq⟩
  | cons c rest ih =>
    obtain ⟨t, ht⟩ := everyStepAnswersNext c { s with pending := rest }
    obtain ⟨u, hu, hempty⟩ := ih t (execLeavesQueueAlone _ _ _ ht)
    refine ⟨u, ?_, hempty⟩
    rw [List.length_cons, stepN, step_of_pending hq, ht]
    exact hu

/-- Settles O6: after reset no byte is listed. -/
theorem resetMemoryIsCanonical : Obligations.ResetMemoryIsCanonical := by
  unfold Obligations.ResetMemoryIsCanonical
  exact Memory.wf_nil

/-- Settles O7: a step without a command changes nothing, and every row keeps the form. -/
theorem stepKeepsMemoryCanonical : Obligations.StepKeepsMemoryCanonical := by
  unfold Obligations.StepKeepsMemoryCanonical
  intro s t hm ht
  cases hq : s.pending with
  | nil =>
    rw [step_of_no_pending hq] at ht
    cases ht
    exact hm
  | cons c rest =>
    rw [step_of_pending hq] at ht
    exact (exec_keepsQueueAndForm ht).2 hm

/-- Settles O11: the rows named are those that show anew; every other row leaves what is shown. -/
theorem shownRecordsChangeOnlyAtSlack : Obligations.ShownRecordsChangeOnlyAtSlack := by
  unfold Obligations.ShownRecordsChangeOnlyAtSlack
  intro i s t ht
  have hshown : showsAnew i = false → t.shown = s.shown := fun hi => (exec_leaves hi ht).shown
  cases i
  case slackStart | parkExit | powerOnReset | resetPin => trivial
  all_goals exact hshown rfl
end

section
/-! SUPPORT. Flags of a register: one bit set, the bits that a mask leaves; and the two events
they make (R411, R478). -/

namespace Sys2Proof.Machine

/-- Setting a bit sets it, and no other. -/
theorem bit_setBit (n v i : Nat) : bit (setBit n v) i = (bit n i || decide (i = v)) := by
  simp [bit, setBit, Nat.testBit_two_pow, eq_comm]

/-- A mask leaves no bit exactly where it holds them all. -/
theorem clearMask_eq_zero_iff (n m : Nat) : clearMask n m = 0 ↔ n &&& m = n := by
  have hle : n &&& m ≤ n := Nat.and_le_left
  rw [clearMask]
  omega

/-- What a mask leaves of a register is not 0 exactly where some bit of it is outside the mask. -/
theorem clearMask_ne_zero_iff (n m : Nat) : clearMask n m ≠ 0 ↔ ∃ i, bit n i = true ∧ bit m i = false := by
  have hin : n &&& m = n ↔ ∀ i, bit n i = true → bit m i = true := by
    simp only [Nat.eq_iff_testBit_eq, Nat.testBit_and, bit, Bool.and_eq_left_iff_imp]
  rw [Ne, clearMask_eq_zero_iff, hin]
  simp only [not_forall, Bool.not_eq_true, exists_prop]

/-- The port changed, where the device has it. -/
theorem Dev.prt_onPort {d : Dev} {p : Nat} (h : p < d.hp.ports.length) (f : Port → Port) :
    (d.onPort p f).prt p = f (d.prt p) := by
  simp [Dev.prt, Dev.onPort, Hp.port, upd, h]

@[simp] theorem Dev.onVec_ports_length (d : Dev) (p v : Nat) (f : Vec → Vec) :
    (d.onVec p v f).hp.ports.length = d.hp.ports.length := by
  simp [Dev.onVec, Hp.vec, Hp.port, upd]

/-- R411: a message on a vector of H3 is a bit of `HC_IRQ_VEC`. -/
theorem Dev.issue_h3 {d : Dev} (h : d.hp.ports.length = 4) (v : Nat) :
    ((d.issue 3 v).prt 3).irqVec = setBit (d.prt 3).irqVec v := by
  have hissue : ∃ f, d.issue 3 v = (d.onVec 3 v f).onPort 3 (fun (q : Port) => { q with irqVec := setBit q.irqVec v }) :=
    ⟨_, rfl⟩
  obtain ⟨f, e⟩ := hissue
  have hvec : (d.onVec 3 v f).prt 3 = { d.prt 3 with vecs := upd (d.prt 3).vecs v f } := Dev.prt_onPort (by omega) _
  rw [e, Dev.prt_onPort (by rw [Dev.onVec_ports_length]; omega), hvec]

/-- R478: what a reading of VBAT makes of the flag and the events. -/
def Pwr.readVbat (p : Pwr) (mv : Nat) : Pwr :=
  { p with
    vbat := mv, vbatLow := decide (mv < 2200)
    events := if decide (mv < 2200) && !p.vbatLow then setBit p.events 4 else p.events }

theorem vbatLow_gives {s : State} (mv : Nat) (hr : s.dev.running = true) :
    Gives s (.vbatLow mv) (fun d => d.onPwr (fun (p : Pwr) => p.readVbat mv)) :=
  gives_of_live rfl hr rfl

/-- R478: the event's bit is set where the flag becomes set; no other is. -/
theorem Pwr.bit_readVbat_events (p : Pwr) (mv i : Nat) :
    bit (p.readVbat mv).events i = (bit p.events i || (decide (i = 4) && decide (mv < 2200) && !p.vbatLow)) := by
  have he : (p.readVbat mv).events = if decide (mv < 2200) && !p.vbatLow then setBit p.events 4 else p.events := rfl
  rw [he, Bool.and_assoc]
  cases decide (mv < 2200) && !p.vbatLow
  · simp
  · simp [bit_setBit]

end Sys2Proof.Machine

open Sys2Proof Sys2Proof.Machine

/-- Settles O52: a message sets one bit; the line is low where the mask leaves a bit of the register; at reset the mask is all
ones. -/
theorem irqLineOfH3 : Obligations.IrqLineOfH3 := by
  unfold Obligations.IrqLineOfH3
  refine ⟨fun d v hl _ i => ?message, fun q => ?line, fun v hv => ?masked⟩
  case message => rw [Dev.issue_h3 hl, bit_setBit]
  case line => rw [Port.irq, bne_iff_ne, clearMask_ne_zero_iff]
  case masked =>
    have hm : (State.reset.dev.prt 3).irqMask = 2 ^ 64 - 1 := rfl
    rw [hm, bit, Nat.testBit_two_pow_sub_one, decide_eq_true hv]

/-- Settles O53: the reading writes the flag, and the event's bit where the flag was clear. -/
theorem vbatLowAndItsEvent : Obligations.VbatLowAndItsEvent := by
  unfold Obligations.VbatLowAndItsEvent
  intro s mv hr
  exact ⟨_, vbatLow_gives mv hr, decide_eq_true_iff, Pwr.bit_readVbat_events s.dev.pwr mv⟩
end

section
/-! SUPPORT. Rows of the supplies: what a save, a park and a reset pin do in the state of the supply that their rules name
(R465-R469). -/

namespace Sys2Proof.Machine

section
variable {s : State}

/-- R467: a commit at 6.7 V or above, while a set is being saved. -/
theorem saveCommit_gives {a us mv : Nat} (hs : s.dev.pwr.supply = .saving a) (hv : 6700 ≤ mv) :
    Gives s (.saveCommit us mv) (fun d => d.commitSave a us mv) := by
  show execSaveCommit us mv s = _
  simp only [execSaveCommit, State.fresh_dev_pwr, hs, if_pos hv]
  rfl

/-- R467: a save given up. -/
theorem saveAbandon_gives {a : Nat} (hs : s.dev.pwr.supply = .saving a) :
    Gives s .saveAbandon (fun d =>
      (d.onPwr (fun (p : Pwr) => { p with draft := none, lastSave := 3, supply := .park })).log 0x02 0xFFFF 0) := by
  show execSaveAbandon s = _
  simp only [execSaveAbandon, State.fresh_dev_pwr, hs]
  rfl

/-- R468, R469: park ends in a start; a `RESET_N` that waited makes it one by the pin. -/
theorem exec_parkExit (x : ParkExit) (u : StartUp) (hs : s.dev.pwr.supply = .park) :
    exec (.parkExit x u) s = .next (s.fresh.start (s.dev.pwr.resetWait || decide (x = .pin)) u) := by
  show execParkExit x u s = _
  simp only [execParkExit, State.fresh_dev_pwr, hs]

/-- R469: outside a save the pin starts the device at once. -/
theorem exec_resetPin (u : StartUp) (hs : ∀ a, s.dev.pwr.supply ≠ .saving a) :
    exec (.resetPin u) s = .next (s.fresh.start true u) := by
  show execResetPin u s = _
  unfold execResetPin
  dsimp only
  split
  · next a h => exact absurd h (hs a)
  · rfl

/-- R469: during a save the pin waits for park. -/
theorem resetPin_gives {a : Nat} (u : StartUp) (hs : s.dev.pwr.supply = .saving a) :
    Gives s (.resetPin u) (fun d => d.onPwr (fun (p : Pwr) => { p with resetWait := true })) := by
  show execResetPin u s = _
  simp only [execResetPin, State.fresh_dev_pwr, hs]
  rfl

end

end Sys2Proof.Machine

open Sys2Proof Sys2Proof.Machine

/-- Settles O48: five rows go by the state of the supply, a power-on reset has no condition, and the others are steps of the
running device. -/
theorem powerRowsComplete : Obligations.PowerRowsComplete := by
  unfold Obligations.PowerRowsComplete
  refine ⟨?sag, ?commit, ?abandon, ?arm, ?park, ?powerOn, ?pin, ?pinWaits, ?watchdog, ?ecc, ?vbat, ?dip⟩
  case sag => exact fun _ _ _ hr hv => gives_of_live rfl hr (if_pos hv)
  case commit => exact fun _ _ _ _ hs hv => saveCommit_gives hs hv
  case abandon => exact fun _ _ hs => saveAbandon_gives hs
  case park => exact fun _ x u hs => exec_parkExit x u hs
  case powerOn => exact fun _ _ => rfl
  case pin => exact fun _ u hs => exec_resetPin u hs
  case pinWaits => exact fun _ u _ hs => resetPin_gives u hs
  case vbat => exact fun _ mv hr => vbatLow_gives mv hr
  case arm | dip => exact fun _ _ hr => gives_of_live rfl hr rfl
  case watchdog | ecc => exact fun _ hr => gives_of_live rfl hr rfl
end

section
/-! SUPPORT. Rows of CAN, cell time and the check values. -/

namespace Sys2Proof.Machine

@[simp] theorem State.fresh_dev_can (s : State) (n : Nat) : s.fresh.dev.can n = s.dev.can n := rfl
@[simp] theorem State.fresh_dev_prt (s : State) (n : Nat) : s.fresh.dev.prt n = s.dev.prt n := rfl

end Sys2Proof.Machine

open Sys2Proof Sys2Proof.Machine

/-- Settles O46: a CAN row finds its channel taking part in the traffic of its bus, a PTP row its port with a mode and, for
messages, a link; the other rows have no condition. -/
theorem canTimeAndCheckRowsComplete : Obligations.CanTimeAndCheckRowsComplete := by
  unfold Obligations.CanTimeAndCheckRowsComplete
  refine ⟨?rx, ?tx, ?busOff, ?recovered, ?compare, ?used, ?unused, ?send, ?stamp, ?loss, ?unit, ?timeout, ?error⟩
  case rx =>
    intro s ch id flags dlc ns data hr ht hm hf
    exact gives_of_live rfl hr (if_neg (by simpa [ht, hm] using hf))
  case tx => exact fun _ _ _ _ _ _ hr ht h2 h9 => gives_of_live rfl hr (if_pos ⟨ht, h2, h9⟩)
  case busOff => exact fun _ _ hr ht hc => gives_of_live rfl hr (if_pos ⟨ht, hc⟩)
  case recovered => exact fun _ ch hr => gives_of_live (f := fun d => d.onCan ch.val Can.recovered) rfl hr rfl
  case compare | unit => exact fun _ _ _ hr => gives_of_live rfl hr rfl
  case timeout => exact fun _ unit hr => gives_of_live (f := fun d => d.onCrcu unit.val Crcu.timeout) rfl hr rfl
  case used | unused => exact fun _ _ _ _ _ hr hm hl hu => gives_of_live rfl hr (by simp [hm, hl, hu])
  case send => exact fun _ _ hr hm hl => gives_of_live rfl hr (by simp [hm, hl])
  case stamp => exact fun _ _ _ _ hr hm => gives_of_live rfl hr (if_neg hm)
  case loss => exact fun _ hr hm => gives_of_live rfl hr (if_neg hm)
  case error => exact fun _ _ _ _ _ hr ht h1 h6 => gives_of_live rfl hr (if_pos ⟨ht, h1, h6⟩)
end

section
/-! SUPPORT. Commands of the field inputs and outputs, the CAN channels, cell time, power, the ports, the stroke, the firmware
slots and the compartments. -/

namespace Sys2Proof.Machine

/-- The CAN channels. -/
theorem tableOf_cans : TableOf (fun b e => { b with cans := e.cans }) Dev.cans Dev.onCan :=
  ⟨⟨fun _ => rfl, fun _ _ _ _ _ _ _ => rfl⟩, fun _ _ _ => rfl, fun _ _ _ => rfl, fun _ _ _ _ _ _ => rfl, fun _ => rfl⟩

theorem takesPart_io : TakesPart (fun b e => { b with io := e.io }) := ⟨fun _ => rfl, fun _ _ _ _ _ _ _ => rfl⟩

theorem takesPart_tm : TakesPart (fun b e => { b with tm := e.tm }) := ⟨fun _ => rfl, fun _ _ _ _ _ _ _ => rfl⟩

theorem takesPart_pwr : TakesPart (fun b e => { b with pwr := e.pwr }) := ⟨fun _ => rfl, fun _ _ _ _ _ _ _ => rfl⟩

theorem takesPart_hp : TakesPart (fun b e => { b with hp := e.hp }) := ⟨fun _ => rfl, fun _ _ _ _ _ _ _ => rfl⟩

theorem takesPart_stk : TakesPart (fun b e => { b with stk := e.stk }) := ⟨fun _ => rfl, fun _ _ _ _ _ _ _ => rfl⟩

theorem takesPart_fw : TakesPart (fun b e => { b with fw := e.fw }) := ⟨fun _ => rfl, fun _ _ _ _ _ _ _ => rfl⟩

theorem takesPart_cps : TakesPart (fun b e => { b with cps := e.cps }) := ⟨fun _ => rfl, fun _ _ _ _ _ _ _ => rfl⟩

section
variable (c : Cmd) (d : Dev)

/-! ### Commands that may find nothing to change, and one on two kinds of object -/

/-- R424: an input whose test is as asked for stays as it is. -/
theorem specDiTest_dev : (specDiTest.apply c d).dev = { d with io := (specDiTest.apply c d).dev.io } := by
  unfold specDiTest
  dsimp only
  split <;> rfl

/-- R428: an output without a live cause stays as it is. -/
theorem specDoFaultClear_dev : (specDoFaultClear.apply c d).dev = { d with io := (specDoFaultClear.apply c d).dev.io } := by
  unfold specDoFaultClear
  dsimp only
  split <;> rfl

/-- R442: the flags of an input or of an output. -/
theorem specIoFlagsClear_dev : (specIoFlagsClear.apply c d).dev = { d with io := (specIoFlagsClear.apply c d).dev.io } := by
  unfold specIoFlagsClear
  dsimp only
  split <;> rfl

/-- R457: a unit as it is asked for stays as it is. -/
theorem specCrcEnable_dev : (specCrcEnable.apply c d).dev = { d with tm := (specCrcEnable.apply c d).dev.tm } := by
  unfold specCrcEnable
  dsimp only
  split <;> rfl

/-- R389: an empty slot stays as it is. -/
theorem specFwDiscard_dev : (specFwDiscard.apply c d).dev = { d with fw := (specFwDiscard.apply c d).dev.fw } := by
  unfold specFwDiscard
  dsimp only
  split <;> rfl

/-! ### CAN channels that start and recover -/

variable {c d}

/-- R432: a channel that is not stopped stays as it is. -/
theorem specCanStart_started (h : (d.can c.idx).state ≠ 0) : specCanStart.apply c d = d.says ST.noChange := if_pos h

/-- R432, R442: a stopped channel becomes error-active, its error counters at 0. -/
theorem specCanStart_stopped (h : (d.can c.idx).state = 0) :
    specCanStart.apply c d = (d.onCan c.idx (fun (x : Can) => ({ x with tec := 0, recv := 0 } : Can).setState 1)).done :=
  if_neg (not_not_intro h)

/-- R439: only a bus-off channel recovers. -/
theorem specCanRecover_other (h : (d.can c.idx).state ≠ 3) : specCanRecover.apply c d = d.says ST.noChange := if_pos h

/-- R439: a bus-off channel goes into recovery. -/
theorem specCanRecover_busOff (h : (d.can c.idx).state = 3) :
    specCanRecover.apply c d = (d.onCan c.idx (fun (x : Can) => x.setState 4)).done :=
  if_neg (not_not_intro h)

variable (c d)

theorem specCanStart_entry : AtMostEntry Dev.onCan c.idx d (specCanStart.apply c d).dev := by
  by_cases h : (d.can c.idx).state = 0
  · exact .inr ⟨_, by rw [specCanStart_stopped h]; rfl⟩
  · exact .inl (by rw [specCanStart_started h]; rfl)

theorem specCanRecover_entry : AtMostEntry Dev.onCan c.idx d (specCanRecover.apply c d).dev := by
  by_cases h : (d.can c.idx).state = 3
  · exact .inr ⟨_, by rw [specCanRecover_busOff h]; rfl⟩
  · exact .inl (by rw [specCanRecover_other h]; rfl)

end

/-! ### What a channel and an input then hold -/

@[simp] theorem Can.setState_state (x : Can) (n : Nat) : (x.setState n).state = n := by
  unfold Can.setState
  split
  · assumption
  · rfl

@[simp] theorem Can.setState_tec (x : Can) (n : Nat) : (x.setState n).tec = x.tec := by
  unfold Can.setState
  split <;> rfl

@[simp] theorem Can.setState_recv (x : Can) (n : Nat) : (x.setState n).recv = x.recv := by
  unfold Can.setState
  split <;> rfl

/-- The channel changed, where the device has it. -/
theorem Dev.can_onCan {d : Dev} {i : Nat} (h : i < d.cans.length) (f : Can → Can) : (d.onCan i f).can i = f (d.can i) := by
  simp [Dev.can, Dev.onCan, upd, h]

/-- The input changed, where the device has it. -/
theorem Dev.di_onDi {d : Dev} {i : Nat} (h : i < d.io.dis.length) (f : Di → Di) : (d.onDi i f).di i = f (d.di i) := by
  simp [Dev.di, Dev.onDi, upd, h]

/-- An accepted packet that is not planned leaves what its effect leaves, where its bookkeeping does not reach. -/
theorem next_of_apply {α : Type} {get : Dev → α} {i : Instr} {sp : Spec} {c : Cmd} {s : State}
    (hi : rowPacket i = some (sp, c)) (hn : (sp.timing == .plan) = false)
    (hg : ∀ d fl r t a b, get (Dev.rebook d fl r t a b) = get d) (h : s.accepts sp c = true) :
    ∃ t, exec i s = .next t ∧ get t.dev = get (sp.apply c s.fresh.dev).dev := by
  obtain ⟨fl, r, t, a, b, e⟩ := State.run_accepted_dev h
  have hd : (s.run sp c).dev = (sp.carry c s.fresh.dev).dev.rebook fl r t a b := e
  exact ⟨_, exec_of_rowPacket hi s, by rw [hd, hg, Spec.carry_unplanned hn]⟩

section
variable {s : State} {c : Cmd}

/-- R422: an accepted DI_CONFIGURE writes four fields of its input. -/
theorem exec_diConfigure (h : s.accepts specDiConfigure c = true) (hi : c.idx < s.dev.io.dis.length) :
    ∃ t, exec (.diConfigure c) s = .next t ∧ t.dev.di c.idx =
      { s.dev.di c.idx with
        diType := u8 c.payload 0, edgeEvents := u8 c.payload 1, cntN := u16 c.payload 2, debounce := u32 c.payload 4 } := by
  obtain ⟨t, ht, hdi⟩ := next_of_apply (get := fun d => d.di c.idx) (i := .diConfigure c) rfl rfl (fun _ _ _ _ _ _ => rfl) h
  exact ⟨t, ht, hdi.trans (Dev.di_onDi (d := s.fresh.dev) hi _)⟩

/-- R439: an accepted CAN_RECOVER of a bus-off channel. -/
theorem exec_canRecover (h : s.accepts specCanRecover c = true) (hi : c.idx < s.dev.cans.length)
    (hs : (s.dev.can c.idx).state = 3) :
    ∃ t, exec (.canRecover c) s = .next t ∧ (t.dev.can c.idx).state = 4 := by
  obtain ⟨t, ht, hcan⟩ := next_of_apply (get := fun d => d.can c.idx) (i := .canRecover c) rfl rfl (fun _ _ _ _ _ _ => rfl) h
  rw [specCanRecover_busOff (d := s.fresh.dev) hs, Dev.done_dev, Dev.can_onCan (d := s.fresh.dev) hi] at hcan
  exact ⟨t, ht, by rw [hcan, Can.setState_state]⟩

/-- R432: an accepted CAN_START of a stopped channel. -/
theorem exec_canStart (h : s.accepts specCanStart c = true) (hi : c.idx < s.dev.cans.length)
    (hs : (s.dev.can c.idx).state = 0) :
    ∃ t, exec (.canStart c) s = .next t ∧
      (t.dev.can c.idx).state = 1 ∧ (t.dev.can c.idx).tec = 0 ∧ (t.dev.can c.idx).recv = 0 := by
  obtain ⟨t, ht, hcan⟩ := next_of_apply (get := fun d => d.can c.idx) (i := .canStart c) rfl rfl (fun _ _ _ _ _ _ => rfl) h
  rw [specCanStart_stopped (d := s.fresh.dev) hs, Dev.done_dev, Dev.can_onCan (d := s.fresh.dev) hi] at hcan
  exact ⟨t, ht, by simp [hcan]⟩

end

end Sys2Proof.Machine

open Sys2Proof Sys2Proof.Machine

/-- Settles O29: five commands choose between two effects on their part, CAN_START and CAN_RECOVER may find nothing to change in
their channel, and each other effect is one update of its part. -/
theorem fieldTimePowerFrame : Obligations.FieldTimePowerFrame := by
  unfold Obligations.FieldTimePowerFrame
  refine ⟨fun c => ?field, fun c => ?channels, fun c => ?time, fun c => ?power, fun c => ?ports, fun c => ?stroke,
    fun c => ?firmware, fun c => ?compartments⟩
  all_goals simp only [List.forall_mem_cons, List.not_mem_nil, IsEmpty.forall_iff, implies_true, and_true]
  case field =>
    refine ⟨?diConfigure, ?diTest, ?supply, ?doConfigure, ?doFault, ?flags⟩
    case diTest => exact frame_of_unplanned takesPart_io rfl rfl (specDiTest_dev c)
    case doFault => exact frame_of_unplanned takesPart_io rfl rfl (specDoFaultClear_dev c)
    case flags => exact frame_of_unplanned takesPart_io rfl rfl (specIoFlagsClear_dev c)
    all_goals exact frame_of_unplanned takesPart_io rfl rfl fun _ => rfl
  case channels =>
    refine ⟨?canConfigure, ?filter, ?start, ?recover, ?canCounters⟩
    case start => exact entryFrame_of_apply tableOf_cans rfl rfl (specCanStart_entry c)
    case recover => exact entryFrame_of_apply tableOf_cans rfl rfl (specCanRecover_entry c)
    all_goals exact entryFrame_of_apply tableOf_cans rfl rfl fun _ => .inr ⟨_, rfl⟩
  case time =>
    refine ⟨?set, ?step, ?rate, ?ptp, ?latency, ?crc, ?crcEnable, ?crcCounters⟩
    case crcEnable => exact frame_of_unplanned takesPart_tm rfl rfl (specCrcEnable_dev c)
    all_goals exact frame_of_unplanned takesPart_tm rfl rfl fun _ => rfl
  case power =>
    refine ⟨?save, ?backup, ?options, ?resetCounters⟩
    all_goals exact frame_of_unplanned takesPart_pwr rfl rfl fun _ => rfl
  case ports =>
    refine ⟨?coalesce, ?port, ?stream⟩
    all_goals exact frame_of_unplanned takesPart_hp rfl rfl fun _ => rfl
  case stroke =>
    refine ⟨?strokeConfigure, ?strokeCounters⟩
    all_goals exact frame_of_unplanned takesPart_stk rfl rfl fun _ => rfl
  case firmware =>
    refine ⟨?stageOpen, ?stageWrite, ?activate, ?discard⟩
    case discard => exact frame_of_unplanned takesPart_fw rfl rfl (specFwDiscard_dev c)
    all_goals exact frame_of_unplanned takesPart_fw rfl rfl fun _ => rfl
  case compartments => exact frame_of_unplanned takesPart_cps rfl rfl fun _ => rfl

/-- Settles O35: three effects are one update whatever they find; the others are read off the input or the channel that they
name. -/
theorem fieldAndCanCommandsTakeEffect : Obligations.FieldAndCanCommandsTakeEffect := by
  unfold Obligations.FieldAndCanCommandsTakeEffect
  refine ⟨?di, ?supply, ?configure, ?recover, ?start, ?counters⟩
  case di => exact fun _ _ h hi => exec_diConfigure h hi
  case recover => exact fun _ _ h hi hs => exec_canRecover h hi hs
  case start => exact fun _ _ h hi hs => exec_canStart h hi hs
  all_goals exact sets_of_apply (fun _ => rfl) rfl (fun _ _ _ _ _ _ => rfl) (fun _ _ => rfl) fun _ _ => rfl
end

section
/-! SUPPORT. Rows of the transports of H2 and H3: what a datagram or a transaction that passes its checks does. -/

namespace Sys2Proof.Machine

@[simp] theorem State.fresh_dev_portUp (s : State) (p : Nat) : s.fresh.dev.portUp p = s.dev.portUp p := rfl
@[simp] theorem State.fresh_dev_running (s : State) : s.fresh.dev.running = s.dev.running := rfl
@[simp] theorem State.fresh_dev_ring (s : State) (n : Nat) : s.fresh.dev.ring n = s.dev.ring n := rfl
@[simp] theorem State.fresh_dev_psk (s : State) (k : Nat) : s.fresh.dev.psk k = s.dev.psk k := rfl
@[simp] theorem State.fresh_dev_vecSources (s : State) (p v : Nat) : s.fresh.dev.vecSources p v = s.dev.vecSources p v := rfl

section
variable {s : State}

/-! ### H2 (R403-R406) -/

/-- R404: a SETUP under its pre-shared key with a nonce not used before. -/
theorem h2Setup_gives {src : Nat} {g kp : Bytes} (hr : s.dev.running = true) (hp : s.dev.portUp 2 = true)
    (hw : dgWhole g = true) (hk : u8 g 0 = 0x01) (hl : (dgBody g).length = 24)
    (hkey : s.dev.psk (u8 (dgBody g) 0) = some kp) (ht : dgTagOk kp g = true)
    (hn : s.dev.hp.h2.nonces.contains (slice (dgBody g) 4 16) = false) (h0 : u32 g 4 = 0) :
    Gives s (.h2Setup src g) (fun d => d.setup src kp (dgBody g)) := by
  refine gives_of_live rfl hr ?_
  have hok : (s.fresh.dev.portUp 2 && dgWhole g && u8 g 0 == 0x01 && (dgBody g).length == 24) = true := by
    simp [hp, hw, hk, hl]
  have hnew : ¬ (s.fresh.dev.hp.h2.nonces.contains (slice (dgBody g) 4 16) = true ∨ u32 g 4 ≠ 0) :=
    not_or.mpr ⟨by rw [State.fresh_dev_hp, hn]; exact Bool.false_ne_true, not_not_intro h0⟩
  simp only [hok, if_true, State.fresh_dev_psk, hkey, ht, Bool.not_true, Bool.false_eq_true, if_false, if_neg hnew]

/-- R405: a whole, authentic datagram of the session whose number is accepted takes effect. -/
theorem State.h2Take_accepted {src kind : Nat} {g : Bytes} {len : Nat → Bool} {f : H2Session → State → State}
    {x y : H2Session} (hp : s.dev.portUp 2 = true) (hx : s.dev.hp.h2.session = some x) (hw : dgWhole g = true)
    (hsrc : src = x.source) (hid : u32 g 4 = x.id) (ht : dgTagOk x.key g = true) (hy : x.accept (u64 g 8) = some y) (hk : u8 g 0 = kind)
    (hl : len (u16 g 2) = true) : s.h2Take src kind g len f = f y s.fresh := by
  have hok : (s.fresh.dev.portUp 2 && dgWhole g && u8 g 0 == kind && len (u16 g 2) && src == x.source &&
      u32 g 4 == x.id) = true := by
    simp [hp, hw, hk, hl, hsrc, hid]
  unfold State.h2Take
  simp only [State.fresh_dev_hp, hx, hok, ht, hy, Bool.not_true, Bool.false_eq_true, if_false]

/-! ### H3 (R409, R410) -/

/-- R410: a whole write in its frame with a good CRC is applied. -/
theorem exec_h3Write {b : Bytes} (hp : s.dev.portUp 3 = true) (ho : u8 b 0 % 16 = 1) (hw : spiWidthOk (u8 b 0) = true)
    (hl : b.length = 9 + u16 b 5) (h4 : u16 b 5 % 4 = 0) (hmin : 4 ≤ u16 b 5) (hmax : u16 b 5 ≤ 4096)
    (hc : u16 b (7 + u16 b 5) = crc16 (b.take (7 + u16 b 5))) :
    exec (.h3Write b true) s =
      .next (let u := (s.fresh.withDev (s.fresh.dev.spiLanes (u8 b 0))).spiApply (u32 b 1) (slice b 7 (u16 b 5))
             u.withDev (u.dev.onPort 3 (fun (q : Port) => { q with lastWrite := 0 }))) := by
  have hop : (!s.fresh.dev.portUp 3 || u8 b 0 % 16 != 1) = false := by simp [hp, ho]
  have hframe : (true && spiWidthOk (u8 b 0) && b.length == 9 + u16 b 5 && u16 b 5 % 4 == 0 && decide (4 ≤ u16 b 5) &&
      decide (u16 b 5 ≤ 4096)) = true := by simp [hw, hl, h4, hmin, hmax]
  show execH3Write b true s = _
  unfold execH3Write
  simp only [hop, hframe, hc, Bool.not_true, Bool.false_eq_true, ne_eq, not_true, if_false]
  rfl

/-- R410: a read with a good CRC is answered; a claim that it has read out takes its source. -/
theorem exec_h3Read {b : Bytes} (sent : Bool) (hp : s.dev.portUp 3 = true) (ho : u8 b 0 % 16 = 2)
    (hw : spiWidthOk (u8 b 0) = true) (hl : 9 ≤ b.length) (hc : u16 b 7 = crc16 (b.take 7)) :
    exec (.h3Read b sent) s =
      .next (let u := s.fresh.withDev (s.fresh.dev.spiLanes (u8 b 0))
             let d := if sent && decide (u32 b 1 ≤ 0x100) && decide (0x104 ≤ u32 b 1 + u16 b 5) then u.dev.claim 3 else u.dev
             u.withDev (d.send (.spi (spiReply ((List.range (u16 b 5)).map (fun (k : Nat) => u.spiByte (u32 b 1 + k))))))) := by
  have hop : (!s.fresh.dev.portUp 3 || u8 b 0 % 16 != 2) = false := by simp [hp, ho]
  have hframe : ¬ (b.length < 9 ∨ (!spiWidthOk (u8 b 0)) = true) := by simp [hw, hl]
  show execH3Read b sent s = _
  unfold execH3Read
  simp only [hop, if_neg hframe, hc, Bool.false_eq_true, ne_eq, not_true, if_false]
  rfl

/-- R410: a status request with a good CRC is answered. -/
theorem h3Status_gives {b : Bytes} (hr : s.dev.running = true) (hp : s.dev.portUp 3 = true) (ho : u8 b 0 % 16 = 3)
    (hw : spiWidthOk (u8 b 0) = true) (hl : 3 ≤ b.length) (hc : u16 b 1 = crc16 (b.take 1)) :
    Gives s (.h3Status b) (fun d => ((d.spiLanes (u8 b 0)).onPort 3 (fun (q : Port) => { q with lastWrite := 1 })).send
      (.spi (spiReply (e32 (d.spiLanes (u8 b 0)).spiStatus)))) := by
  have hop : ¬ (u8 b 0 % 16 ≠ 3 ∨ (!s.fresh.dev.portUp 3) = true) := by simp [hp, ho]
  have hframe : ¬ (b.length < 3 ∨ (!spiWidthOk (u8 b 0)) = true) := by simp [hw, hl]
  exact gives_of_live rfl hr ((if_neg hop).trans ((if_neg hframe).trans (if_neg (not_not_intro hc))))

end

end Sys2Proof.Machine

open Sys2Proof Sys2Proof.Machine

/-- Settles O39: three datagrams of the session are taken the same way; a SETUP, and the transactions of H3, pass their own
checks; repeats and timeouts have the condition that their rule names. -/
theorem transportRowsComplete : Obligations.TransportRowsComplete := by
  unfold Obligations.TransportRowsComplete
  refine ⟨?setup, ?session, ?retransmit, ?again, ?h2Timeout, ?write, ?read, ?status, ?h3Timeout⟩
  case setup => exact fun _ _ _ _ hr hp hw hk hl hkey ht hn h0 => h2Setup_gives hr hp hw hk hl hkey ht hn h0
  case session =>
    intro s src g x y hp hx hw hsrc hid ht hy
    refine ⟨fun hk hl => ?_, fun hk hl => ?_, fun hk hl => ?_⟩
    all_goals exact congrArg Host.Outcome.next (State.h2Take_accepted hp hx hw hsrc hid ht hy hk (by simpa using hl))
  case retransmit =>
    intro s ring hr hs hp
    have hon : (s.fresh.dev.running && (s.fresh.dev.ring ring.val).state != 0 &&
        (s.fresh.dev.ring ring.val).port == 2) = true := by
      simp [hr, hs, hp]
    exact congrArg Host.Outcome.next (if_pos hon)
  case again => exact fun _ _ hr hv ha hp => gives_of_live rfl hr (by simp [hv, ha, hp])
  case h2Timeout => exact fun _ hr => gives_of_live (f := Dev.loseH2) rfl hr rfl
  case write => exact fun _ _ hp ho hw hl h4 hmin hmax hc => exec_h3Write hp ho hw hl h4 hmin hmax hc
  case read => exact fun _ _ sent hp ho hw hl hc => exec_h3Read sent hp ho hw hl hc
  case status => exact fun _ _ hr hp ho hw hl hc => h3Status_gives hr hp ho hw hl hc
  case h3Timeout => exact fun _ hr ho => gives_of_live rfl hr (if_pos ho)
end
